-- ==== Sys2Proof/Word.lean ====
section
/-!
DEFINITION. The words the block keeps as bits: those whose width and wrapping the spec states.
Everything the spec gives as a number in a range, never masked or shifted, is a `Nat` or an `Int` elsewhere.
-/

namespace Sys2Proof

/-- A byte on a port, and a sense-link tag or electrode code (11.2, R87, R92). -/
abbrev Byte := BitVec 8

/-- A reading of the free-running count of tu, 24 bits and wrapping (Conventions, R6). -/
abbrev Tick := BitVec 24

/-- A frame number, 16 bits and wrapping (R6, R9). -/
abbrev FrameNo := BitVec 16

/-- A CRC of driven lines, or a check (R76, 11.2). -/
abbrev Crc := BitVec 16

/-- A 16-bit counter that wraps from 65,535 to 0 (R21, R42, R103, R115, R162). -/
abbrev Counter16 := BitVec 16

/-- The supervision monitor's own elapsed count, 26 bits (R152). -/
abbrev Elapsed := BitVec 26

/-- The sense front-end's noise figure, 0..4,095 (R93). -/
abbrev Noise := BitVec 12

/-- The reading `n` tu after the reading `t`, modulo 2^24 (R6). -/
def Tick.after (t : Tick) (n : Nat) : Tick := t + BitVec.ofNat 24 n

/-- The tu from the reading `a` to the reading `b`, modulo 2^24 (R6). -/
def Tick.since (b a : Tick) : Nat := (b - a).toNat

end Sys2Proof
end

