-- ==== Sys2Proof/Syntax.lean ====
section
/-!
DEFINITION. The commands of the block: one constructor of `Instr` per row of spec/opcode_table.json, and the
values a command carries. A request's enumerated parameter is an `Option`: `none` is a code that names no choice.
-/

namespace Sys2Proof

/-- Panel 0 is the cluster panel, panel 1 the centre panel (Conventions). -/
inductive Panel where
  | cluster
  | centre
  deriving DecidableEq, Repr

/-- The two SPI target ports (System picture). -/
inductive Port where
  | supervisor
  | media
  deriving DecidableEq, Repr

/-- The nine fields of a timing configuration (R1). -/
structure Timing where
  nAct : Nat
  tLine : Nat
  nVb : Nat
  tSet : Nat
  tSkip : Nat
  tMin : Nat
  tNom : Nat
  tMax : Nat
  planLead : Nat
  deriving DecidableEq, Repr

/-- Where a panel takes its marker from (R12). -/
inductive MarkerSource where
  | none
  | external
  | partner
  deriving DecidableEq, Repr

/-- The five lock settings (R12). -/
structure LockSettings where
  source : MarkerSource
  slewLimit : Nat
  lockWindow : Nat
  missLimit : Nat
  partnerOffset : Nat
  deriving DecidableEq, Repr

/-- The lock settings as LOCK_MODE carries them (R13). -/
structure LockRequest where
  source : Option MarkerSource
  slewLimit : Nat
  lockWindow : Nat
  missLimit : Nat
  partnerOffset : Nat
  deriving DecidableEq, Repr

/-- The class of a band (R22, R28); `guarded` is the spec's PROTECTED. -/
inductive BandClass where
  | normal
  | guarded
  deriving DecidableEq, Repr

/-- One band of a stored layout (R24, R175). -/
structure BandSpec where
  lines : Nat
  cls : BandClass
  holdLimit : Nat
  deriving DecidableEq, Repr

/-- One band entry as BAND_LAYOUT carries it (R25). -/
structure BandEntry where
  lines : Nat
  cls : Option BandClass
  holdLimit : Nat
  deriving DecidableEq, Repr

/-- What DAMAGE names (R30). -/
inductive DamageTarget where
  | cluster
  | centre
  | canvas
  deriving DecidableEq, Repr

/-- A line range of DAMAGE, both ends included, lines 0..65,535 (R30). -/
structure LineRange where
  first : Nat
  last : Nat
  deriving DecidableEq, Repr

/-- The mode of a line watch (R83); `repeating` is the spec's REPEAT. -/
inductive WatchMode where
  | oneShot
  | repeating
  deriving DecidableEq, Repr

/-- The output polarity of a backlight (R105). -/
inductive PwmPolarity where
  | activeHigh
  | activeLow
  deriving DecidableEq, Repr

/-- The five settings of a backlight dimmer (R105). -/
structure DimmerSettings where
  target : Nat
  ramp : Nat
  periods : Nat
  polarity : PwmPolarity
  cap : Nat
  deriving DecidableEq, Repr

/-- The dimmer settings as BACKLIGHT carries them (R106). -/
structure DimmerRequest where
  target : Nat
  ramp : Nat
  periods : Nat
  polarity : Option PwmPolarity
  cap : Nat
  deriving DecidableEq, Repr

/-- The five scan settings of the touch scheduler (R88). -/
structure ScanSettings where
  tGuard : Nat
  listenBursts : Nat
  edgeGuard : Nat
  crossCoupling : Bool
  timeout : Nat
  deriving DecidableEq, Repr

/-- The scan settings as TOUCH_GROUPS carries them (R89). -/
structure ScanRequest where
  tGuard : Nat
  listenBursts : Nat
  edgeGuard : Nat
  crossCoupling : Option Bool
  timeout : Nat
  deriving DecidableEq, Repr

/-- A touch group without its age (R87). -/
structure GroupSpec where
  id : Nat
  code : Byte
  interval : Nat
  bursts : Nat
  enabled : Bool
  deriving DecidableEq, Repr

/-- One group entry as TOUCH_GROUPS carries it (R89). -/
structure GroupEntry where
  id : Nat
  code : Byte
  interval : Nat
  bursts : Nat
  enabled : Option Bool
  deriving DecidableEq, Repr

/-- The permission of a frequency candidate (R96). -/
inductive Permission where
  | allowed
  | banned
  deriving DecidableEq, Repr

/-- One candidate as FREQ_TABLE carries it (R97). -/
structure FreqEntry where
  period : Nat
  permission : Option Permission
  deriving DecidableEq, Repr

/-- The causes CLEAR_FAULT names; `other` says that it also names something that is no cause (R160). -/
structure CauseMask where
  supervision : Bool
  integrity : Bool
  power : Bool
  other : Bool
  deriving DecidableEq, Repr, Inhabited

/-- A list of varying length as the parameters of a request carry it: its whole entries, and whether the parameters end
with the last of them. Parameters may stop inside an entry or before the list begins; the owning block's own check of the
count then fails (R166, check 3). -/
structure Carried (α : Type) where
  entries : List α
  whole : Bool
  deriving DecidableEq, Repr

/-- A list that is carried whole. -/
def Carried.all {α : Type} (entries : List α) : Carried α := { entries := entries, whole := true }

/-- The list carried with every entry read by `f`. -/
def Carried.map {α β : Type} (f : α → β) (c : Carried α) : Carried β :=
  { entries := c.entries.map f, whole := c.whole }

/-- The list carried is whole and has as many entries as the request states (R25 check 4, R30 check 4, R89 check 2). -/
def Carried.counts {α : Type} (c : Carried α) (n : Nat) : Bool := c.whole && n == c.entries.length

/-- A request with its parameters, as a port hands it to the block that owns it (R166). A request that names a
panel, a band, a window or a grant gives the number it carries; the owning rule judges it. A list comes with the
count the request states, because the owning rule compares the two (R166, check 3). -/
inductive Request where
  | panelConfig (panel : Nat) (timing : Timing)
  | lockMode (panel : Nat) (settings : LockRequest)
  | bandLayout (panel : Nat) (bMax : Nat) (bandCount : Nat) (entries : Carried BandEntry)
  | damage (target : Option DamageTarget) (rangeCount : Nat) (ranges : Carried LineRange)
  | fullRefresh (panel : Nat)
  | subscribe (panel : Nat) (setting : Option Bool)
  | lineWatch (panel : Nat) (position : Nat) (line : Nat) (mode : Option WatchMode)
  | crcSet (band : Nat) (crc : Crc) (limit : Nat)
  | touchGroups (scan : ScanRequest) (groupCount : Nat) (entries : Carried GroupEntry)
  | touchEnable
  | touchDisable
  | freqTable (candidates : List FreqEntry) (hysteresis : Nat) (hopHold : Nat)
  | touchRead
  | backlight (panel : Nat) (settings : DimmerRequest)
  | windowOpen (window canvasBase panelBase sizeCode limit : Nat)
  | windowClose (window : Nat)
  | windowRead
  | writeOpen (panel first last lifetime : Nat)
  | writeClose (grant : Nat) (crcs : Carried Crc)
  | panelOn (panel tA tB tC : Nat)
  | panelStart (panel : Nat)
  | panelStop (panel : Nat)
  | panelOff (panel : Nat)
  | superviseStart (period fraction : Nat)
  | keepalive
  | recover
  | clearFault (causes : CauseMask)
  | mediaEnable
  | mediaDisable
  | setTimingLock (setting : Option Bool)
  | status (portion : Nat)
  | identify
  | resetDevice
  | profileWrite (autoCluster autoCentre : Option Bool)
  | profileRead (portion : Nat)
  deriving DecidableEq, Repr

/-- The request code (11.2: 0x01.. in the order of the request table of R166). -/
def Request.code : Request → Byte
  | .panelConfig .. => 0x01
  | .lockMode .. => 0x02
  | .bandLayout .. => 0x03
  | .damage .. => 0x04
  | .fullRefresh .. => 0x05
  | .subscribe .. => 0x06
  | .lineWatch .. => 0x07
  | .crcSet .. => 0x08
  | .touchGroups .. => 0x09
  | .touchEnable => 0x0A
  | .touchDisable => 0x0B
  | .freqTable .. => 0x0C
  | .touchRead => 0x0D
  | .backlight .. => 0x0E
  | .windowOpen .. => 0x0F
  | .windowClose .. => 0x10
  | .windowRead => 0x11
  | .writeOpen .. => 0x12
  | .writeClose .. => 0x13
  | .panelOn .. => 0x14
  | .panelStart .. => 0x15
  | .panelStop .. => 0x16
  | .panelOff .. => 0x17
  | .superviseStart .. => 0x18
  | .keepalive => 0x19
  | .recover => 0x1A
  | .clearFault .. => 0x1B
  | .mediaEnable => 0x1C
  | .mediaDisable => 0x1D
  | .setTimingLock .. => 0x1E
  | .status .. => 0x1F
  | .identify => 0x20
  | .resetDevice => 0x21
  | .profileWrite .. => 0x22
  | .profileRead .. => 0x23

/-- The commands. A request row carries the port it is sent on, its tag and its parameters; a transaction carries
the bytes the host sends while it holds the port selected; an event carries what tells it apart. -/
inductive Instr where
  -- transactions (R163, R164)
  | writeTransaction (port : Port) (bytes : List Byte)
  | readTransaction (port : Port) (bytes : List Byte)
  -- requests (R166)
  | panelConfig (port : Port) (tag : Byte) (panel : Nat) (timing : Timing)
  | lockMode (port : Port) (tag : Byte) (panel : Nat) (settings : LockRequest)
  | bandLayout (port : Port) (tag : Byte) (panel bMax bandCount : Nat) (entries : List BandEntry)
  | damage (port : Port) (tag : Byte) (target : Option DamageTarget) (rangeCount : Nat) (ranges : List LineRange)
  | fullRefresh (port : Port) (tag : Byte) (panel : Nat)
  | subscribe (port : Port) (tag : Byte) (panel : Nat) (setting : Option Bool)
  | lineWatch (port : Port) (tag : Byte) (panel position line : Nat) (mode : Option WatchMode)
  | crcSet (port : Port) (tag : Byte) (band : Nat) (crc : Crc) (limit : Nat)
  | touchGroups (port : Port) (tag : Byte) (scan : ScanRequest) (groupCount : Nat) (entries : List GroupEntry)
  | touchEnable (port : Port) (tag : Byte)
  | touchDisable (port : Port) (tag : Byte)
  | freqTable (port : Port) (tag : Byte) (candidates : List FreqEntry) (hysteresis hopHold : Nat)
  | touchRead (port : Port) (tag : Byte)
  | backlight (port : Port) (tag : Byte) (panel : Nat) (settings : DimmerRequest)
  | windowOpen (port : Port) (tag : Byte) (window canvasBase panelBase sizeCode limit : Nat)
  | windowClose (port : Port) (tag : Byte) (window : Nat)
  | windowRead (port : Port) (tag : Byte)
  | writeOpen (port : Port) (tag : Byte) (panel first last lifetime : Nat)
  | writeClose (port : Port) (tag : Byte) (grant : Nat) (crcs : List Crc)
  | panelOn (port : Port) (tag : Byte) (panel tA tB tC : Nat)
  | panelStart (port : Port) (tag : Byte) (panel : Nat)
  | panelStop (port : Port) (tag : Byte) (panel : Nat)
  | panelOff (port : Port) (tag : Byte) (panel : Nat)
  | superviseStart (port : Port) (tag : Byte) (period fraction : Nat)
  | keepalive (port : Port) (tag : Byte)
  | recover (port : Port) (tag : Byte)
  | clearFault (port : Port) (tag : Byte) (causes : CauseMask)
  | mediaEnable (port : Port) (tag : Byte)
  | mediaDisable (port : Port) (tag : Byte)
  | setTimingLock (port : Port) (tag : Byte) (setting : Option Bool)
  | status (port : Port) (tag : Byte) (portion : Nat)
  | identify (port : Port) (tag : Byte)
  | resetDevice (port : Port) (tag : Byte)
  | profileWrite (port : Port) (tag : Byte) (autoCluster autoCentre : Option Bool)
  | profileRead (port : Port) (tag : Byte) (portion : Nat)
  -- events
  | profileWriteDone
  | planPoint (panel : Panel)
  | buildComplete (panel : Panel)
  | frameEnd (panel : Panel)
  | grantExpiry (grant : Nat)
  | refreshSlotStart (panel : Panel)
  | refreshSlotEnd (panel : Panel)
  | skipSlotStart (panel : Panel)
  | touchSlotStart
  | listenSlotStart
  | blankStart (panel : Panel)
  | pwmEdge (panel : Panel)
  | markerEdge (panel : Panel)
  | partnerMarker (panel : Panel)
  | bandReport (panel : Panel) (frame : FrameNo) (band : Nat) (crc : Crc) (linkOk : Bool)
  | senseResult (tag : Byte) (noise : Noise) (saturated linkOk : Bool)
  | resultDeadline (tag : Byte)
  | gateWaitExpiry (panel : Panel)
  | settleExpiry (panel : Panel) (powerGood : Bool)
  | dischargeExpiry (panel : Panel)
  | powerGoodLoss (panel : Panel)
  | supplyWarningAssert
  | supplyWarningRelease
  | supervisionPeriodExpiry
  -- resets (R172, R178)
  | powerOnReset
  | brownOutReset
  | pinReset
  | requestedReset
  | resetRelease
  deriving DecidableEq, Repr

end Sys2Proof
end

