-- ==== Sys2Proof/Machine/Types.lean ====
section
/-!
DEFINITION. The named values the block's state and messages are made of: states, reasons, outcomes, and the records
that both a block and a reply or notice hold.
-/

namespace Sys2Proof.Machine

open Sys2Proof

/-- The four causes of a reset (R172). -/
inductive ResetCause where
  | powerOn
  | brownOut
  | pin
  | requested
  deriving DecidableEq, Repr

/-- A cause's kind: true for cold (R172). -/
def ResetCause.cold : ResetCause → Bool
  | .powerOn => true
  | .brownOut => true
  | .pin => false
  | .requested => false

/-- The reset counts of the retained area, each 0..255 (R173). -/
structure ResetCounts where
  powerOn : Nat
  brownOut : Nat
  pin : Nat
  requested : Nat
  deriving DecidableEq, Repr

/-- The states of a frame lock (R12). -/
inductive LockState where
  | free
  | seek
  | locked
  | hold
  deriving DecidableEq, Repr

/-- A frame's polarity: POS for even frame numbers, NEG for odd (R9). -/
inductive FramePolarity where
  | pos
  | neg
  deriving DecidableEq, Repr

/-- Who owns a band (R29). -/
inductive Owner where
  | supervisor
  | media
  deriving DecidableEq, Repr

/-- The power states of a panel (R140). -/
inductive PowerState where
  | off
  | ramp
  | ready
  | scanning
  | drain
  deriving DecidableEq, Repr

/-- The timed steps of a power sequencer (R140). -/
inductive PowerStep where
  | gateWait
  | settle
  | discharge
  deriving DecidableEq, Repr

/-- The reasons of a PANEL_STATE notice (R148). -/
inductive PanelReason where
  | request
  | stepDone
  | stopDone
  | powerAbsent
  | powerLost
  deriving DecidableEq, Repr

/-- The three step times, in ms (R140). -/
structure StepTimes where
  tA : Nat
  tB : Nat
  tC : Nat
  deriving DecidableEq, Repr

/-- The touch states (R90). -/
inductive TouchState where
  | disabled
  | enabled
  | suspended
  deriving DecidableEq, Repr

/-- The reasons of a TOUCH_HOP notice (R100). -/
inductive HopReason where
  | noise
  | ban
  deriving DecidableEq, Repr

/-- The states of the supervision monitor (R152). -/
inductive MonitorState where
  | off
  | running
  | fault
  deriving DecidableEq, Repr

/-- Why the monitor last entered FAULT (R152). -/
inductive FaultReason where
  | early
  | missed
  deriving DecidableEq, Repr

/-- The three fault causes, each set or clear (R159). -/
structure Causes where
  supervision : Bool
  integrity : Bool
  power : Bool
  deriving DecidableEq, Repr

/-- The states of a grant (R127). -/
inductive GrantState where
  | pending
  | granted
  | torn
  deriving DecidableEq, Repr

/-- The reasons of a GRANT_REVOKED notice (R136). -/
inductive RevokeReason where
  | windowClose
  | supervisionFault
  | portDisable
  | drain
  deriving DecidableEq, Repr

/-- The reasons of a WINDOW_CLOSED notice (R123). -/
inductive CloseReason where
  | request
  | fault
  deriving DecidableEq, Repr

/-- The profile status of a load (R174). -/
inductive ProfileStatus where
  | valid
  | defaulted
  deriving DecidableEq, Repr

/-- A watch in a line watch position (R83). -/
structure Watch where
  line : Nat
  mode : WatchMode
  deriving DecidableEq, Repr

/-- An OPEN lend window (R115). The empty mark is `panelEnd = panelBase` (R117). -/
structure Window where
  canvasBase : Nat
  panelBase : Nat
  sizeCode : Nat
  storedLimit : Nat
  panelEnd : Nat
  deriving DecidableEq, Repr

/-- A frequency candidate without its average (R96, R175). -/
structure FreqSpec where
  period : Nat
  permission : Permission
  deriving DecidableEq, Repr

/-! ### The profile record (R175) -/

/-- The items of one panel in the profile record. -/
structure PanelProfile where
  timing : Timing
  lock : LockSettings
  bMax : Nat
  bands : List BandSpec
  dimmer : DimmerSettings
  times : StepTimes
  deriving DecidableEq, Repr

/-- The touch and frequency items of the profile record. -/
structure TouchProfile where
  groups : List GroupSpec
  scan : ScanSettings
  freqs : List FreqSpec
  hysteresis : Nat
  hopHold : Nat
  active : Nat
  deriving DecidableEq, Repr

/-- The general items of the profile record: what PROFILE_READ section 0 returns (R178). -/
structure GeneralProfile where
  autoCluster : Bool
  autoCentre : Bool
  mismatchLimit : Nat
  defPeriod : Nat
  defFraction : Nat
  deriving DecidableEq, Repr

/-- The items of the profile record, the check apart (R175). -/
structure Profile where
  general : GeneralProfile
  cluster : PanelProfile
  centre : PanelProfile
  touch : TouchProfile
  deriving DecidableEq, Repr

/-! ### Outcomes (R166) -/

/-- The outcome of a request, in the order of the outcome table. -/
inductive OutcomeCode where
  | ok
  | frameCrc
  | frameLength
  | unknownKind
  | badParam
  | notPermitted
  | portLocked
  | timingLocked
  | wrongState
  | doesNotFit
  | overlap
  | full
  | noGrant
  | tooEarly
  | faulted
  | busy
  deriving DecidableEq, Repr

/-- Outcome codes run from 0x00 to 0x0F in the table's order (11.2). -/
def OutcomeCode.code : OutcomeCode → Byte
  | .ok => 0x00
  | .frameCrc => 0x01
  | .frameLength => 0x02
  | .unknownKind => 0x03
  | .badParam => 0x04
  | .notPermitted => 0x05
  | .portLocked => 0x06
  | .timingLocked => 0x07
  | .wrongState => 0x08
  | .doesNotFit => 0x09
  | .overlap => 0x0A
  | .full => 0x0B
  | .noGrant => 0x0C
  | .tooEarly => 0x0D
  | .faulted => 0x0E
  | .busy => 0x0F

end Sys2Proof.Machine
end

