-- ==== Sys2Proof/Machine/Messages.lean ====
section
/-!
DEFINITION. What the ports return and what the links carry: the results of replies, the bodies of notices, the
commands on a panel link and the slot command on the sense link, as values. Their bytes on a port are formed in
Machine/Frames.lean.
-/

namespace Sys2Proof.Machine

open Sys2Proof

/-! ### Replies -/

/-- Section 0 of STATUS (R171). -/
structure DeviceStatus where
  mediaEnabled : Bool
  timingLock : Bool
  supervisorDiscards : Counter16
  supervisorLost : Counter16
  supervisorQueued : Nat
  mediaDiscards : Counter16
  mediaLost : Counter16
  mediaQueued : Nat
  supplyHold : Bool
  monitor : MonitorState
  period : Nat
  fraction : Nat
  openStart : Nat
  elapsed : Option Nat
  reason : Option FaultReason
  causes : Causes
  canvasMisses : Counter16
  supervisorGrants : Nat
  mediaGrants : Nat
  deriving DecidableEq, Repr

/-- A protected band in STATUS: its index, whether it is CHECKED, its mismatch count (R86). -/
structure GuardedStatus where
  band : Nat
  checked : Bool
  mismatches : Nat
  deriving DecidableEq, Repr

/-- The items of section 1 that section 2 leaves out (R171). -/
structure ClusterOnly where
  mediaBands : Nat
  mismatchLimit : Nat
  guarded : List GuardedStatus
  deriving DecidableEq, Repr

/-- The items that section 2 alone holds (R171). -/
structure CentreOnly where
  touchDeferred : Counter16
  lateResults : Counter16
  deriving DecidableEq, Repr

/-- Sections 1 and 2 of STATUS: what both report of a panel (R171). -/
structure PanelStatus where
  power : PowerState
  stopPending : Bool
  offPending : Bool
  logicEn : Bool
  gateEn : Bool
  powerGood : Bool
  times : StepTimes
  step : Option PowerStep
  frame : FrameNo
  lockState : LockState
  tBase : Nat
  glitches : Counter16
  bandCount : Nat
  bMax : Nat
  dirtyBands : Nat
  stretched : Counter16
  late : Counter16
  target : Nat
  applied : Nat
  cap : Nat
  backlight : Bool
  deriving DecidableEq, Repr

/-- A candidate in TOUCH_READ (R102). -/
structure CandidateStatus where
  period : Nat
  permission : Permission
  average : Nat
  deriving DecidableEq, Repr

/-- A group in TOUCH_READ (R102). -/
structure GroupStatus where
  id : Nat
  enabled : Bool
  interval : Nat
  age : Nat
  deriving DecidableEq, Repr

/-- The reply to TOUCH_READ (R102). -/
structure TouchStatus where
  state : TouchState
  missing : Nat
  waits : Nat
  active : Nat
  listenPtr : Nat
  sinceHop : Nat
  hysteresis : Nat
  hopHold : Nat
  candidates : List CandidateStatus
  scan : ScanSettings
  groups : List GroupStatus
  lateResults : Counter16
  missingResults : Counter16
  deriving DecidableEq, Repr

/-- An OPEN window in WINDOW_READ: its fields, the first band lent, 0xFF when none is, and the number
lent (R125). -/
structure WindowStatus where
  window : Window
  empty : Bool
  firstLent : Nat
  lent : Nat
  deriving DecidableEq, Repr

/-- The power state and the marks that the reply to a power request carries (R141). -/
structure PowerReply where
  state : PowerState
  stopPending : Bool
  offPending : Bool
  deriving DecidableEq, Repr

/-- The stored items of one PROFILE_READ section (R178). -/
inductive ProfileItems where
  | general (items : GeneralProfile)
  | panel (items : PanelProfile)
  | touch (items : TouchProfile)
  deriving DecidableEq, Repr

/-- The results a reply carries, one constructor per form the rules give. -/
inductive Results where
  /-- no results -/
  | none
  /-- full-refresh cost: PANEL_CONFIG OK (R5), and DOES_NOT_FIT (R4, R25) -/
  | cost (tu : Nat)
  /-- BAND_LAYOUT (R25) -/
  | layout (tu bandCount : Nat)
  /-- LOCK_MODE: the lock state after the request (R13) -/
  | lock (state : LockState)
  /-- DAMAGE on a panel: distinct bands, ranges clipped away (R31) -/
  | damage (bands clipped : Nat)
  /-- DAMAGE on the canvas: distinct lent bands, ranges clipped away, ranges missed (R121) -/
  | canvasDamage (bands clipped missed : Nat)
  /-- FULL_REFRESH (R33) -/
  | bandCount (n : Nat)
  /-- SUBSCRIBE: the subscription before (R66) -/
  | subscription (before : Bool)
  /-- LINE_WATCH: the position's content before (R84) -/
  | watch (before : Option Watch)
  /-- CRC_SET: check state and expected CRC before (CHECKED exactly when present), limit after (R81) -/
  | crcSet (before : Option Crc) (limit : Nat)
  /-- TOUCH_GROUPS (R89) -/
  | touchGroups (count enabled : Nat)
  /-- TOUCH_ENABLE, TOUCH_DISABLE: the state before (R91) -/
  | touchState (before : TouchState)
  /-- FREQ_TABLE (R97) -/
  | freqTable (active allowed : Nat)
  /-- TOUCH_READ (R102) -/
  | touchRead (status : TouchStatus)
  /-- BACKLIGHT (R106) -/
  | backlight (applied : Nat) (frameDuty : Option Nat) (enable : Bool)
  /-- WINDOW_OPEN (R118) -/
  | windowOpen (storedLimit panelEnd lent : Nat)
  /-- WINDOW_CLOSE (R122) -/
  | windowClose (returned revoked : Nat)
  /-- WINDOW_READ (R125) -/
  | windowRead (windows : List (Option WindowStatus)) (misses : Counter16)
  /-- WRITE_OPEN (R130) -/
  | writeOpen (grant : Nat) (state : GrantState) (lifetime : Nat)
  /-- WRITE_CLOSE (R134) -/
  | writeClose (state : GrantState) (held marked : Nat)
  /-- PANEL_ON, PANEL_STOP, PANEL_OFF (R141) -/
  | power (reply : PowerReply)
  /-- PANEL_START: the marks, and the length of frame 0 (R141, R144) -/
  | panelStart (reply : PowerReply) (length : Option Nat)
  /-- SUPERVISE_START (R153) -/
  | supervise (period fraction openStart : Nat)
  /-- KEEPALIVE taken OK (R154) -/
  | keepalive (elapsed : Nat)
  /-- KEEPALIVE before the open start (R154) -/
  | tooEarly (elapsed openStart : Nat)
  /-- RECOVER (R158) -/
  | recover (period fraction openStart : Nat) (reason : Option FaultReason)
  /-- CLEAR_FAULT (R160) -/
  | causes (before after : Causes)
  /-- MEDIA_ENABLE, MEDIA_DISABLE: whether the port was ENABLED before (R169) -/
  | mediaPort (before : Bool)
  /-- SET_TIMING_LOCK (R170) -/
  | timingLock (before : Bool)
  /-- STATUS section 0 (R171) -/
  | deviceStatus (status : DeviceStatus)
  /-- STATUS section 1 (R171) -/
  | clusterStatus (status : PanelStatus) (only : ClusterOnly)
  /-- STATUS section 2 (R171) -/
  | centreStatus (status : PanelStatus) (only : CentreOnly)
  /-- IDENTIFY (R178) -/
  | identify (vendor part : BitVec 16) (revision : Char) (status : ProfileStatus)
  /-- PROFILE_READ: whether the stored check passes now, and the items of the section of a VALID record (R178) -/
  | profileRead (valid : Bool) (items : Option ProfileItems)
  deriving DecidableEq, Repr

/-- What a block answers to a request: the outcome and the results (R166). -/
structure Answer where
  outcome : OutcomeCode
  results : Results
  deriving DecidableEq, Repr

/-- A reply as it stands pending in a port, with its discard mark (R162, R165). -/
structure Reply where
  tag : Byte
  kind : Byte
  outcome : OutcomeCode
  results : Results
  discardMark : Bool
  deriving DecidableEq, Repr

/-! ### Notices -/

/-- The fields of a notice after its header (R167 and the rules it routes for). -/
inductive NoticeBody where
  /-- BOOT (R174) -/
  | boot (cause : ResetCause) (cold : Bool) (status : ProfileStatus) (counts : ResetCounts)
      (autoCluster autoCentre : Bool)
  /-- PANEL_STATE (R148) -/
  | panelState (left entered : PowerState) (reason : PanelReason) (logicEn gateEn powerGood : Bool)
  /-- LOCK_STATE (R20) -/
  | lockState (left entered : LockState) (tBase : Nat)
  /-- FRAME_STRETCHED: the length fixed at the plan point, the length run with, whether late (R63) -/
  | frameStretched (fixed length : Nat) (late : Bool)
  /-- PLAN_LATE (R63) -/
  | planLate (buildTime leadTime length : Nat)
  /-- FRAME_REPORT (R65) -/
  | frameReport (length : Nat) (stretched late : Bool) (refreshed touches deferred : Nat)
  /-- LINE_REACHED (R85) -/
  | lineReached (position line band : Nat) (refreshed : Bool)
  /-- INTEGRITY_FAULT: frame of the refresh, band, expected CRC, CRC received or missing, count (R80) -/
  | integrityFault (refreshFrame : FrameNo) (band : Nat) (expected : Crc) (received : Option Crc) (mismatches : Nat)
  /-- TOUCH_FRONTEND_FAULT: tag of the wait that expired last, waits still outstanding (R94) -/
  | touchFrontendFault (tag : Byte) (outstanding : Nat)
  /-- TOUCH_HOP (R100) -/
  | touchHop (reason : HopReason) (left leftAverage taken takenAverage sinceHop : Nat)
  /-- WINDOW_OPENED; the first band lent is 0xFF when none is (R118) -/
  | windowOpened (window canvasBase panelBase panelEnd : Nat) (firstLent lent : Nat)
  /-- WINDOW_CLOSED (R123) -/
  | windowClosed (window : Nat) (reason : CloseReason) (canvasBase panelBase panelEnd returned revoked : Nat)
  /-- GRANT_READY (R137) -/
  | grantReady (grant first last : Nat)
  /-- GRANT_TORN (R137) -/
  | grantTorn (grant band : Nat) (before : GrantState)
  /-- GRANT_EXPIRED (R137) -/
  | grantExpired (grant : Nat) (state : GrantState) (held marked : Nat)
  /-- GRANT_REVOKED (R137) -/
  | grantRevoked (grant : Nat) (reason : RevokeReason) (state : GrantState) (held marked : Nat)
  /-- SUPPLY_WARNING (R149) -/
  | supplyWarning (level : Bool) (clusterState : PowerState) (clusterFrame : FrameNo)
      (centreState : PowerState) (centreFrame : FrameNo)
  /-- SUPERVISION_FAULT (R156) -/
  | supervisionFault (reason : FaultReason) (elapsed windows grants : Nat) (clusterFrame : FrameNo)
  /-- PROFILE_DONE (R177) -/
  | profileDone (check : Crc)
  deriving DecidableEq, Repr

/-- Notice codes run from 0x81 in the order of the routing table of R167, to 0x93 (11.2). -/
def NoticeBody.code : NoticeBody → Byte
  | .boot .. => 0x81
  | .panelState .. => 0x82
  | .lockState .. => 0x83
  | .frameStretched .. => 0x84
  | .planLate .. => 0x85
  | .frameReport .. => 0x86
  | .lineReached .. => 0x87
  | .integrityFault .. => 0x88
  | .touchFrontendFault .. => 0x89
  | .touchHop .. => 0x8A
  | .windowOpened .. => 0x8B
  | .windowClosed .. => 0x8C
  | .grantReady .. => 0x8D
  | .grantTorn .. => 0x8E
  | .grantExpired .. => 0x8F
  | .grantRevoked .. => 0x90
  | .supplyWarning .. => 0x91
  | .supervisionFault .. => 0x92
  | .profileDone .. => 0x93

/-- A notice: its panel (none for the device as a whole, 0xFF on the port), its header frame number, its body
(11.2, R167). -/
structure Notice where
  panel : Option Panel
  frame : FrameNo
  body : NoticeBody
  deriving DecidableEq, Repr

/-! ### Links -/

/-- The commands of a panel link (R75). -/
inductive LinkCommand where
  | frame (number : FrameNo) (polarity : FramePolarity) (length : Nat)
  | band (firstLine lines : Nat) (polarity : FramePolarity) (report : Bool)
  | idleSkip (band duration : Nat)
  | idleBlank (duration : Nat)
  | pause (duration : Nat)
  deriving DecidableEq, Repr

/-- The slot command of the sense link (R92). -/
structure SlotCommand where
  tag : Byte
  code : Byte
  bursts : Nat
  period : Nat
  listen : Bool
  deriving DecidableEq, Repr

end Sys2Proof.Machine
end

