-- ==== Sys2Proof/Config.lean ====
section
/-!
DEFINITION. What the spec fixes as numbers for every device (factory defaults, identification), and the free values:
constants with no body, so that no proof can see what they are and a claim holds whatever they are.
-/

namespace Sys2Proof.Config

open Sys2Proof Sys2Proof.Machine

/-! ### Free values -/

/-! The layout of request parameters. The spec lays out the frame around the parameters only (11.2, R166); what each
kind carries is its own rule's, and the widths, places and codes of what it carries are free. Log entry 5. -/

/-- One less than the bytes of the parameters of a kind that carries some, any list apart (R166, check 3). -/
opaque paramBytes : Byte → Nat

/-- One less than the bytes of one entry of a kind's list of varying length (R166, check 3). -/
opaque entryBytes : Byte → Nat

/-- The `k`-th number of a kind's parameters, read from their bytes, any list apart. -/
opaque paramField : Byte → Nat → List Byte → Nat

/-- The `k`-th number of an entry of a kind's list, read from the entry's bytes. -/
opaque entryField : Byte → Nat → List Byte → Nat

/-- What the code of an enumerated parameter names, none where it names no choice. -/
opaque markerSourceOf : Nat → Option MarkerSource
opaque bandClassOf : Nat → Option BandClass
opaque damageTargetOf : Nat → Option DamageTarget
opaque watchModeOf : Nat → Option WatchMode
opaque permissionOf : Nat → Option Permission
opaque pwmPolarityOf : Nat → Option PwmPolarity

/-- What the code of a flag that a kind carries names. -/
opaque flagOf : Byte → Nat → Option Bool

/-- The causes that the parameter of CLEAR_FAULT names (R160). -/
opaque causesOf : Nat → CauseMask

/-- The bytes of a reply's results (11.2). Log entry 6. -/
opaque resultBytes : Results → List Byte

/-- The bytes of a notice's fields (11.2). Log entry 6. -/
opaque noticeBytes : NoticeBody → List Byte

/-- The 16-bit check of a profile record; its algorithm is not given (R175). Log entry 18. -/
opaque profileCheck : Profile → Crc

/-- The level of a panel's power-good input at the `n`-th use, while the device ignores the input (R142, R143).
Log entry 12. -/
opaque powerGoodInput : Panel → Nat → Bool

/-- Which of the device's own events that are due at one instant is taken first, at the `n`-th such choice.
Log entry 3. -/
opaque tieChoice : Nat → Nat

/-- Whether the PWM output stays active after a rising edge is withheld while the output is active, which happens at
duty 1,024 only (R108, R112). Log entry 15. -/
opaque fullDutyTail : Panel → Nat → Bool

/-- The `k`-th byte shifted out in a transaction whose first byte is neither 0x01 nor 0x02 (R163), at the `n`-th use.
Log entry 8. -/
opaque rejectedMiso : Nat → Nat → Byte

/-! ### Numbers the spec fixes -/

/-- Most notices in a queue (R167). -/
def queueLimit : Nat := 32

/-- Most grants in the list, and most of one port (R127). -/
def grantLimit : Nat := 8
def grantPortLimit : Nat := 4

/-- The average that marks a candidate as unmeasured (R96). -/
def unmeasured : Nat := 65520

/-- tu in one millisecond (R140, R152: 20,000). -/
def tuPerMs : Nat := 20000

/-- The length of a profile write, 40 ms (R177). -/
def profileWriteTime : Nat := 800000

/-- The canvas lines are 0..4,095 (R120). -/
def canvasLines : Nat := 4096

/-- Identification (R178). -/
def vendorCode : BitVec 16 := 0x4827
def partCode : BitVec 16 := 0x6308
def revision : Char := 'A'

/-! ### Factory defaults (R175) -/

/-- R1. -/
def factoryTiming : Timing :=
  { nAct := 480, tLine := 600, nVb := 8, tSet := 40, tSkip := 20,
    tMin := 300000, tNom := 333333, tMax := 366666, planLead := 8 }

/-- R12. -/
def factoryLock : LockSettings :=
  { source := .none, slewLimit := 2000, lockWindow := 1000, missLimit := 4, partnerOffset := 0 }

/-- R24: one NORMAL band of all lines, hold limit 4. -/
def factoryBand : BandSpec := { lines := 480, cls := .normal, holdLimit := 4 }

/-- R105. -/
def factoryDimmer : DimmerSettings :=
  { target := 768, ramp := 32, periods := 1, polarity := .activeHigh, cap := 256 }

/-- R140. -/
def factoryTimes : StepTimes := { tA := 10, tB := 20, tC := 10 }

/-- R87. -/
def factoryGroup : GroupSpec := { id := 0, code := 0, interval := 1, bursts := 64, enabled := true }

/-- R88. -/
def factoryScan : ScanSettings :=
  { tGuard := 100, listenBursts := 16, edgeGuard := 1000, crossCoupling := false, timeout := 2000 }

/-- R96. -/
def factoryFreqs : List FreqSpec :=
  [100, 125, 150, 180, 220, 280].map fun p => { period := p, permission := .allowed }

def factoryPanel : PanelProfile :=
  { timing := factoryTiming, lock := factoryLock, bMax := 3, bands := [factoryBand],
    dimmer := factoryDimmer, times := factoryTimes }

def factoryTouch : TouchProfile :=
  { groups := [factoryGroup], scan := factoryScan, freqs := factoryFreqs,
    hysteresis := 800, hopHold := 30, active := 0 }

/-- R77, R152, R175. -/
def factoryGeneral : GeneralProfile :=
  { autoCluster := false, autoCentre := false, mismatchLimit := 2, defPeriod := 100, defFraction := 50 }

/-- The factory defaults, loaded where the stored record fails its check (R175). -/
def factoryProfile : Profile :=
  { general := factoryGeneral, cluster := factoryPanel, centre := factoryPanel, touch := factoryTouch }

end Sys2Proof.Config
end

