-- ==== Sys2Proof/Machine/State.lean ====
section
/-!
DEFINITION. The state of the block as plain data: every register, list, counter, mode and output the spec gives it,
the queue of waiting commands, and the state right after reset.
-/

namespace Sys2Proof.Machine

open Sys2Proof

/-- Nothing stops the machine: no rule of the spec gives a command that ends in a fault, so there is no reason. -/
inductive Fault where
  deriving DecidableEq, Repr

/-- The reasons a command is refused. -/
inductive Refusal where
  /-- The command has no meaning in the model yet; raised only by an arm of `exec` that has none. Safe. -/
  | notModelled (mnemonic : String)
  deriving DecidableEq, Repr

/-! ### Frame timing and lock -/

/-- The frame timer of a panel; the three times are absent while it is still (R6). -/
structure FrameTimer where
  number : FrameNo
  start : Option Tick
  length : Option Nat
  next : Option Nat
  deriving DecidableEq, Repr

/-- The capture of a capture interval (R12, R17). -/
structure Capture where
  time : Tick
  error : Int
  correction : Int
  deriving DecidableEq, Repr

/-- The frame lock of a panel (R12). -/
structure FrameLock where
  settings : LockSettings
  state : LockState
  tBase : Nat
  correction : Option Int
  capture : Option Capture
  previous : Option Tick
  gapRef : Option Tick
  good : Nat
  miss : Nat
  inFlight : List Tick
  glitches : Counter16
  deriving DecidableEq, Repr

/-! ### Band table -/

/-- A band record (R22). Index, first line and owner are derived. A protected band is CHECKED exactly when
`expected` is present; a NORMAL band has `expected` absent and `mismatches` 0. -/
structure Band where
  lines : Nat
  cls : BandClass
  holdLimit : Nat
  dirty : Bool
  hold : Nat
  balance : Int
  expected : Option Crc
  mismatches : Nat
  deriving DecidableEq, Repr

/-- The band table of a panel (R24). The band count is the number of records. -/
structure BandTable where
  bMax : Nat
  records : List Band
  deriving DecidableEq, Repr

/-! ### Plans -/

/-- What a slot of a plan does (R59). -/
inductive SlotKind where
  | refresh (band : Nat) (polarity : FramePolarity)
  | skip (band : Nat)
  | touch (group : Nat) (code : Byte) (bursts candidate period : Nat)
  | listen (candidate period bursts : Nat)
  deriving DecidableEq, Repr

/-- A slot: its start time from the frame start, its cost, its kind (R59, R68). -/
structure Slot where
  start : Nat
  cost : Nat
  kind : SlotKind
  deriving DecidableEq, Repr

/-- A frame plan: its slots in order of start time, and the start of the TAIL (R59). -/
structure Plan where
  slots : List Slot
  tail : Nat
  deriving DecidableEq, Repr

/-- A band as the snapshot holds it: projected record, hold limit, whether a grant covers it, whether its owner is
MEDIA (R44, R45). -/
structure SnapBand where
  lines : Nat
  cls : BandClass
  holdLimit : Nat
  dirty : Bool
  hold : Nat
  balance : Int
  covered : Bool
  mediaOwned : Bool
  deriving DecidableEq, Repr

/-- A touch group as the snapshot holds it, with its projected age (R46). -/
structure SnapGroup where
  id : Nat
  code : Byte
  interval : Nat
  bursts : Nat
  enabled : Bool
  age : Nat
  deriving DecidableEq, Repr

/-- The listen candidate and its period (R101). -/
structure ListenItem where
  candidate : Nat
  period : Nat
  deriving DecidableEq, Repr

/-- The centre panel's part of a snapshot (R44, R46, R56, R57): `edges` is the centre dimmer's edge list for the frame
planned, `predicted` the instants of the cluster predictions, both measured from the frame start. -/
structure SnapTouch where
  state : TouchState
  groups : List SnapGroup
  active : Nat
  period : Nat
  listen : Option ListenItem
  listenBursts : Nat
  tGuard : Nat
  edgeGuard : Nat
  edges : List Nat
  predicted : List Int
  deriving DecidableEq, Repr

/-- The snapshot taken at a plan point (R44). `number` and `length` are those of the frame planned. -/
structure Snapshot where
  number : FrameNo
  length : Nat
  timing : Timing
  bMax : Nat
  bands : List SnapBand
  monitorFault : Bool
  supplyHold : Bool
  touch : Option SnapTouch
  deriving DecidableEq, Repr

/-- A build in progress: its snapshot, the time it completes, its build time, and whether its frame has already
started with the fallback plan (R42, R60, R61). The plan under construction is a function of the snapshot. -/
structure Build where
  snapshot : Snapshot
  done : Tick
  buildTime : Nat
  frameLate : Bool
  deriving DecidableEq, Repr

/-- A completed plan with its frame length, and what the frame start needs of its snapshot (R53, R60, R63): the length
fixed at the plan point, whether the plan is stretched, the groups deferred, whether a cluster band was lent. -/
structure ReadyPlan where
  plan : Plan
  length : Nat
  fixed : Nat
  stretched : Bool
  deferred : Nat
  mediaOwned : Bool
  deriving DecidableEq, Repr

/-- The plan builder's state for one panel (R42). -/
structure Builder where
  build : Option Build
  ready : Option ReadyPlan
  stretched : Counter16
  late : Counter16
  subSupervisor : Bool
  subMedia : Bool
  deriving DecidableEq, Repr

/-! ### Slot execution and links -/

/-- A REFRESH slot that is executing: its band and the time it ends (R70). -/
structure Drive where
  band : Nat
  ends : Tick
  deriving DecidableEq, Repr

/-- The executing plan of a RUNNING sequencer (R68), and what the frame's report needs (R65). -/
structure Executing where
  plan : Plan
  position : Nat
  blankAt : Nat
  blankBegun : Bool
  driving : List Drive
  refreshed : Nat
  touches : Nat
  deferred : Nat
  stretched : Bool
  late : Bool
  deriving DecidableEq, Repr

/-- An entry of the expectation list (R76). -/
structure Expectation where
  frame : FrameNo
  band : Nat
  crc : Crc
  deriving DecidableEq, Repr

/-- A panel link: its expectation list and the last command sent on it (R75, R76). -/
structure PanelLink where
  expectations : List Expectation
  lastCommand : Option LinkCommand
  deriving DecidableEq, Repr

/-- The two watch positions of one port for one panel (R83). -/
structure WatchPair where
  pos0 : Option Watch
  pos1 : Option Watch
  deriving DecidableEq, Repr

/-! ### Backlight -/

/-- An edge of the frame's edge list: its time from the frame start, and its direction (R108). -/
structure Edge where
  time : Nat
  rising : Bool
  deriving DecidableEq, Repr

/-- The backlight dimmer of a panel (R105). `edges` are those of the frame in progress still to come; `active` says
that the PWM output is at its active level. -/
structure Dimmer where
  settings : DimmerSettings
  applied : Nat
  frameDuty : Option Nat
  darkNow : Bool
  darkNext : Bool
  enable : Bool
  edges : List Edge
  active : Bool
  deriving DecidableEq, Repr

/-! ### Power -/

/-- A timed step in progress with its deadline (R140). -/
structure TimedStep where
  step : PowerStep
  deadline : Tick
  deriving DecidableEq, Repr

/-- The power sequencer of a panel (R140), the level of its power-good input, and its autostart mark (R176). -/
structure Power where
  state : PowerState
  logicEn : Bool
  gateEn : Bool
  step : Option TimedStep
  stopPending : Bool
  offPending : Bool
  times : StepTimes
  powerGood : Bool
  autostart : Bool
  deriving DecidableEq, Repr

/-- Everything the spec holds per panel. -/
structure PanelState where
  timing : Timing
  frame : FrameTimer
  lock : FrameLock
  bands : BandTable
  builder : Builder
  seq : Option Executing
  link : PanelLink
  supervisorWatch : WatchPair
  mediaWatch : WatchPair
  dimmer : Dimmer
  power : Power
  deriving DecidableEq, Repr

/-! ### Touch -/

/-- A touch group record (R87). -/
structure Group where
  id : Nat
  code : Byte
  interval : Nat
  bursts : Nat
  enabled : Bool
  age : Nat
  deriving DecidableEq, Repr

/-- A frequency candidate (R96); its period and average are also the retained ones (R104). -/
structure Candidate where
  period : Nat
  permission : Permission
  average : Nat
  deriving DecidableEq, Repr

/-- An outstanding result wait (R92). `group` is absent for a LISTEN slot. -/
structure Wait where
  tag : Byte
  group : Option Nat
  candidate : Nat
  period : Nat
  deadline : Tick
  deriving DecidableEq, Repr

/-- The touch scheduler, with the plan builder's touch-deferred counter (R42, R87..R103). -/
structure Touch where
  groups : List Group
  scan : ScanSettings
  state : TouchState
  missing : Nat
  candidates : List Candidate
  hysteresis : Nat
  hopHold : Nat
  active : Nat
  listenPtr : Nat
  sinceHop : Nat
  nextTag : Byte
  waits : List Wait
  lateResults : Counter16
  missingResults : Counter16
  deferred : Counter16
  lastCommand : Option SlotCommand
  deriving DecidableEq, Repr

/-! ### Windows, grants, supervision, supply -/

/-- The window table: four windows, absent while CLOSED, and the canvas miss counter (R115). -/
structure WindowTable where
  slots : List (Option Window)
  misses : Counter16
  deriving DecidableEq, Repr

/-- A grant record (R127). -/
structure Grant where
  id : Nat
  port : Port
  panel : Panel
  first : Nat
  last : Nat
  state : GrantState
  held : Nat
  lifetime : Nat
  deriving DecidableEq, Repr

/-- The grant list and its next id (R127, R128). -/
structure GrantList where
  records : List Grant
  nextId : Nat
  deriving DecidableEq, Repr

/-- The supervision monitor (R152). -/
structure Monitor where
  state : MonitorState
  period : Nat
  fraction : Nat
  start : Option Tick
  elapsed : Elapsed
  defPeriod : Nat
  defFraction : Nat
  reason : Option FaultReason
  deriving DecidableEq, Repr

/-- The supply-warning input and the supply-hold flag (R149). -/
structure Supply where
  warningPin : Bool
  hold : Bool
  deriving DecidableEq, Repr

/-! ### Ports, profile store, reset -/

/-- A port (R162). `shiftOut` is what the port shifted out in its last transaction after the transaction's first byte. -/
structure PortState where
  reply : Option Reply
  queue : List Notice
  discards : Counter16
  lost : Counter16
  lostMark : Bool
  shiftOut : List Byte
  deriving DecidableEq, Repr

/-- A stored profile record: its items and its check (R175). -/
structure StoredProfile where
  items : Profile
  check : Crc
  deriving DecidableEq, Repr

/-- A profile write in flight: the copy taken and the time it ends (R177). -/
structure ProfileWriting where
  copy : Profile
  done : Tick
  deriving DecidableEq, Repr

/-- The profile store (R175, R177). `stored` is absent for a record never written or written only in part: such a
record fails its check. -/
structure ProfileStore where
  stored : Option StoredProfile
  writing : Option ProfileWriting
  lastLoad : ProfileStatus
  deriving DecidableEq, Repr

/-- A reset that has begun and not been released: its cause, and whether it is cold (R172). -/
structure HeldReset where
  cause : ResetCause
  cold : Bool
  deriving DecidableEq, Repr

/-- The reset logic: the reset held, and whether a delivered RESET_DEVICE reply makes a REQUESTED reset due (R178). -/
structure ResetLogic where
  held : Option HeldReset
  requested : Bool
  deriving DecidableEq, Repr

/-- The state of the block. `pending` is the queue of waiting commands, first in, first out; `free` numbers the uses
of the free values of Config (the model's own field). -/
structure State where
  count : Tick
  free : Nat
  resetLogic : ResetLogic
  cluster : PanelState
  centre : PanelState
  touch : Touch
  windows : WindowTable
  grants : GrantList
  mismatchLimit : Nat
  monitor : Monitor
  faults : Causes
  supply : Supply
  supervisor : PortState
  media : PortState
  mediaEnabled : Bool
  timingLock : Bool
  profile : ProfileStore
  resetCounts : ResetCounts
  pending : List Instr
  deriving DecidableEq, Repr

/-! ### After-reset values of the blocks -/

/-- R6. -/
def FrameTimer.afterReset : FrameTimer := { number := 0, start := none, length := none, next := none }

/-- R12. -/
def FrameLock.afterReset (settings : LockSettings) (tNom : Nat) : FrameLock :=
  { settings := settings, state := .free, tBase := tNom, correction := none, capture := none, previous := none,
    gapRef := none, good := 0, miss := 0, inFlight := [], glitches := 0 }

/-- A fresh record of a layout: h = 0, b = 0, not dirty, UNCHECKED, count 0 (R24, R26). -/
def Band.fresh (b : BandSpec) : Band :=
  { lines := b.lines, cls := b.cls, holdLimit := b.holdLimit, dirty := false, hold := 0, balance := 0,
    expected := none, mismatches := 0 }

/-- A band table laid out afresh (R24, R26). -/
def BandTable.fresh (bMax : Nat) (layout : List BandSpec) : BandTable :=
  { bMax := bMax, records := layout.map Band.fresh }

/-- R42. -/
def Builder.afterReset : Builder :=
  { build := none, ready := none, stretched := 0, late := 0, subSupervisor := false, subMedia := false }

/-- R76. -/
def PanelLink.afterReset : PanelLink := { expectations := [], lastCommand := none }

/-- R83. -/
def WatchPair.empty : WatchPair := { pos0 := none, pos1 := none }

/-- R105. -/
def Dimmer.afterReset (settings : DimmerSettings) : Dimmer :=
  { settings := settings, applied := 0, frameDuty := none, darkNow := false, darkNext := false, enable := false,
    edges := [], active := false }

/-- R140, with the level the power-good input has. -/
def Power.afterReset (times : StepTimes) (powerGood : Bool) : Power :=
  { state := .off, logicEn := false, gateEn := false, step := none, stopPending := false, offPending := false,
    times := times, powerGood := powerGood, autostart := false }

/-- A panel loaded from its profile items (R172 steps 2 and 3, R175). -/
def PanelState.afterReset (p : PanelProfile) (powerGood : Bool) : PanelState :=
  { timing := p.timing
    frame := .afterReset
    lock := .afterReset p.lock p.timing.tNom
    bands := .fresh p.bMax p.bands
    builder := .afterReset
    seq := none
    link := .afterReset
    supervisorWatch := .empty
    mediaWatch := .empty
    dimmer := .afterReset p.dimmer
    power := .afterReset p.times powerGood }

/-- A group loaded or replaced has age 255 (R87). -/
def Group.fresh (g : GroupSpec) : Group :=
  { id := g.id, code := g.code, interval := g.interval, bursts := g.bursts, enabled := g.enabled, age := 255 }

/-- A candidate whose average is the cold one (R96, R104). -/
def Candidate.fresh (c : FreqSpec) : Candidate :=
  { period := c.period, permission := c.permission, average := Config.unmeasured }

/-- The touch scheduler after a cold reset (R87, R88, R90, R92, R96, R103, R104). -/
def Touch.afterReset (t : TouchProfile) : Touch :=
  { groups := t.groups.map Group.fresh
    scan := t.scan
    state := .disabled
    missing := 0
    candidates := t.freqs.map Candidate.fresh
    hysteresis := t.hysteresis
    hopHold := t.hopHold
    active := t.active
    listenPtr := 0
    sinceHop := 0
    nextTag := 0
    waits := []
    lateResults := 0
    missingResults := 0
    deferred := 0
    lastCommand := none }

/-- All four windows CLOSED (R115). -/
def WindowTable.afterReset (misses : Counter16) : WindowTable :=
  { slots := [none, none, none, none], misses := misses }

/-- R127, R128. -/
def GrantList.afterReset : GrantList := { records := [], nextId := 1 }

/-- R152. -/
def Monitor.afterReset (defPeriod defFraction : Nat) : Monitor :=
  { state := .off, period := defPeriod, fraction := defFraction, start := none, elapsed := 0,
    defPeriod := defPeriod, defFraction := defFraction, reason := none }

/-- R159. -/
def Causes.clear : Causes := { supervision := false, integrity := false, power := false }

/-- R162, with the notices the reset places. -/
def PortState.afterReset (queue : List Notice) : PortState :=
  { reply := none, queue := queue, discards := 0, lost := 0, lostMark := false, shiftOut := [] }

/-- The BOOT notice (R174). -/
def bootNotice (cause : ResetCause) (cold : Bool) (status : ProfileStatus) (counts : ResetCounts)
    (general : GeneralProfile) : Notice :=
  { panel := none, frame := 0,
    body := .boot cause cold status counts general.autoCluster general.autoCentre }

/-- The reset counts after a power-on (R173). -/
def powerOnCounts : ResetCounts := { powerOn := 1, brownOut := 0, pin := 0, requested := 0 }

/-- The device right after reset: a power-on reset just released, with a stored record never written, so that the
factory defaults are loaded (R172..R176; log entries 4, 13, 14). -/
def State.reset : State :=
  { count := 0
    free := 0
    resetLogic := { held := none, requested := false }
    cluster := .afterReset Config.factoryPanel false
    centre := .afterReset Config.factoryPanel false
    touch := .afterReset Config.factoryTouch
    windows := .afterReset 0
    grants := .afterReset
    mismatchLimit := Config.factoryGeneral.mismatchLimit
    monitor := .afterReset Config.factoryGeneral.defPeriod Config.factoryGeneral.defFraction
    faults := .clear
    supply := { warningPin := false, hold := false }
    supervisor := .afterReset [bootNotice .powerOn true .defaulted powerOnCounts Config.factoryGeneral]
    media := .afterReset [bootNotice .powerOn true .defaulted powerOnCounts Config.factoryGeneral]
    mediaEnabled := false
    timingLock := false
    profile := { stored := none, writing := none, lastLoad := .defaulted }
    resetCounts := powerOnCounts
    pending := [] }

end Sys2Proof.Machine
end

