-- ==== Sys2Proof/Machine/Operands.lean ====
section
/-!
DEFINITION. The operand checks the requests share: which panel a number names, the ranges of the fields, and the
costs that a timing configuration gives.
-/

namespace Sys2Proof.Machine

open Sys2Proof

/-- `lo ≤ n ≤ hi`. -/
def inRange (lo hi n : Nat) : Bool := decide (lo ≤ n) && decide (n ≤ hi)

/-- The panel a request's panel index names (Conventions). -/
def panelOf : Nat → Option Panel
  | 0 => some .cluster
  | 1 => some .centre
  | _ => none

/-- The other panel. -/
def otherPanel : Panel → Panel
  | .cluster => .centre
  | .centre => .cluster

/-- `n` clamped to `[lo, hi]` (R17, R19). -/
def clampInt (lo hi n : Int) : Int := max lo (min hi n)

/-! ### Timing configuration -/

/-- Every field lies in its range of R1; that t_skip is not above t_set is R3's. -/
def timingInRange (t : Timing) : Bool :=
  inRange 240 2048 t.nAct && inRange 60 2000 t.tLine && inRange 4 255 t.nVb && inRange 0 4095 t.tSet
    && inRange 0 4095 t.tSkip && inRange 100000 2000000 t.tMin && inRange 100000 2000000 t.tNom
    && inRange 100000 2000000 t.tMax && inRange 2 64 t.planLead

/-- The blank, N_vb × t_line (R1). -/
def blankTime (t : Timing) : Nat := t.nVb * t.tLine

/-- The plan lead time (R1). -/
def leadTime (t : Timing) : Nat := t.planLead * t.tLine

/-- The relations of R3 that concern the configuration alone, and the stored partner offset. -/
def timingRelated (t : Timing) (lock : LockSettings) : Bool :=
  decide (t.tMin ≤ t.tNom) && decide (t.tNom ≤ t.tMax) && decide (leadTime t < t.tMin) && decide (t.tSkip ≤ t.tSet)
    && !(lock.source == .partner && decide (t.tMax ≤ lock.partnerOffset))

/-- The cost of a refreshed band of `lines` lines (R4, R49). -/
def refreshCost (t : Timing) (lines : Nat) : Nat := lines * t.tLine + t.tSet

/-- The full-refresh cost of bands with these line counts (R4). -/
def fullRefreshCost (t : Timing) (lineCounts : List Nat) : Nat :=
  (lineCounts.map (refreshCost t)).sum + blankTime t

/-! ### Lock settings -/

/-- The settings LOCK_MODE carries, when each lies in its range (R13, check 3). -/
def lockSettingsOf (r : LockRequest) : Option LockSettings :=
  match r.source with
  | none => none
  | some source =>
    if inRange 0 65535 r.slewLimit && inRange 0 65535 r.lockWindow && inRange 1 15 r.missLimit then
      some { source := source, slewLimit := r.slewLimit, lockWindow := r.lockWindow, missLimit := r.missLimit,
             partnerOffset := r.partnerOffset }
    else none

/-! ### Band layouts -/

/-- An entry whose hold limit and class are in range (R25, check 5). -/
def bandEntryInRange (e : BandEntry) : Bool := e.cls.isSome && inRange 1 15 e.holdLimit

/-- The band an entry lays out; an entry without a class is refused before this is asked (R25). -/
def bandSpecOf (e : BandEntry) : BandSpec :=
  { lines := e.lines, cls := e.cls.getD .normal, holdLimit := e.holdLimit }

/-! ### Touch and backlight -/

/-- The dimmer settings BACKLIGHT carries, when each lies in its range of R105 (R106, check 3). -/
def dimmerSettingsOf (r : DimmerRequest) : Option DimmerSettings :=
  match r.polarity with
  | none => none
  | some polarity =>
    if inRange 0 1024 r.target && inRange 1 1024 r.ramp && inRange 1 16 r.periods && inRange 0 1024 r.cap then
      some { target := r.target, ramp := r.ramp, periods := r.periods, polarity := polarity, cap := r.cap }
    else none

/-- The scan settings TOUCH_GROUPS carries, when each lies in its range of R88 (R89, check 5). -/
def scanSettingsOf (r : ScanRequest) : Option ScanSettings :=
  match r.crossCoupling with
  | none => none
  | some crossCoupling =>
    if inRange 0 1023 r.tGuard && inRange 8 64 r.listenBursts && inRange 0 4095 r.edgeGuard
        && inRange 50 5000 r.timeout then
      some { tGuard := r.tGuard, listenBursts := r.listenBursts, edgeGuard := r.edgeGuard,
             crossCoupling := crossCoupling, timeout := r.timeout }
    else none

/-- No two entries carry the same id (R89, check 3). -/
def distinctIds : List GroupEntry → Bool
  | [] => true
  | e :: es => es.all (fun x => x.id != e.id) && distinctIds es

/-- An entry whose interval, bursts and enabled flag are in range (R89, check 4). -/
def groupEntryInRange (e : GroupEntry) : Bool :=
  inRange 1 8 e.interval && inRange 8 255 e.bursts && e.enabled.isSome

/-- The group an entry gives; an entry without an enabled flag is refused before this is asked (R89). -/
def groupSpecOf (e : GroupEntry) : GroupSpec :=
  { id := e.id, code := e.code, interval := e.interval, bursts := e.bursts, enabled := e.enabled.getD false }

/-- A group placed into a list kept in order of id ascending (R87). -/
def insertGroup (g : GroupSpec) : List GroupSpec → List GroupSpec
  | [] => [g]
  | x :: xs => if g.id ≤ x.id then g :: x :: xs else x :: insertGroup g xs

/-- The entries as groups in order of id (R87, R89). -/
def sortGroups (gs : List GroupSpec) : List GroupSpec := gs.foldr insertGroup []

/-- A candidate of FREQ_TABLE in range (R97, check 1). -/
def freqEntryInRange (e : FreqEntry) : Bool := inRange 40 400 e.period && e.permission.isSome

/-- The candidate an entry gives; an entry without a permission is refused before this is asked (R97). -/
def freqSpecOf (e : FreqEntry) : FreqSpec :=
  { period := e.period, permission := e.permission.getD .banned }

/-! ### Supervision -/

/-- The open start in tu (R152). -/
def openStartOf (period fraction : Nat) : Nat := period * 200 * (100 - fraction)

/-- A fraction field of SUPERVISE_START (R153, check 2). -/
def fractionInRange (f : Nat) : Bool := f == 0 || f == 25 || f == 50 || f == 75 || f == 100

end Sys2Proof.Machine
end

