-- ==== Sys2Proof/Machine/Flags.lean ====
section
/-!
DEFINITION. What the spec derives whenever it is read: the extents of bands, their owners, the bands a window lends,
polarity, the outputs that follow the state (attention lines, fault line), and the flags byte of a reply.
-/

namespace Sys2Proof.Machine

open Sys2Proof

/-! ### Access to the duplicated blocks -/

/-- The state of one panel. -/
def State.panel (s : State) : Panel → PanelState
  | .cluster => s.cluster
  | .centre => s.centre

/-- The state of one port. -/
def State.port (s : State) : Port → PortState
  | .supervisor => s.supervisor
  | .media => s.media

/-- A reset has begun and is not released, or the delivered RESET_DEVICE reply makes one due (R172, R178; log entries
10, 11): ports shift out idle frames and ignore writes, and no operation runs. -/
def State.inReset (s : State) : Bool := s.resetLogic.held.isSome || s.resetLogic.requested

/-- The panel's power state is SCANNING. -/
def State.scanning (s : State) (p : Panel) : Bool := (s.panel p).power.state == .scanning

/-- The panel's power state is OFF or READY, in which configuration requests are taken (9.1). -/
def State.configurable (s : State) (p : Panel) : Bool :=
  (s.panel p).power.state == .off || (s.panel p).power.state == .ready

/-! ### Bands -/

/-- A band with its index and its first line (R22). -/
structure Placed where
  index : Nat
  first : Nat
  band : Band
  deriving DecidableEq, Repr

/-- The line after the band's last line. -/
def Placed.stop (x : Placed) : Nat := x.first + x.band.lines

/-- The bands with their indices and first lines, the first of them at index `i` and line `l` (R22). -/
def placeBands : Nat → Nat → List Band → List Placed
  | _, _, [] => []
  | i, l, b :: bs => { index := i, first := l, band := b } :: placeBands (i + 1) (l + b.lines) bs

/-- The bands of a table with their indices and first lines (R22). -/
def BandTable.placed (t : BandTable) : List Placed := placeBands 0 0 t.records

/-- The full-refresh cost of a panel's present layout (R4). -/
def PanelState.fullCost (x : PanelState) : Nat := fullRefreshCost x.timing (x.bands.records.map Band.lines)

/-- The OPEN window lends the band: it is NORMAL and lies wholly within the panel range (R29, R118). -/
def lends (w : Window) (x : Placed) : Bool :=
  x.band.cls == .normal && decide (w.panelBase ≤ x.first) && decide (x.stop ≤ w.panelEnd)

/-- The bands an OPEN window lends (R118). -/
def lentBands (t : BandTable) (w : Window) : List Placed := t.placed.filter (lends w)

/-- Some OPEN window lends the band (R29). -/
def lentBy (windows : List (Option Window)) (x : Placed) : Bool :=
  windows.any fun o => o.any fun w => lends w x

/-- The owner of a band, derived afresh (R29). -/
def State.owner (s : State) (p : Panel) (x : Placed) : Owner :=
  match p with
  | .centre => .media
  | .cluster => if lentBy s.windows.slots x then .media else .supervisor

/-- The owner that a port is (R129, check 3). -/
def ownerOfPort : Port → Owner
  | .supervisor => .supervisor
  | .media => .media

/-- The band of the panel that holds a line, if any (R23). -/
def State.bandOfLine (s : State) (p : Panel) (line : Nat) : Option Placed :=
  (s.panel p).bands.placed.find? fun x => decide (x.first ≤ line) && decide (line < x.stop)

/-! ### Windows -/

/-- The EMPTY mark (R115, R117). -/
def windowEmpty (w : Window) : Bool := w.panelEnd == w.panelBase

/-- The line after the window's canvas range, which is as wide as its panel range (R115). -/
def canvasEnd (w : Window) : Nat := w.canvasBase + (w.panelEnd - w.panelBase)

/-- Some window is OPEN, an EMPTY one included (R2, R25). -/
def State.anyWindowOpen (s : State) : Bool := s.windows.slots.any Option.isSome

/-! ### Grants -/

/-- The grant covers band `i` of panel `p` (R127). -/
def Grant.covers (g : Grant) (p : Panel) (i : Nat) : Bool :=
  decide (g.panel = p) && decide (g.first ≤ i) && decide (i ≤ g.last)

/-- Some grant on the panel is open (R2, R25). -/
def State.anyGrant (s : State) (p : Panel) : Bool := s.grants.records.any fun g => decide (g.panel = p)

/-- The open grants of one port (R127, R139). -/
def State.grantsOf (s : State) (port : Port) : List Grant :=
  s.grants.records.filter fun g => decide (g.port = port)

/-! ### Polarity -/

/-- POS for even frame numbers, NEG for odd (R9). -/
def polarityOf (n : FrameNo) : FramePolarity := if n.toNat % 2 = 0 then .pos else .neg

/-- +1 for POS, −1 for NEG (R34, R45, R48). -/
def signOf : FramePolarity → Int
  | .pos => 1
  | .neg => -1

/-! ### Outputs that follow the state -/

/-- The fault output: high while at least one cause is set (R159). -/
def State.faultLine (s : State) : Bool := s.faults.supervision || s.faults.integrity || s.faults.power

/-- A port's attention line is asserted (low) while a reply or a notice waits (R168). -/
def PortState.attention (x : PortState) : Bool := x.reply.isSome || !x.queue.isEmpty

/-- The level of a PWM output: true for high (R105). -/
def Dimmer.outputHigh (d : Dimmer) : Bool :=
  match d.settings.polarity with
  | .activeHigh => d.active
  | .activeLow => !d.active

/-- The flags byte formed when a read begins with the reply: bit 0 later request discarded, bit 1 notices waiting,
bit 2 notices lost (11.2, R165). -/
def PortState.flagsByte (x : PortState) (r : Reply) : Byte :=
  (if r.discardMark then 1 else 0) + (if x.queue.isEmpty then 0 else 2) + (if x.lostMark then 4 else 0)

/-! ### Supervision -/

/-- The open start of the period in force (R152). -/
def Monitor.openStart (m : Monitor) : Nat := openStartOf m.period m.fraction

/-- The length of the period in force in tu (R152). -/
def Monitor.periodTu (m : Monitor) : Nat := m.period * Config.tuPerMs

end Sys2Proof.Machine
end

