-- ==== Sys2Proof/Machine/Ops.lean ====
section
/-!
DEFINITION. The operations the commands share: writing one panel or one port, posting notices, taking a request and
placing its reply, marking bands, ending grants, closing windows, ending a scan, entering DRAIN, setting a fault cause.
-/

namespace Sys2Proof.Machine

open Sys2Proof

/-! ### Writing one panel or one port -/

/-- Replace the state of one panel. -/
def State.setPanel (s : State) (p : Panel) (x : PanelState) : State :=
  match p with
  | .cluster => { s with cluster := x }
  | .centre => { s with centre := x }

/-- Change the state of one panel. -/
def State.updPanel (s : State) (p : Panel) (f : PanelState → PanelState) : State := s.setPanel p (f (s.panel p))

/-- Replace the state of one port. -/
def State.setPort (s : State) (q : Port) (x : PortState) : State :=
  match q with
  | .supervisor => { s with supervisor := x }
  | .media => { s with media := x }

/-- Change the state of one port. -/
def State.updPort (s : State) (q : Port) (f : PortState → PortState) : State := s.setPort q (f (s.port q))

/-- Change the power sequencer of a panel. -/
def State.updPower (s : State) (p : Panel) (f : Power → Power) : State :=
  s.updPanel p fun x => { x with power := f x.power }

/-- Change the frame lock of a panel. -/
def State.updLock (s : State) (p : Panel) (f : FrameLock → FrameLock) : State :=
  s.updPanel p fun x => { x with lock := f x.lock }

/-- Change the dimmer of a panel. -/
def State.updDimmer (s : State) (p : Panel) (f : Dimmer → Dimmer) : State :=
  s.updPanel p fun x => { x with dimmer := f x.dimmer }

/-- Change the band records of a panel. -/
def State.updBands (s : State) (p : Panel) (f : List Band → List Band) : State :=
  s.updPanel p fun x => { x with bands := { x.bands with records := f x.bands.records } }

/-- A meaning that has no effect while a reset is held or due (R172; log entry 11). -/
def unlessReset (s : State) (f : State → State) : State := if s.inReset then s else f s

/-! ### Notices (R167) -/

/-- Offer a notice to a queue: it joins the tail, or is lost when the queue holds 32. -/
def PortState.offer (n : Notice) (x : PortState) : PortState :=
  if x.queue.length < Config.queueLimit then { x with queue := x.queue ++ [n] }
  else { x with lost := x.lost + 1, lostMark := true }

/-- Post a notice to a port; a DISABLED media port discards it. -/
def post (q : Port) (n : Notice) (s : State) : State :=
  match q with
  | .supervisor => s.updPort .supervisor (PortState.offer n)
  | .media => if s.mediaEnabled then s.updPort .media (PortState.offer n) else s

/-- Post a notice to both ports, each queue separately. -/
def postBoth (n : Notice) (s : State) : State := post .media n (post .supervisor n s)

/-- Post a panel's own notice: the cluster's to the supervisor port, the centre's to both. -/
def postOwn (p : Panel) (n : Notice) (s : State) : State :=
  match p with
  | .cluster => post .supervisor n s
  | .centre => postBoth n s

/-- A notice that names a panel carries that panel's frame number (R6). -/
def State.panelNotice (s : State) (p : Panel) (b : NoticeBody) : Notice :=
  { panel := some p, frame := (s.panel p).frame.number, body := b }

/-- A notice that concerns the device as a whole (R167). -/
def deviceNotice (b : NoticeBody) : Notice := { panel := none, frame := 0, body := b }

/-! ### Taking a request (R164 check 2, R165, R166) -/

/-- A refusal without results. -/
def refuse (o : OutcomeCode) : Answer := { outcome := o, results := .none }

/-- An OK answer. -/
def accept (r : Results) : Answer := { outcome := .ok, results := r }

/-- A request discarded while a reply is pending: the counter rises and the reply gains its discard mark (R165). -/
def PortState.discardRequest (x : PortState) : PortState :=
  { x with discards := x.discards + 1, reply := x.reply.map fun r => { r with discardMark := true } }

/-- Place a reply in a port, with the discard mark clear (R165, R166). -/
def placeReply (q : Port) (tag kind : Byte) (a : Answer) (s : State) : State :=
  s.updPort q fun x =>
    { x with reply := some { tag := tag, kind := kind, outcome := a.outcome, results := a.results,
                             discardMark := false } }

/-- The port answers PORT_LOCKED: the DISABLED media port, for every kind but IDENTIFY and STATUS (R166, check 2). -/
def State.portLocks (s : State) (q : Port) (kind : Byte) : Bool :=
  match q with
  | .supervisor => false
  | .media => !s.mediaEnabled && kind != 0x20 && kind != 0x1F

/-- The taking of a correctly framed request of a known kind: discarded while a reply is pending, PORT_LOCKED, or
served by the block that owns it, whose reply becomes the pending reply (R164, R165, R166). -/
def takeRequest (q : Port) (tag kind : Byte) (serve : State → State × Answer) (s : State) : State :=
  if s.inReset then s
  else if (s.port q).reply.isSome then s.updPort q PortState.discardRequest
  else if s.portLocks q kind then placeReply q tag kind (refuse .portLocked) s
  else placeReply q tag kind (serve s).2 (serve s).1

/-! ### Band records -/

/-- Change each band of a table by its index and first line. -/
def mapBands (f : Placed → Band) : Nat → Nat → List Band → List Band
  | _, _, [] => []
  | i, l, b :: bs => f { index := i, first := l, band := b } :: mapBands f (i + 1) (l + b.lines) bs

/-- Set the dirty flag of each band that satisfies `hit`; nothing else of a record changes (R31, R40). -/
def markWhere (hit : Placed → Bool) (records : List Band) : List Band :=
  mapBands (fun x => if hit x then { x.band with dirty := true } else x.band) 0 0 records

/-- Change band `i` of a table. -/
def modifyBand (i : Nat) (f : Band → Band) : List Band → List Band
  | [] => []
  | b :: bs =>
    match i with
    | 0 => f b :: bs
    | i + 1 => b :: modifyBand i f bs

/-- The band lies in the index range `first..last`. -/
def inIndexRange (first last : Nat) (x : Placed) : Bool := decide (first ≤ x.index) && decide (x.index ≤ last)

/-- The band contains a line of `[first, last]` (R31). -/
def meetsLines (first last : Nat) (x : Placed) : Bool := decide (x.first ≤ last) && decide (first < x.stop)

/-! ### Ending grants (R135, R136) -/

/-- The number of bands a grant covers. -/
def Grant.size (g : Grant) : Nat := g.last + 1 - g.first

/-- The grant leaves the list and every band of its range is marked dirty (8.4). -/
def endGrant (g : Grant) (s : State) : State :=
  { s with grants := { s.grants with records := s.grants.records.filter fun x => x.id != g.id } }.updBands g.panel
    (markWhere (inIndexRange g.first g.last))

/-- Revoke one grant: it ends, and GRANT_REVOKED goes to its port (R136, R137). -/
def revokeGrant (reason : RevokeReason) (s : State) (g : Grant) : State :=
  post g.port (s.panelNotice g.panel (.grantRevoked g.id reason g.state g.held g.size)) (endGrant g s)

/-- Revoke each of these grants. DESIGN CHOICE: in the order of the grant list, which is that of the GRANT_REVOKED notices;
R122, R136 and R156 give none (log entry 16). -/
def revokeAll (reason : RevokeReason) (gs : List Grant) (s : State) : State := gs.foldl (revokeGrant reason) s

/-! ### Closing windows (R122, R124) -/

/-- The media grants whose range includes a band the window lends (R122, step 1). -/
def State.windowGrants (s : State) (w : Window) : List Grant :=
  s.grants.records.filter fun g =>
    decide (g.port = .media) && (lentBands s.cluster.bands w).any fun x => g.covers .cluster x.index

/-- The reason of a GRANT_REVOKED posted by a close (R122, R136). -/
def closeRevokeReason : CloseReason → RevokeReason
  | .request => .windowClose
  | .fault => .supervisionFault

/-- Close window `i`, which holds `w`: its media grants are revoked, it becomes CLOSED, WINDOW_CLOSED goes to the media
port (R122, R123). -/
def closeWindow (i : Nat) (w : Window) (reason : CloseReason) (s : State) : State :=
  let s1 := revokeAll (closeRevokeReason reason) (s.windowGrants w) s
  let s2 := { s1 with windows := { s1.windows with slots := s1.windows.slots.set i none } }
  post .media
    (s.panelNotice .cluster
      (.windowClosed i reason w.canvasBase w.panelBase w.panelEnd (lentBands s.cluster.bands w).length
        (s.windowGrants w).length)) s2

/-- Close window `i` if it is OPEN. -/
def closeIfOpen (reason : CloseReason) (s : State) (i : Nat) : State :=
  match s.windows.slots[i]? with
  | some (some w) => closeWindow i w reason s
  | _ => s

/-- Close every OPEN window in order of index (R124). -/
def closeAllWindows (reason : CloseReason) (s : State) : State := [0, 1, 2, 3].foldl (closeIfOpen reason) s

/-! ### Fault causes (R159) -/

/-- Set the SUPERVISION cause. -/
def setSupervisionCause (s : State) : State := { s with faults := { s.faults with supervision := true } }

/-- Set the INTEGRITY cause. -/
def setIntegrityCause (s : State) : State := { s with faults := { s.faults with integrity := true } }

/-- Set the POWER cause. -/
def setPowerCause (s : State) : State := { s with faults := { s.faults with power := true } }

/-! ### Power states and the end of a scan -/

/-- Post the PANEL_STATE notice of a change from `left` to the state that stands (R148). -/
def postPanelState (p : Panel) (left : PowerState) (reason : PanelReason) (s : State) : State :=
  let w := (s.panel p).power
  postOwn p (s.panelNotice p (.panelState left w.state reason w.logicEn w.gateEn w.powerGood)) s

/-- Switch a backlight off at once (R111). -/
def Dimmer.switchOff (d : Dimmer) : Dimmer :=
  { d with applied := 0, frameDuty := none, darkNow := false, darkNext := false, enable := false, edges := [],
           active := false }

/-- The lock is FREE with nothing measured; settings, T_base and the glitch counter are kept (R12). -/
def FrameLock.release (l : FrameLock) : FrameLock :=
  { l with state := .free, correction := none, capture := none, previous := none, gapRef := none, good := 0,
           miss := 0, inFlight := [] }

/-- What ends with a panel's scanning, in either way of R11: the frame times, the lock, the build and the ready plan
(R67), the executing plan (R68), and the partner markers in flight for the other panel (R16). -/
def stopScan (p : Panel) (s : State) : State :=
  (s.updPanel p fun x =>
    { x with
      frame := { x.frame with start := none, length := none, next := none }
      lock := x.lock.release
      builder := { x.builder with build := none, ready := none }
      seq := none }).updLock (otherPanel p) fun l => { l with inFlight := [] }

/-- Clear the outstanding result waits when the panel is the centre panel (R95). -/
def clearWaits (p : Panel) (s : State) : State :=
  match p with
  | .cluster => s
  | .centre => { s with touch := { s.touch with waits := [] } }

/-- Scanning ends at once on loss of power-good: backlight off (R111), expectations cleared without comparison (R82),
waits cleared (R95), stop pending and off pending cleared (R140). -/
def abandonScan (p : Panel) (s : State) : State :=
  clearWaits p
    ((stopScan p s).updPanel p fun x =>
      { x with
        dimmer := x.dimmer.switchOff
        link := { x.link with expectations := [] }
        power := { x.power with stopPending := false, offPending := false } })

/-- The open grants on a panel. -/
def State.grantsOn (s : State) (p : Panel) : List Grant := s.grants.records.filter fun g => decide (g.panel = p)

/-- Entry into DRAIN: GATE_EN falls, the panel's grants are revoked, DISCHARGE starts, PANEL_STATE is posted; an
autostart mark is cleared (R147, R176). -/
def enterDrain (p : Panel) (reason : PanelReason) (s : State) : State :=
  let left := (s.panel p).power.state
  let s1 := s.updPower p fun w => { w with state := .drain, gateEn := false, autostart := false }
  let s2 := revokeAll .drain (s1.grantsOn p) s1
  let s3 := s2.updPower p fun w =>
    { w with step := some { step := .discharge, deadline := s.count.after (w.times.tC * Config.tuPerMs) } }
  postPanelState p left reason s3

end Sys2Proof.Machine
end

