-- ==== Sys2Proof/Machine/Frames.lean ====
section
/-!
DEFINITION. The frames on the ports as bytes (11.2): the check, the reply, notice and idle frames. The bytes of results
and of notice fields are free values (log entry 6); the frame around them is the spec's.
-/

namespace Sys2Proof.Machine

open Sys2Proof

/-- One bit of the check: generator x^16 + x^12 + x^5 + 1, most significant bit first (11.2). -/
def crcShift (c : Crc) : Crc := if c.msb then (c <<< 1) ^^^ 0x1021 else c <<< 1

/-- Eight bits of the check. -/
def crcShift8 (c : Crc) : Crc :=
  crcShift (crcShift (crcShift (crcShift (crcShift (crcShift (crcShift (crcShift c)))))))

/-- One byte taken into the check. -/
def crcByte (c : Crc) (b : Byte) : Crc := crcShift8 (c ^^^ (b.setWidth 16 <<< 8))

/-- The check over some bytes, initial value 0xFFFF, no reflection and no final inversion (11.2). -/
def frameCheck (bytes : List Byte) : Crc := bytes.foldl crcByte 0xFFFF

/-- A 16-bit field, high byte first (11.2). -/
def highFirst (x : BitVec 16) : List Byte := [(x >>> 8).setWidth 8, x.setWidth 8]

/-- The 16-bit value of two bytes, high byte first (11.2). -/
def fromHighFirst (hi lo : Byte) : BitVec 16 := (hi.setWidth 16 <<< 8) ||| lo.setWidth 16

/-- A frame: start byte, length, the bytes counted, and the check over length and bytes (11.2). -/
def frameOf (start : Byte) (counted : List Byte) : List Byte :=
  let body := BitVec.ofNat 8 counted.length :: counted
  start :: body ++ highFirst (frameCheck body)

/-- A reply's results as bytes: none for a reply without results; at most 246, since a length byte is at most 250. -/
def bytesOfResults : Results → List Byte
  | .none => []
  | r => (Config.resultBytes r).take 246

/-- The reply frame, with the flags byte formed now (11.2, R165). -/
def replyFrame (x : PortState) (r : Reply) : List Byte :=
  frameOf 0xA1 ([r.tag, r.kind, r.outcome.code, x.flagsByte r] ++ bytesOfResults r.results)

/-- The panel byte of a notice (Conventions, 11.2). -/
def panelByte : Option Panel → Byte
  | some .cluster => 0
  | some .centre => 1
  | none => 0xFF

/-- The notice frame (11.2). -/
def noticeFrame (n : Notice) : List Byte :=
  frameOf 0xA2 ([n.body.code, panelByte n.panel] ++ highFirst n.frame ++ (Config.noticeBytes n.body).take 246)

/-- The idle frame (11.2). -/
def idleFrame : List Byte := [0xA0, 0x00, 0x00]

/-- The first `n` bytes of a frame followed by 0x00 to the end of the transaction (R163). -/
def shiftedBytes (frame : List Byte) (n : Nat) : List Byte := (frame ++ List.replicate n 0).take n

end Sys2Proof.Machine
end

