-- ==== Sys2Proof/Machine/Params.lean ====
section
/-!
DEFINITION. The request that a kind byte and the parameter bytes spell (R166, check 3). What each kind carries, that too few
or too many bytes spell nothing, and that of a kind with a list the count is the owning block's to judge, are the spec's;
widths, places and codes are free values (log entry 5).
-/

namespace Sys2Proof.Machine

open Sys2Proof

/-- The requests that carry no parameter, by kind (R91, R102, R125, R154, R158, R169, R178). -/
def plainRequest (kind : Byte) : Option Request :=
  [Request.touchEnable, .touchDisable, .touchRead, .windowRead, .keepalive, .recover, .mediaEnable, .mediaDisable,
    .identify, .resetDevice].find? fun r => r.code == kind

/-- BAND_LAYOUT, DAMAGE, TOUCH_GROUPS and WRITE_CLOSE end in a list of varying length (R25, R30, R89, R134). -/
def carriesList (kind : Byte) : Bool := kind == 0x03 || kind == 0x04 || kind == 0x09 || kind == 0x13

/-- The bytes of a kind's parameters, the entries of its list apart. -/
def fixedBytes (kind : Byte) : Nat := if (plainRequest kind).isSome then 0 else Config.paramBytes kind + 1

/-- The bytes of one entry of a kind's list. -/
def listEntryBytes (kind : Byte) : Nat := Config.entryBytes kind + 1

/-- The bytes end with the last entry of the kind's list: the fixed bytes, and any number of whole entries after them. -/
def endsWhole (kind : Byte) (n : Nat) : Bool :=
  decide (fixedBytes kind ≤ n) && (n - fixedBytes kind) % listEntryBytes kind == 0

/-- As many parameter bytes as a kind requires. Of a kind with a list any number passes, since its count is the owning
block's own to check (R166, check 3). -/
def paramsFit (kind : Byte) (n : Nat) : Bool := carriesList kind || n == fixedBytes kind

/-- The first `k` pieces of `size` bytes. -/
def pieces (size : Nat) : Nat → List Byte → List (List Byte)
  | 0, _ => []
  | k + 1, bytes => bytes.take size :: pieces size k (bytes.drop size)

/-- The list of a kind as the bytes carry it, each entry as its numbers. -/
def listOf (kind : Byte) (params : List Byte) : Carried (Nat → Nat) :=
  let rest := params.drop (fixedBytes kind)
  { entries := (pieces (listEntryBytes kind) (rest.length / listEntryBytes kind) rest).map
      fun e k => Config.entryField kind k e
    whole := endsWhole kind params.length }

/-- The request of a kind that carries parameters, from their numbers `f 0, f 1, …` and its list, in the order its rule
names them. None for every other kind. -/
def spellRequest (kind : Byte) (f : Nat → Nat) (list : Carried (Nat → Nat)) : Option Request :=
  match kind.toNat with
  | 0x01 => some (.panelConfig (f 0)
      { nAct := f 1, tLine := f 2, nVb := f 3, tSet := f 4, tSkip := f 5, tMin := f 6, tNom := f 7, tMax := f 8,
        planLead := f 9 })
  | 0x02 => some (.lockMode (f 0)
      { source := Config.markerSourceOf (f 1), slewLimit := f 2, lockWindow := f 3, missLimit := f 4,
        partnerOffset := f 5 })
  | 0x03 => some (.bandLayout (f 0) (f 1) (f 2)
      (list.map fun e => { lines := e 0, cls := Config.bandClassOf (e 1), holdLimit := e 2 }))
  | 0x04 => some (.damage (Config.damageTargetOf (f 0)) (f 1)
      (list.map fun e => { first := e 0 % 65536, last := e 1 % 65536 }))
  | 0x05 => some (.fullRefresh (f 0))
  | 0x06 => some (.subscribe (f 0) (Config.flagOf kind (f 1)))
  | 0x07 => some (.lineWatch (f 0) (f 1) (f 2 % 65536) (Config.watchModeOf (f 3)))
  | 0x08 => some (.crcSet (f 0) (BitVec.ofNat 16 (f 1)) (f 2))
  | 0x09 => some (.touchGroups
      { tGuard := f 0, listenBursts := f 1, edgeGuard := f 2, crossCoupling := Config.flagOf kind (f 3),
        timeout := f 4 }
      (f 5)
      (list.map fun e =>
        { id := e 0, code := BitVec.ofNat 8 (e 1), interval := e 2, bursts := e 3,
          enabled := Config.flagOf kind (e 4) }))
  | 0x0C => some (.freqTable
      ((List.range 6).map fun k => { period := f k, permission := Config.permissionOf (f (k + 6)) }) (f 12) (f 13))
  | 0x0E => some (.backlight (f 0)
      { target := f 1, ramp := f 2, periods := f 3, polarity := Config.pwmPolarityOf (f 4), cap := f 5 })
  | 0x0F => some (.windowOpen (f 0) (f 1) (f 2) (f 3) (f 4))
  | 0x10 => some (.windowClose (f 0))
  | 0x12 => some (.writeOpen (f 0) (f 1) (f 2) (f 3))
  | 0x13 => some (.writeClose (f 0) (list.map fun e => BitVec.ofNat 16 (e 0)))
  | 0x14 => some (.panelOn (f 0) (f 1 % 256) (f 2 % 256) (f 3 % 256))
  | 0x15 => some (.panelStart (f 0))
  | 0x16 => some (.panelStop (f 0))
  | 0x17 => some (.panelOff (f 0))
  | 0x18 => some (.superviseStart (f 0) (f 1))
  | 0x1B => some (.clearFault (Config.causesOf (f 0)))
  | 0x1E => some (.setTimingLock (Config.flagOf kind (f 0)))
  | 0x1F => some (.status (f 0))
  | 0x22 => some (.profileWrite (Config.flagOf kind (f 0)) (Config.flagOf kind (f 1)))
  | 0x23 => some (.profileRead (f 0))
  | _ => none

/-- The request that a known kind and its parameter bytes spell, or none where the parameters are fewer or more than the
kind requires (R166, check 3). A field that the bytes stop short of is a free value as every other is. -/
def requestOf (kind : Byte) (params : List Byte) : Option Request :=
  if paramsFit kind params.length then
    match plainRequest kind with
    | some r => some r
    | none =>
      spellRequest kind (fun k => Config.paramField kind k (params.take (fixedBytes kind))) (listOf kind params)
  else none

end Sys2Proof.Machine
end

