-- ==== Sys2Proof/Machine/Lock.lean ====
section
/-!
DEFINITION. Frame timing and lock (chapter 1): PANEL_CONFIG, LOCK_MODE, the marker events, and the plan-point decision.
-/

namespace Sys2Proof.Machine

open Sys2Proof

/-! ### PANEL_CONFIG (R2..R5) -/

/-- The single-band layout that replaces a changed N_act (R27). -/
def singleBand (nAct : Nat) : BandSpec := { lines := nAct, cls := .normal, holdLimit := 4 }

/-- The bands a panel has under a new N_act: its present ones when N_act is unchanged, else one band (R5). -/
def recordsUnder (x : PanelState) (nAct : Nat) : List Band :=
  if nAct = x.timing.nAct then x.bands.records else [Band.fresh (singleBand nAct)]

/-- The full-refresh cost PANEL_CONFIG tests (R4). -/
def configCost (x : PanelState) (t : Timing) : Nat := fullRefreshCost t ((recordsUnder x t.nAct).map Band.lines)

/-- The effect of a PANEL_CONFIG that passes its checks (R5, R27). DESIGN CHOICE: T_base keeps its value, as the lock's
settings and state do, until PANEL_START or a change of source sets it to the new T_nom; R5 does not name it (log entry
39). -/
def PanelState.configure (t : Timing) (x : PanelState) : PanelState :=
  { x with timing := t, bands := { x.bands with records := recordsUnder x t.nAct } }

/-- An open window on the cluster, or an open grant on the panel, holds its layout (R2 check 4, R25 check 3). -/
def State.layoutHeld (s : State) (p : Panel) : Bool :=
  (decide (p = .cluster) && s.anyWindowOpen) || s.anyGrant p

/-- PANEL_CONFIG, by the checks of R2 in order. A panel index other than 0 or 1 is BAD_PARAM (log entry 9). -/
def servePanelConfig (q : Port) (panel : Nat) (t : Timing) (s : State) : State × Answer :=
  if q = .media ∧ panel = 0 then (s, refuse .notPermitted)
  else if q = .media ∧ panel = 1 ∧ s.timingLock = true then (s, refuse .timingLocked)
  else
    match panelOf panel with
    | none => (s, refuse .badParam)
    | some p =>
      let x := s.panel p
      if s.configurable p = false then (s, refuse .wrongState)
      else if t.nAct ≠ x.timing.nAct ∧ s.layoutHeld p = true then (s, refuse .wrongState)
      else if timingInRange t = false then (s, refuse .badParam)
      else if timingRelated t x.lock.settings = false then (s, refuse .badParam)
      else if t.tMax < configCost x t then (s, { outcome := .doesNotFit, results := .cost (configCost x t) })
      else (s.updPanel p (PanelState.configure t), accept (.cost (configCost x t)))

/-- PANEL_CONFIG (R2). -/
def execPanelConfig (q : Port) (tag : Byte) (panel : Nat) (t : Timing) (s : State) :
    Host.Outcome State Fault Refusal :=
  .next (takeRequest q tag 0x01 (servePanelConfig q panel t) s)

/-! ### Lock notices and LOCK_MODE (R13, R14, R20) -/

/-- The LOCK_STATE notice of a change from `left` to the state that stands (R20). -/
def postLockState (p : Panel) (left : LockState) (s : State) : State :=
  postOwn p (s.panelNotice p (.lockState left (s.panel p).lock.state (s.panel p).lock.tBase)) s

/-- The state a scanning panel's lock takes from its source at PANEL_START and at a change of source (R12, R14). -/
def lockStateFor : MarkerSource → LockState
  | .none => .free
  | .external => .seek
  | .partner => .seek

/-- Nothing measured and nothing captured, T_base at T_nom (R12, R14). -/
def FrameLock.restart (tNom : Nat) (l : FrameLock) : FrameLock :=
  { l with tBase := tNom, correction := none, capture := none, previous := none, gapRef := none, good := 0, miss := 0 }

/-- The lock after a LOCK_MODE that passes its checks (R14). -/
def FrameLock.setMode (settings : LockSettings) (tNom : Nat) (scanning : Bool) (l : FrameLock) : FrameLock :=
  if settings.source = l.settings.source then { l with settings := settings }
  else
    { l.restart tNom with
      settings := settings
      inFlight := []
      state := if scanning then lockStateFor settings.source else .free }

/-- The lock was in LOCKED or HOLD and is in neither: the change LOCK_STATE reports (R20). -/
def leavesLock (left entered : LockState) : Bool :=
  (left == .locked || left == .hold) && !(entered == .locked || entered == .hold)

/-- LOCK_MODE, by the checks of R13 in order. A panel index other than 0 or 1 is BAD_PARAM (log entry 9). -/
def serveLockMode (q : Port) (panel : Nat) (r : LockRequest) (s : State) : State × Answer :=
  if q = .media ∧ panel = 0 then (s, refuse .notPermitted)
  else if q = .media ∧ panel = 1 ∧ s.timingLock = true then (s, refuse .timingLocked)
  else
    match panelOf panel, lockSettingsOf r with
    | some p, some settings =>
      let x := s.panel p
      if x.timing.tMax ≤ settings.partnerOffset then (s, refuse .badParam)
      else if settings.source = .partner ∧ (s.panel (otherPanel p)).lock.settings.source = .partner then
        (s, refuse .badParam)
      else
        let s1 := s.updLock p (FrameLock.setMode settings x.timing.tNom (s.scanning p))
        let entered := (s1.panel p).lock.state
        (if leavesLock x.lock.state entered then postLockState p x.lock.state s1 else s1, accept (.lock entered))
    | _, _ => (s, refuse .badParam)

/-- LOCK_MODE (R13). -/
def execLockMode (q : Port) (tag : Byte) (panel : Nat) (r : LockRequest) (s : State) :
    Host.Outcome State Fault Refusal :=
  .next (takeRequest q tag 0x02 (serveLockMode q panel r) s)

/-! ### Captures (R17) -/

/-- The marker's place in its frame: its time minus the frame start. A marker at the very end of the frame lies in the
frame that starts there (R17; log entry 21). -/
def markerPlace (now start : Tick) (length : Nat) : Nat :=
  if now.since start = length then 0 else now.since start

/-- The phase error (R17). -/
def phaseError (q length : Nat) : Int := if q ≤ length / 2 then (q : Int) else (q : Int) - length

/-- The correction: a quarter of the error, truncated toward zero, within the slew limit (R17). -/
def correctionOf (e : Int) (slew : Nat) : Int := clampInt (-(slew : Int)) slew (e.tdiv 4)

/-- The measured period: the time since the preceding capture's marker, clamped, when there is one (R17). -/
def measuredPeriod (t : Timing) (now : Tick) (previous : Option Tick) (tBase : Nat) : Nat :=
  match previous with
  | none => tBase
  | some m => max t.tMin (min t.tMax (now.since m))

/-- Take the capture of a marker that is used (R17). -/
def FrameLock.takeCapture (t : Timing) (now start : Tick) (length : Nat) (l : FrameLock) : FrameLock :=
  let e := phaseError (markerPlace now start length) length
  let c := correctionOf e l.settings.slewLimit
  { l with
    tBase := measuredPeriod t now l.previous l.tBase
    correction := some c
    capture := some { time := now, error := e, correction := c } }

/-- Use a marker in the capture interval of panel `p` when the interval has no capture yet; `other` is what happens to
the lock when it has one (R15, R16). -/
def useMarker (now : Tick) (other : FrameLock → FrameLock) (x : PanelState) : PanelState :=
  match x.lock.capture, x.frame.start, x.frame.length with
  | none, some start, some length => { x with lock := x.lock.takeCapture x.timing now start length }
  | _, _, _ => { x with lock := other x.lock }

/-- One more glitch (R21). -/
def FrameLock.countGlitch (l : FrameLock) : FrameLock := { l with glitches := l.glitches + 1 }

/-- The glitch filter accepts an edge when there is no gap reference, or at least floor(T_min / 2) tu have passed since
it, taken modulo 2^24 (R6, R15; log entry 22). -/
def gapPassed (t : Timing) (now : Tick) (l : FrameLock) : Bool :=
  match l.gapRef with
  | none => true
  | some g => decide (t.tMin / 2 ≤ now.since g)

/-- A rising edge on the marker input of a scanning panel with source EXTERNAL (R15). -/
def takeEdge (now : Tick) (x : PanelState) : PanelState :=
  if gapPassed x.timing now x.lock then
    useMarker now FrameLock.countGlitch { x with lock := { x.lock with gapRef := some now } }
  else { x with lock := x.lock.countGlitch }

/-- MARKER_EDGE: ignored unless the panel is SCANNING with source EXTERNAL (R15). -/
def execMarkerEdge (p : Panel) (s : State) : Host.Outcome State Fault Refusal :=
  .next (unlessReset s fun s =>
    if s.scanning p = true ∧ (s.panel p).lock.settings.source = .external then s.updPanel p (takeEdge s.count) else s)

/-! ### Partner markers (R16) -/

/-- Insert a due time into the markers in flight, in order of time from now (R12). -/
def insertDue (now due : Tick) : List Tick → List Tick
  | [] => [due]
  | t :: ts => if due.since now < t.since now then due :: t :: ts else t :: insertDue now due ts

/-- The frame start of panel `p` at this instant gives the other panel a partner marker, when that panel is SCANNING
with source PARTNER (R16). -/
def producePartnerMarker (p : Panel) (s : State) : State :=
  let o := otherPanel p
  if s.scanning o = true ∧ (s.panel o).lock.settings.source = .partner then
    s.updLock o fun l =>
      { l with inFlight := insertDue s.count (s.count.after l.settings.partnerOffset) l.inFlight }
  else s

/-- The first partner marker in flight for the panel is due at this instant (R16). -/
def State.partnerDue (s : State) (p : Panel) : Bool := (s.panel p).lock.inFlight.head? == some s.count

/-- PARTNER_MARKER: the marker leaves the list and is used when its interval has no capture yet (R16). -/
def execPartnerMarker (p : Panel) (s : State) : Host.Outcome State Fault Refusal :=
  .next (unlessReset s fun s =>
    if s.partnerDue p then
      s.updPanel p fun x =>
        useMarker s.count id { x with lock := { x.lock with inFlight := x.lock.inFlight.tail } }
    else s)

/-! ### The plan-point decision (R18, R19) -/

/-- What the closing interval shows: a capture within the lock window, a capture outside it, or none (R18). -/
inductive IntervalShows where
  | within
  | outside
  | nothing
  deriving DecidableEq, Repr

/-- What the closing interval shows (R18). -/
def FrameLock.shows (l : FrameLock) : IntervalShows :=
  match l.capture with
  | none => .nothing
  | some c => if |c.error| ≤ (l.settings.lockWindow : Int) then .within else .outside

/-- The table of R18. FREE takes no decision. -/
def FrameLock.decision (l : FrameLock) : FrameLock :=
  match l.state, l.shows with
  | .free, _ => l
  | .seek, .within => if l.good + 1 < 3 then { l with good := l.good + 1 } else { l with state := .locked, good := 0 }
  | .seek, _ => { l with good := 0 }
  | .locked, .within => l
  | .locked, .outside => { l with state := .seek, good := 0 }
  | .locked, .nothing =>
    if l.settings.missLimit ≤ 1 then { l with state := .seek, miss := 0 } else { l with state := .hold, miss := 1 }
  | .hold, .within => { l with state := .locked, miss := 0 }
  | .hold, .outside => { l with state := .seek, miss := 0, good := 0 }
  | .hold, .nothing =>
    if l.settings.missLimit ≤ l.miss + 1 then { l with state := .seek, miss := 0, good := 0 }
    else { l with miss := l.miss + 1 }

/-- The capture of the closing interval becomes that of the preceding interval (R18). -/
def FrameLock.closeInterval (l : FrameLock) : FrameLock :=
  { l with previous := l.capture.map Capture.time, capture := none }

/-- T_next by the state after the decision (R19). -/
def FrameLock.nextLength (t : Timing) (l : FrameLock) : Nat :=
  match l.state, l.correction with
  | .free, _ => t.tNom
  | .hold, _ => l.tBase
  | _, none => l.tBase
  | _, some c => (clampInt t.tMin t.tMax (l.tBase + c)).toNat

/-- The lock after its plan-point decision, its correction cleared (R18, R19). -/
def FrameLock.planPoint (l : FrameLock) : FrameLock :=
  { l.decision.closeInterval with correction := none }

/-- Entering LOCKED from SEEK, and leaving LOCKED or HOLD for SEEK, post LOCK_STATE (R20). -/
def lockNoticeDue (left entered : LockState) : Bool :=
  leavesLock left entered || (left == .seek && entered == .locked)

/-- The lock's part of a plan point: the decision, its notice, and the next frame length recorded (R8, R18..R20). -/
def lockPlanPoint (p : Panel) (s : State) : State :=
  let x := s.panel p
  let next := x.lock.decision.nextLength x.timing
  let s1 := s.updPanel p fun x =>
    { x with lock := x.lock.planPoint, frame := { x.frame with next := some next } }
  if lockNoticeDue x.lock.state x.lock.decision.state then postLockState p x.lock.state s1 else s1

end Sys2Proof.Machine
end

