-- ==== Sys2Proof/Machine/Bands.lean ====
section
/-!
DEFINITION. The band table's requests (chapter 2): BAND_LAYOUT, DAMAGE on a panel and on the canvas (7.3), FULL_REFRESH.
-/

namespace Sys2Proof.Machine

open Sys2Proof

/-! ### BAND_LAYOUT (R25, R26) -/

/-- BAND_LAYOUT, by the checks of R25 in order. A panel index other than 0 or 1 is BAD_PARAM (log entry 9). -/
def serveBandLayout (q : Port) (panel bMax bandCount : Nat) (list : Carried BandEntry) (s : State) :
    State × Answer :=
  let entries := list.entries
  if q = .media ∧ panel = 0 then (s, refuse .notPermitted)
  else
    match panelOf panel with
    | none => (s, refuse .badParam)
    | some p =>
      let x := s.panel p
      let layout := entries.map bandSpecOf
      let cost := fullRefreshCost x.timing (layout.map BandSpec.lines)
      if s.configurable p = false then (s, refuse .wrongState)
      else if s.layoutHeld p = true then (s, refuse .wrongState)
      else if inRange 1 32 bandCount = false ∨ list.counts bandCount = false ∨ inRange 1 7 bMax = false then
        (s, refuse .badParam)
      else if entries.all bandEntryInRange = false then (s, refuse .badParam)
      else if entries.all (fun e => decide (8 ≤ e.lines)) = false
          ∨ (entries.map BandEntry.lines).sum ≠ x.timing.nAct then (s, refuse .badParam)
      else if p = .centre ∧ layout.any (fun b => b.cls == .guarded) = true then (s, refuse .badParam)
      else if x.timing.tMax < cost then (s, { outcome := .doesNotFit, results := .cost cost })
      else (s.updPanel p fun x => { x with bands := .fresh bMax layout }, accept (.layout cost layout.length))

/-- BAND_LAYOUT (R25). -/
def execBandLayout (q : Port) (tag : Byte) (panel bMax bandCount : Nat) (entries : List BandEntry) (s : State) :
    Host.Outcome State Fault Refusal :=
  .next (takeRequest q tag 0x03 (serveBandLayout q panel bMax bandCount (.all entries)) s)

/-! ### Damage on a panel (R31) -/

/-- A range clipped to lines `0..count − 1`, or clipped away whole (R31, R120). -/
def clipRange (count : Nat) (r : LineRange) : Option LineRange :=
  if r.first < count then some { first := r.first, last := min r.last (count - 1) } else none

/-- The band contains a line of some clipped range (R31). -/
def hitByAny (ranges : List LineRange) (x : Placed) : Bool := ranges.any fun r => meetsLines r.first r.last x

/-- The number of ranges clipped away whole. -/
def clippedAway (count : Nat) (ranges : List LineRange) : Nat :=
  (ranges.filter fun r => (clipRange count r).isNone).length

/-- Damage applied to a panel (R31). -/
def damagePanel (p : Panel) (ranges : List LineRange) (s : State) : State × Answer :=
  let x := s.panel p
  let clipped := ranges.filterMap (clipRange x.timing.nAct)
  (s.updBands p (markWhere (hitByAny clipped)),
   accept (.damage (x.bands.placed.filter (hitByAny clipped)).length (clippedAway x.timing.nAct ranges)))

/-! ### Canvas damage (R120, R121) -/

/-- Canvas line `v` lies in the window's canvas range (R115). -/
def inCanvas (w : Window) (v : Nat) : Bool := decide (w.canvasBase ≤ v) && decide (v < canvasEnd w)

/-- The panel line that canvas line `v` of the window's canvas range is translated to (R120). -/
def toPanelLine (w : Window) (v : Nat) : Nat := w.panelBase + (v - w.canvasBase)

/-- The window lends the band, and the lines of the clipped range that lie in the window's canvas range include one that
is translated to a line of the band (R120). -/
def windowHits (r : LineRange) (x : Placed) (w : Window) : Bool :=
  let first := max r.first w.canvasBase
  let last := min r.last (canvasEnd w - 1)
  lends w x && decide (first ≤ last) && decide (first < canvasEnd w)
    && meetsLines (toPanelLine w first) (toPanelLine w last) x

/-- Some OPEN window turns the clipped range into a line of the band, which it lends (R120). -/
def canvasHits (windows : List (Option Window)) (r : LineRange) (x : Placed) : Bool :=
  windows.any fun o => o.any (windowHits r x)

/-- Canvas line `v` reaches a lent band: an OPEN window's canvas range holds it, and its panel line lies in a band the
window lends (R121). -/
def reachesLent (t : BandTable) (windows : List (Option Window)) (v : Nat) : Bool :=
  windows.any fun o => o.any fun w =>
    inCanvas w v && (lentBands t w).any fun x => decide (x.first ≤ toPanelLine w v) && decide (toPanelLine w v < x.stop)

/-- The canvas lines of a clipped range. -/
def linesOf (r : LineRange) : List Nat := (List.range (r.last + 1 - r.first)).map fun k => r.first + k

/-- The range counts as missed: some line of it reaches no lent band (R121). -/
def canvasMissed (t : BandTable) (windows : List (Option Window)) (r : LineRange) : Bool :=
  (linesOf r).any fun v => !reachesLent t windows v

/-- Damage applied to the canvas (R120, R121). -/
def damageCanvas (ranges : List LineRange) (s : State) : State × Answer :=
  let t := s.cluster.bands
  let windows := s.windows.slots
  let clipped := ranges.filterMap (clipRange Config.canvasLines)
  let hit := fun x => clipped.any fun r => canvasHits windows r x
  let missed := (clipped.filter (canvasMissed t windows)).length
  let s1 := s.updBands .cluster (markWhere hit)
  ({ s1 with windows := { s1.windows with misses := s1.windows.misses + BitVec.ofNat 16 missed } },
   accept (.canvasDamage (t.placed.filter hit).length (clippedAway Config.canvasLines ranges) missed))

/-! ### DAMAGE and FULL_REFRESH -/

/-- DAMAGE, by the checks of R30 in order. -/
def serveDamage (q : Port) (target : Option DamageTarget) (rangeCount : Nat) (list : Carried LineRange) (s : State) :
    State × Answer :=
  let ranges := list.entries
  match target with
  | none => (s, refuse .badParam)
  | some target =>
    if q = .media ∧ target = .cluster then (s, refuse .notPermitted)
    else if q = .supervisor ∧ target = .canvas then (s, refuse .notPermitted)
    else if inRange 1 8 rangeCount = false ∨ list.counts rangeCount = false then (s, refuse .badParam)
    else if ranges.any (fun r => decide (r.last < r.first)) = true then (s, refuse .badParam)
    else
      match target with
      | .cluster => damagePanel .cluster ranges s
      | .centre => damagePanel .centre ranges s
      | .canvas => damageCanvas ranges s

/-- DAMAGE (R30). -/
def execDamage (q : Port) (tag : Byte) (target : Option DamageTarget) (rangeCount : Nat) (ranges : List LineRange)
    (s : State) : Host.Outcome State Fault Refusal :=
  .next (takeRequest q tag 0x04 (serveDamage q target rangeCount (.all ranges)) s)

/-- FULL_REFRESH (R33). -/
def serveFullRefresh (q : Port) (panel : Nat) (s : State) : State × Answer :=
  if q = .media ∧ panel = 0 then (s, refuse .notPermitted)
  else
    match panelOf panel with
    | none => (s, refuse .badParam)
    | some p =>
      (s.updBands p (markWhere fun _ => true), accept (.bandCount (s.panel p).bands.records.length))

/-- FULL_REFRESH (R33). -/
def execFullRefresh (q : Port) (tag : Byte) (panel : Nat) (s : State) : Host.Outcome State Fault Refusal :=
  .next (takeRequest q tag 0x05 (serveFullRefresh q panel) s)

end Sys2Proof.Machine
end

