-- ==== Sys2Proof/Machine/Backlight.lean ====
section
/-!
DEFINITION. Backlight dimming (chapter 6): the edge list, the ramp, the supply-warning cap, BACKLIGHT and PWM_EDGE.
-/

namespace Sys2Proof.Machine

open Sys2Proof

/-! ### Edges (R108) -/

/-- The edges of periods `k`, `k + 1`, … (`n` of them), with period length `P` and fall offset `f`; at full duty there
is no falling edge (R108). -/
def periodEdges (P f : Nat) (full : Bool) : Nat → Nat → List Edge
  | 0, _ => []
  | n + 1, k =>
    { time := k * P, rising := true } ::
      (if full then periodEdges P f full n (k + 1)
       else { time := k * P + f, rising := false } :: periodEdges P f full n (k + 1))

/-- The edge list of a frame of length `T` with duty `d` and `m` periods (R108). -/
def edgeList (T d m : Nat) : List Edge :=
  if d = 0 then [] else periodEdges (T / m) (d * (T / m) / 1024) (decide (1024 ≤ d)) m 0

/-! ### Ramp (R107) -/

/-- The effective target: the target, or the smaller of it and the cap while supply-hold is set (R107, R113). -/
def Dimmer.effectiveTarget (d : Dimmer) (hold : Bool) : Nat :=
  if hold then min d.settings.target d.settings.cap else d.settings.target

/-- One ramp step from `d` toward `target`; the target itself when it is no further than the step (R107). -/
def rampToward (d target step : Nat) : Nat :=
  if d ≤ target then (if target - d ≤ step then target else d + step)
  else (if d - target ≤ step then target else d - step)

/-- The frame duty a plan point fixes for the next frame (R107, step 1). -/
def Dimmer.nextDuty (d : Dimmer) (hold : Bool) : Nat :=
  rampToward d.applied (d.effectiveTarget hold) d.settings.ramp

/-- Fix the frame duty of the next frame (R107, step 1). -/
def Dimmer.fixDuty (hold : Bool) (d : Dimmer) : Dimmer := { d with frameDuty := some (d.nextDuty hold) }

/-- The frame end that another frame follows: the applied duty becomes the frame duty, capped for a dark-capped frame,
and the mark of the next frame becomes that of the frame in progress (R107 step 2, R112). -/
def Dimmer.takeDuty (d : Dimmer) : Dimmer :=
  let duty := d.frameDuty.getD d.applied
  { d with
    applied := if d.darkNext then min duty d.settings.cap else duty
    frameDuty := none
    darkNow := d.darkNext
    darkNext := false }

/-- The frame start: the edge list is formed from the frame's length and the applied duty. An output that was active
stays so up to a first rising edge that is to be driven (R108, R109, R112). -/
def Dimmer.formEdges (length : Nat) (d : Dimmer) : Dimmer :=
  { d with
    edges := edgeList length d.applied d.settings.periods
    active := d.active && !d.darkNow && d.applied != 0 }

/-! ### Supply warning (R112) -/

/-- The start of supply-hold in the dimmer of a SCANNING panel (R112). -/
def Dimmer.capNow (d : Dimmer) : Dimmer :=
  { d with
    applied := min d.applied d.settings.cap
    darkNow := d.darkNow || decide (d.settings.cap < d.applied)
    darkNext := d.darkNext || d.frameDuty.any fun f => decide (d.settings.cap < f) }

/-- The start of supply-hold in a panel: nothing changes unless it is SCANNING (R112). -/
def capPanel (p : Panel) (s : State) : State :=
  if s.scanning p then s.updDimmer p Dimmer.capNow else s

/-! ### BACKLIGHT (R106) -/

/-- BACKLIGHT, by the checks of R106 in order. -/
def serveBacklight (q : Port) (panel : Nat) (r : DimmerRequest) (s : State) : State × Answer :=
  if q = .media ∧ panel = 0 then (s, refuse .notPermitted)
  else if q = .media ∧ panel = 1 ∧ s.timingLock = true then (s, refuse .timingLocked)
  else
    match panelOf panel, dimmerSettingsOf r with
    | some p, some settings =>
      let d := (s.panel p).dimmer
      if (settings.periods ≠ d.settings.periods ∨ settings.polarity ≠ d.settings.polarity)
          ∧ s.configurable p = false then (s, refuse .wrongState)
      else
        (s.updDimmer p fun d => { d with settings := settings },
         accept (.backlight d.applied d.frameDuty d.enable))
    | _, _ => (s, refuse .badParam)

/-- BACKLIGHT (R106). -/
def execBacklight (q : Port) (tag : Byte) (panel : Nat) (r : DimmerRequest) (s : State) :
    Host.Outcome State Fault Refusal :=
  .next (takeRequest q tag 0x0E (serveBacklight q panel r) s)

/-! ### PWM_EDGE (R109) -/

/-- The time from the frame start that an event of the frame in progress falls at, as a reading of the count. -/
def PanelState.frameTick (x : PanelState) (offset : Nat) : Option Tick := x.frame.start.map fun t => t.after offset

/-- The next listed edge of the panel's frame is at this instant (R109). -/
def State.edgeDue (s : State) (p : Panel) : Bool :=
  match (s.panel p).dimmer.edges with
  | [] => false
  | e :: _ => (s.panel p).frameTick e.time == some s.count

/-- Drive the next listed edge. In a dark-capped frame a rising edge is withheld; at full duty the level after it is a
free value, since the spec gives that pulse no listed fall (R109, R112; log entry 15). -/
def Dimmer.drive (freeLevel : Bool) (d : Dimmer) : Dimmer :=
  match d.edges with
  | [] => d
  | e :: rest =>
    { d with
      edges := rest
      active := if e.rising then (if d.darkNow then d.active && freeLevel else true) else false }

/-- PWM_EDGE: the dimmer drives the next listed edge at its time (R109). -/
def execPwmEdge (p : Panel) (s : State) : Host.Outcome State Fault Refusal :=
  .next (unlessReset s fun s =>
    if s.edgeDue p then
      { s with free := s.free + 1 }.updDimmer p (Dimmer.drive (Config.fullDutyTail p s.free))
    else s)

end Sys2Proof.Machine
end

