-- ==== Sys2Proof/Machine/Planner.lean ====
section
/-!
DEFINITION. The plan builder (chapter 3): the snapshot's projections, classification, costs, the budget, placement of
touch slots, the fallback plan and the plan of frame 0.
-/

namespace Sys2Proof.Machine

open Sys2Proof

/-! ### Classification (R48) -/

/-- The class of a band in the frame planned (R48). -/
inductive PlanClass where
  | disallowed
  | mandatory
  | deferrable
  | skip
  deriving DecidableEq, Repr

/-- The sign of the frame planned (R48). -/
def Snapshot.sign (sn : Snapshot) : Int := signOf (polarityOf sn.number)

/-- Test 1 of R48: a refresh would carry the balance past B_max. -/
def isDisallowed (bMax : Nat) (sign : Int) (b : SnapBand) : Bool := decide ((bMax : Int) < |b.balance + sign|)

/-- Test 2 of R48: hold limit reached, balance refresh, or a protected band in supervision FAULT. -/
def isMandatory (bMax : Nat) (sign : Int) (monitorFault : Bool) (b : SnapBand) : Bool :=
  b.hold == b.holdLimit
    || (decide (|b.balance| = (bMax : Int)) && decide (|b.balance + sign| < |b.balance|))
    || (monitorFault && b.cls == .guarded)

/-- The first test of R48 that holds gives the class. -/
def Snapshot.classify (sn : Snapshot) (b : SnapBand) : PlanClass :=
  if isDisallowed sn.bMax sn.sign b then .disallowed
  else if isMandatory sn.bMax sn.sign sn.monitorFault b then .mandatory
  else if b.dirty && !b.covered && !sn.supplyHold then .deferrable
  else .skip

/-! ### Costs (R49, R50) -/

/-- The cost of a touch slot of group `g` (R49). -/
def SnapTouch.touchCost (t : SnapTouch) (g : SnapGroup) : Nat := 2 * t.tGuard + g.bursts * t.period

/-- The cost of the listen slot (R49). -/
def SnapTouch.listenCost (t : SnapTouch) (l : ListenItem) : Nat := 2 * t.tGuard + t.listenBursts * l.period

/-- The cost of a band's slot, refreshed or skipped (R49). -/
def bandCost (t : Timing) (refreshed : Bool) (lines : Nat) : Nat :=
  if refreshed then refreshCost t lines else t.tSkip

/-- C_base: the blank, the MANDATORY refreshes, and t_skip for every other band (R50). -/
def Snapshot.baseCost (sn : Snapshot) : Nat :=
  (sn.bands.map fun b => bandCost sn.timing (sn.classify b == .mandatory) b.lines).sum + blankTime sn.timing

/-! ### The budget (R51) -/

/-- An item the fill offers. -/
inductive FillItem where
  | touch (g : SnapGroup)
  | band (index lines : Nat)
  | listen (l : ListenItem)
  deriving DecidableEq, Repr

/-- The bands with their indices. -/
def indexBands : Nat → List SnapBand → List (Nat × SnapBand)
  | _, [] => []
  | i, b :: bs => (i, b) :: indexBands (i + 1) bs

/-- A group is due: enabled, and its projected age is at least its interval (R46). -/
def SnapGroup.due (g : SnapGroup) : Bool := g.enabled && decide (g.interval ≤ g.age)

/-- A due group is overdue when its projected age exceeds its interval (R46). -/
def SnapGroup.overdue (g : SnapGroup) : Bool := g.enabled && decide (g.interval < g.age)

/-- A due group is on time when its projected age equals its interval (R46). -/
def SnapGroup.onTime (g : SnapGroup) : Bool := g.enabled && decide (g.age = g.interval)

/-- Place an element before the first one that is not preferred to it; equal elements keep their order. -/
def insertDescending {α : Type} (key : α → Nat) (x : α) : List α → List α
  | [] => [x]
  | y :: ys => if key y ≤ key x then x :: y :: ys else y :: insertDescending key x ys

/-- By key descending; equal keys keep their order (R51: then by group id, then by band index). -/
def sortDescending {α : Type} (key : α → Nat) (xs : List α) : List α := xs.foldr (insertDescending key) []

/-- The DEFERRABLE bands, by projected h descending, then by index (R51, step 2). -/
def Snapshot.deferrables (sn : Snapshot) : List (Nat × SnapBand) :=
  sortDescending (fun x => x.2.hold) ((indexBands 0 sn.bands).filter fun x => sn.classify x.2 == .deferrable)

/-- Touch and listen items are offered: the panel has a touch part whose state is ENABLED, and supply-hold is clear
(R52). -/
def Snapshot.touchOffered (sn : Snapshot) : Option SnapTouch :=
  match sn.touch with
  | none => none
  | some t => if t.state == .enabled && !sn.supplyHold then some t else none

/-- The overdue groups, by projected age descending, then by id (R51, step 1). -/
def SnapTouch.overdueGroups (t : SnapTouch) : List SnapGroup :=
  sortDescending SnapGroup.age (t.groups.filter SnapGroup.overdue)

/-- The items in the order the fill offers them (R51). -/
def Snapshot.items (sn : Snapshot) : List FillItem :=
  let bands := sn.deferrables.map fun x => FillItem.band x.1 x.2.lines
  match sn.touchOffered with
  | none => bands
  | some t =>
    t.overdueGroups.map FillItem.touch ++ bands ++ (t.groups.filter SnapGroup.onTime).map FillItem.touch
      ++ t.listen.toList.map FillItem.listen

/-- What an item adds to the running total (R51). -/
def Snapshot.addedCost (sn : Snapshot) : FillItem → Nat
  | .touch g =>
    match sn.touch with
    | none => 0
    | some t => t.touchCost g
  | .band _ lines => refreshCost sn.timing lines - sn.timing.tSkip
  | .listen l =>
    match sn.touch with
    | none => 0
    | some t => t.listenCost l

/-- First fit: an item is admitted when the running total plus its added cost stays at or below `T` (R51). -/
def fill (cost : FillItem → Nat) (T : Nat) : Nat → List FillItem → List FillItem
  | _, [] => []
  | total, x :: xs =>
    if total + cost x ≤ T then x :: fill cost T (total + cost x) xs else fill cost T total xs

/-- The frame is stretched: C_base exceeds T (R50). -/
def Snapshot.stretches (sn : Snapshot) : Bool := decide (sn.length < sn.baseCost)

/-- The items admitted: none in a stretched frame (R50, R51). -/
def Snapshot.admitted (sn : Snapshot) : List FillItem :=
  if sn.stretches then [] else fill sn.addedCost sn.length sn.baseCost sn.items

/-- The fill admitted band `i` (R51). -/
def admitsBand (admitted : List FillItem) (i : Nat) : Bool :=
  admitted.any fun x =>
    match x with
    | .band j _ => j == i
    | _ => false

/-! ### Placement (R55..R58) -/

/-- A touch or listen slot to be placed. -/
structure TouchItem where
  cost : Nat
  kind : SlotKind
  deriving DecidableEq, Repr

/-- The touch and listen slots admitted, in admission order, with what each carries (R55, R59). -/
def Snapshot.touchItems (sn : Snapshot) (admitted : List FillItem) : List TouchItem :=
  match sn.touch with
  | none => []
  | some t =>
    admitted.filterMap fun x =>
      match x with
      | .touch g => some { cost := t.touchCost g, kind := .touch g.id g.code g.bursts t.active t.period }
      | .band _ _ => none
      | .listen l => some { cost := t.listenCost l, kind := .listen l.candidate l.period t.listenBursts }

/-- The boundary times from `x`: the start of each band in the touch-free timetable, and the end of the last (R55). -/
def boundaries (x : Nat) : List Nat → List Nat
  | [] => [x]
  | c :: cs => x :: boundaries (x + c) cs

/-- The distance of two times. -/
def timeDistance (a b : Nat) : Nat := (a - b) + (b - a)

/-- The index, counted from `i`, of the boundary nearest `target`, ties to the earlier; `best` and `bestAt` are the
nearest so far (R55). -/
def nearestFrom (target : Nat) : Nat → Nat → Nat → List Nat → Nat
  | _, best, _, [] => best
  | i, best, bestAt, b :: bs =>
    if timeDistance b target < timeDistance bestAt target then nearestFrom target (i + 1) i b bs
    else nearestFrom target (i + 1) best bestAt bs

/-- The boundary nearest `target` (R55). -/
def nearestBoundary (target : Nat) : List Nat → Nat
  | [] => 0
  | b :: bs => nearestFrom target 1 0 b bs

/-- A quiet interval, both ends included (R56). -/
structure Quiet where
  lo : Int
  hi : Int
  deriving DecidableEq, Repr

/-- The quiet interval of half-width `g` around an instant (R56, R57). -/
def quietAround (g : Nat) (x : Int) : Quiet := { lo := x - g, hi := x + g }

/-- `[start, start + cost)` meets the quiet interval (R58, step 2). -/
def Quiet.meets (q : Quiet) (start cost : Nat) : Bool :=
  decide (q.lo < (start : Int) + cost) && decide ((start : Int) ≤ q.hi)

/-- The quiet intervals of R56 and R57. -/
def SnapTouch.quiet (t : SnapTouch) : List Quiet :=
  t.edges.map (fun e => quietAround t.edgeGuard (e : Int)) ++ t.predicted.map (quietAround t.edgeGuard)

/-- The first listed quiet interval that the slot meets. When it meets several, moving past each in turn ends at the
same time whichever is taken first (R58, step 4; log entry 20). -/
def firstMet (qs : List Quiet) (start cost : Nat) : Option Quiet := qs.find? fun q => q.meets start cost

/-- The time of boundary `b`. -/
def boundaryTime (times : List Nat) (b : Nat) : Nat := times.getD b 0

/-- R58 steps 1 to 4 for a slot: from boundary `b` and start `x`, move to later boundaries, and in the tail past the
quiet intervals met. Answers the boundary and, when one is found, a start that meets no quiet interval. Each move
leaves a boundary and each delay leaves a quiet interval behind, so `fuel` = boundaries + intervals suffices. -/
def seekStart (qs : List Quiet) (times : List Nat) (B cost before lastEnd : Nat) :
    Nat → Nat → Nat → Nat × Option Nat
  | 0, b, _ => (b, none)
  | fuel + 1, b, x =>
    match firstMet qs x cost with
    | none => (b, some x)
    | some q =>
      if b < B then
        seekStart qs times B cost before lastEnd fuel (b + 1) (max (boundaryTime times (b + 1) + before) lastEnd)
      else seekStart qs times B cost before lastEnd fuel b (q.hi + 1).toNat

/-- A slot placed: its boundary, its start, and the slot. -/
structure PlacedTouch where
  boundary : Nat
  start : Nat
  item : TouchItem
  deriving DecidableEq, Repr

/-- What placement carries from slot to slot: the slots placed, the costs placed so far, the end of the slot placed
last, and the boundary at which the slot before was placed or dropped. -/
structure Placing where
  placed : List PlacedTouch
  before : Nat
  lastEnd : Nat
  boundary : Nat
  deriving DecidableEq, Repr

/-- Place slot `k` of `K` (R55, R58); `limit` is T − blank. -/
def placeOne (qs : List Quiet) (times : List Nat) (B limit K : Nat) (st : Placing) (k : Nat) (x : TouchItem) :
    Placing :=
  let target := (k + 1) * boundaryTime times B / (K + 1)
  let b := max (nearestBoundary target times) st.boundary
  let found := seekStart qs times B x.cost st.before st.lastEnd (B + qs.length + 2) b
    (max (boundaryTime times b + st.before) st.lastEnd)
  match found.2 with
  | none => { st with boundary := found.1 }
  | some start =>
    if limit < start + x.cost then { st with boundary := found.1 }
    else
      { placed := st.placed ++ [{ boundary := found.1, start := start, item := x }]
        before := st.before + x.cost
        lastEnd := start + x.cost
        boundary := found.1 }

/-- Place the slots from the `k`-th on, in admission order (R55). -/
def placeFrom (qs : List Quiet) (times : List Nat) (B limit K : Nat) : Nat → Placing → List TouchItem → Placing
  | _, st, [] => st
  | k, st, x :: xs => placeFrom qs times B limit K (k + 1) (placeOne qs times B limit K st k x) xs

/-- Place all touch and listen slots of a plan (R55..R58). -/
def placeTouches (qs : List Quiet) (times : List Nat) (B limit : Nat) (xs : List TouchItem) : List PlacedTouch :=
  (placeFrom qs times B limit xs.length 0 { placed := [], before := 0, lastEnd := 0, boundary := 0 } xs).placed

/-! ### The completed plan (R59) -/

/-- A band's slot to be laid down: its cost and its kind. -/
structure BandItem where
  cost : Nat
  kind : SlotKind
  deriving DecidableEq, Repr

/-- The band slots of a plan: REFRESH where `refreshed` says so, else SKIP. -/
def bandItems (t : Timing) (polarity : FramePolarity) (refreshed : Nat → Bool) : Nat → List Nat → List BandItem
  | _, [] => []
  | i, lines :: rest =>
    { cost := bandCost t (refreshed i) lines,
      kind := if refreshed i then .refresh i polarity else .skip i } :: bandItems t polarity refreshed (i + 1) rest

/-- The touch slots placed at boundary `b`, as slots. -/
def slotsAt (placed : List PlacedTouch) (b : Nat) : List Slot :=
  (placed.filter fun x => x.boundary == b).map fun x => { start := x.start, cost := x.item.cost, kind := x.item.kind }

/-- Lay down the plan from boundary `i` at band time `x`: the touch slots at the boundary, then the band, which starts
at the boundary's time plus the costs of the slots at boundaries up to its own (R59). -/
def layDown (placed : List PlacedTouch) : Nat → Nat → List BandItem → List Slot
  | i, _, [] => slotsAt placed i
  | i, x, b :: bs =>
    let here := slotsAt placed i
    let start := x + (here.map Slot.cost).sum
    here ++ { start := start, cost := b.cost, kind := b.kind } :: layDown placed (i + 1) (start + b.cost) bs

/-- The end of the last slot, at which the TAIL starts (R59). -/
def endOfSlots (slots : List Slot) : Nat :=
  match slots.getLast? with
  | none => 0
  | some x => x.start + x.cost

/-- A plan of these band slots and placed touch slots (R59). -/
def assemble (placed : List PlacedTouch) (bands : List BandItem) : Plan :=
  let slots := layDown placed 0 0 bands
  { slots := slots, tail := endOfSlots slots }

/-- A plan without touch slots: the band slots run back to back from time 0 (R43, R50, R62). -/
def bandPlan (bands : List BandItem) : Plan := assemble [] bands

/-- The line counts of a snapshot's bands. -/
def Snapshot.lineCounts (sn : Snapshot) : List Nat := sn.bands.map SnapBand.lines

/-- Which bands the plan refreshes: MANDATORY ones, and DEFERRABLE ones the fill admitted (R50, R51). -/
def Snapshot.refreshes (sn : Snapshot) (admitted : List FillItem) (i : Nat) : Bool :=
  match sn.bands[i]? with
  | none => false
  | some b =>
    match sn.classify b with
    | .mandatory => true
    | .deferrable => admitsBand admitted i
    | _ => false

/-- The band slots of the built plan. -/
def Snapshot.builtBands (sn : Snapshot) : List BandItem :=
  bandItems sn.timing (polarityOf sn.number) (sn.refreshes sn.admitted) 0 sn.lineCounts

/-- The touch and listen slots of the built plan, placed (R55..R58). -/
def Snapshot.builtTouches (sn : Snapshot) : List PlacedTouch :=
  match sn.touch with
  | none => []
  | some t =>
    let bands := sn.builtBands
    placeTouches t.quiet (boundaries 0 (bands.map BandItem.cost)) bands.length (sn.length - blankTime sn.timing)
      (sn.touchItems sn.admitted)

/-- The plan the builder completes from a snapshot (R50..R59). -/
def Snapshot.builtPlan (sn : Snapshot) : Plan := assemble sn.builtTouches sn.builtBands

/-- The length of the built plan's frame: T, or C_base when stretched (R50, R51). -/
def Snapshot.builtLength (sn : Snapshot) : Nat := if sn.stretches then sn.baseCost else sn.length

/-- The plan holds a TOUCH slot of the group (R53). -/
def Plan.touchesGroup (plan : Plan) (id : Nat) : Bool :=
  plan.slots.any fun x =>
    match x.kind with
    | .touch g _ _ _ _ => g == id
    | _ => false

/-- The groups deferred in a frame that runs `plan`: due groups without a TOUCH slot, counted while the snapshot's
touch state is ENABLED (R53). -/
def Snapshot.deferredIn (sn : Snapshot) (plan : Plan) : Nat :=
  match sn.touch with
  | none => 0
  | some t =>
    if t.state == .enabled then (t.groups.filter fun g => g.due && !plan.touchesGroup g.id).length else 0

/-- A cluster band is lent in the snapshot (R63). The centre panel's notices do not ask. -/
def Snapshot.anyMedia (sn : Snapshot) : Bool := sn.bands.any SnapBand.mediaOwned

/-- The completed build (R60). -/
def Snapshot.readyPlan (sn : Snapshot) : ReadyPlan :=
  { plan := sn.builtPlan
    length := sn.builtLength
    fixed := sn.length
    stretched := sn.stretches
    deferred := sn.deferredIn sn.builtPlan
    mediaOwned := sn.anyMedia }

/-! ### The fallback plan (R62) -/

/-- The fallback refreshes every band that is not DISALLOWED. -/
def Snapshot.fallbackRefreshes (sn : Snapshot) (i : Nat) : Bool :=
  match sn.bands[i]? with
  | none => false
  | some b => !isDisallowed sn.bMax sn.sign b

/-- The band slots of the fallback plan. -/
def Snapshot.fallbackBands (sn : Snapshot) : List BandItem :=
  bandItems sn.timing (polarityOf sn.number) sn.fallbackRefreshes 0 sn.lineCounts

/-- The fallback plan (R62). -/
def Snapshot.fallbackPlan (sn : Snapshot) : Plan := bandPlan sn.fallbackBands

/-- The fallback cost (R62). -/
def Snapshot.fallbackCost (sn : Snapshot) : Nat :=
  (sn.fallbackBands.map BandItem.cost).sum + blankTime sn.timing

/-- The length of a frame that runs the fallback plan: the larger of T and the fallback cost (R62). -/
def Snapshot.fallbackLength (sn : Snapshot) : Nat := max sn.length sn.fallbackCost

/-! ### The plan of frame 0 (R43) -/

/-- A REFRESH slot for every band at one polarity, then the tail; at POS it is the plan of frame 0 (R43). -/
def fullPlan (t : Timing) (polarity : FramePolarity) (lineCounts : List Nat) : Plan :=
  bandPlan (bandItems t polarity (fun _ => true) 0 lineCounts)

/-! ### Projection (R45, R46) -/

/-- Some of these slots refreshes band `i`. -/
def refreshesBand (slots : List Slot) (i : Nat) : Bool :=
  slots.any fun x =>
    match x.kind with
    | .refresh j _ => j == i
    | _ => false

/-- A band record projected to the end of the frame in progress (R45). `running` is the executing plan. -/
def projectBand (running : Option Executing) (sign : Int) (covered mediaOwned : Bool) (x : Placed) : SnapBand :=
  let b := x.band
  let base : SnapBand :=
    { lines := b.lines, cls := b.cls, holdLimit := b.holdLimit, dirty := b.dirty,
      hold := min (b.hold + 1) b.holdLimit, balance := b.balance, covered := covered, mediaOwned := mediaOwned }
  match running with
  | none => base
  | some e =>
    if refreshesBand (e.plan.slots.drop e.position) x.index then
      { base with dirty := false, hold := 0, balance := b.balance + sign }
    else if refreshesBand (e.plan.slots.take e.position) x.index then { base with hold := b.hold }
    else base

/-- A touch group projected to the end of the frame in progress: age 1 when the frame's plan holds its slot, else one
more than its age (R46; log entry 19). -/
def projectGroup (running : Option Executing) (g : Group) : SnapGroup :=
  { id := g.id, code := g.code, interval := g.interval, bursts := g.bursts, enabled := g.enabled,
    age := if running.any fun e => e.plan.touchesGroup g.id then 1 else min (g.age + 1) 255 }

/-! ### Cluster predictions (R57) -/

/-- The instants predicted for the cluster frames `j`, `j + 1`, … (`n` of them): a start within `[0, T)` for j ≥ 1, and
the shifted edges of each frame that overlaps `[0, T)` or is the one in progress. `back` is how long before the
centre frame planned the cluster frame in progress started (R57). -/
def predictFrames (T tC back : Nat) (edges : List Edge) : Nat → Nat → List Int
  | 0, _ => []
  | n + 1, j =>
    let start : Int := (j * tC : Nat) - (back : Int)
    let startIn := if 0 < j ∧ 0 ≤ start ∧ start < T then [start] else []
    let edgesIn := if j = 0 ∨ (start < T ∧ 0 < start + tC) then edges.map fun e => start + (e.time : Int) else []
    startIn ++ edgesIn ++ predictFrames T tC back edges n (j + 1)

/-- The predictions for the centre frame planned, of length `T`, when cross-coupling is ON and the cluster panel is
SCANNING; all times are measured from the planned frame's start (R57). -/
def State.predictions (s : State) (T : Nat) : List Int :=
  if s.touch.scan.crossCoupling && s.scanning .cluster then
    match s.cluster.frame.start, s.cluster.frame.length, s.centre.frame.start, s.centre.frame.length with
    | some sc, some tC, some st, some len =>
      let d := s.cluster.dimmer
      let back := (st.after len).since sc
      predictFrames T tC back (edgeList tC d.applied d.settings.periods) ((T + back) / tC + 1) 0
    | _, _, _, _ => []
  else []

/-! ### The snapshot (R44) -/

/-- The centre part of the snapshot, taken after the frequency decision and the dimmer's frame duty (R44, R46, R56). -/
def State.snapTouch (s : State) (T : Nat) (listen : Option ListenItem) : SnapTouch :=
  let d := s.centre.dimmer
  { state := s.touch.state
    groups := s.touch.groups.map (projectGroup s.centre.seq)
    active := s.touch.active
    period := (s.touch.candidates[s.touch.active]?.map Candidate.period).getD 0
    listen := listen
    listenBursts := s.touch.scan.listenBursts
    tGuard := s.touch.scan.tGuard
    edgeGuard := s.touch.scan.edgeGuard
    edges := (edgeList T (d.frameDuty.getD d.applied) d.settings.periods).map Edge.time
    predicted := s.predictions T }

/-- The snapshot of panel `p` for a next frame of length `T` (R44). -/
def State.snapshot (s : State) (p : Panel) (T : Nat) (listen : Option ListenItem) : Snapshot :=
  let x := s.panel p
  { number := x.frame.number + 1
    length := T
    timing := x.timing
    bMax := x.bands.bMax
    bands := x.bands.placed.map fun b =>
      projectBand x.seq (signOf (polarityOf x.frame.number)) (s.grants.records.any fun g => g.covers p b.index)
        (s.owner p b == .media) b
    monitorFault := s.monitor.state == .fault
    supplyHold := s.supply.hold
    touch :=
      match p with
      | .cluster => none
      | .centre => some (s.snapTouch T listen) }

/-- The build time: 200 + 20 × B + 40 × G, with G the enabled groups of the snapshot (R60). -/
def Snapshot.buildTime (sn : Snapshot) : Nat :=
  200 + 20 * sn.bands.length +
    match sn.touch with
    | none => 0
    | some t => 40 * (t.groups.filter SnapGroup.enabled).length

end Sys2Proof.Machine
end

