-- ==== Sys2Proof/Machine/Slots.lean ====
section
/-!
DEFINITION. Slot execution and the panel link (chapter 4): the slot starts and ends, line watches, the integrity
checker, BAND_REPORT, and the requests LINE_WATCH, CRC_SET and SUBSCRIBE (R66).
-/

namespace Sys2Proof.Machine

open Sys2Proof

/-! ### The executing plan (R68, R70) -/

/-- The next slot to start (R68). -/
def Executing.nextSlot (e : Executing) : Option Slot := e.plan.slots[e.position]?

/-- The next slot of the panel, when it is due to start at this instant (R70). -/
def State.slotDue (s : State) (p : Panel) : Option Slot :=
  let x := s.panel p
  match x.seq.bind Executing.nextSlot with
  | none => none
  | some slot => if x.frameTick slot.start == some s.count then some slot else none

/-- Change the executing plan's bookkeeping. -/
def State.updSeq (s : State) (p : Panel) (f : Executing → Executing) : State :=
  s.updPanel p fun x => { x with seq := x.seq.map f }

/-- Send a command on a panel link (R75). -/
def sendLink (p : Panel) (c : LinkCommand) (s : State) : State :=
  s.updPanel p fun x => { x with link := { x.link with lastCommand := some c } }

/-- The band of the panel with this index. -/
def State.bandAt (s : State) (p : Panel) (i : Nat) : Option Placed :=
  (s.panel p).bands.placed.find? fun x => x.index == i

/-! ### Line watches (R83..R85) -/

/-- A watch position's content. -/
def WatchPair.get (w : WatchPair) (position : Nat) : Option Watch := if position = 0 then w.pos0 else w.pos1

/-- Replace a watch position's content. -/
def WatchPair.put (w : WatchPair) (position : Nat) (content : Option Watch) : WatchPair :=
  if position = 0 then { w with pos0 := content } else { w with pos1 := content }

/-- A port's watches on a panel. -/
def PanelState.watches (x : PanelState) : Port → WatchPair
  | .supervisor => x.supervisorWatch
  | .media => x.mediaWatch

/-- Replace a port's watches on a panel. -/
def PanelState.setWatches (x : PanelState) (q : Port) (w : WatchPair) : PanelState :=
  match q with
  | .supervisor => { x with supervisorWatch := w }
  | .media => { x with mediaWatch := w }

/-- One watch position at the start of a band's slot: a watch whose line lies in the band posts LINE_REACHED to its
port, and a ONE_SHOT watch leaves the position (R85). -/
def fireWatch (p : Panel) (b : Placed) (refreshed : Bool) (q : Port) (position : Nat) (s : State) : State :=
  match ((s.panel p).watches q).get position with
  | none => s
  | some w =>
    if b.first ≤ w.line ∧ w.line < b.stop then
      let s1 :=
        match w.mode with
        | .repeating => s
        | .oneShot => s.updPanel p fun x => x.setWatches q ((x.watches q).put position none)
      post q (s.panelNotice p (.lineReached position w.line b.index refreshed)) s1
    else s

/-- Every watch of the panel at the start of a band's slot (R85). -/
def fireWatches (p : Panel) (b : Placed) (refreshed : Bool) (s : State) : State :=
  fireWatch p b refreshed .media 1
    (fireWatch p b refreshed .media 0
      (fireWatch p b refreshed .supervisor 1 (fireWatch p b refreshed .supervisor 0 s)))

/-- LINE_WATCH, by the checks of R84 in order. -/
def serveLineWatch (q : Port) (panel position line : Nat) (mode : Option WatchMode) (s : State) : State × Answer :=
  match panelOf panel with
  | none => (s, refuse .badParam)
  | some p =>
    let before := ((s.panel p).watches q).get position
    let put := fun content => s.updPanel p fun x => x.setWatches q ((x.watches q).put position content)
    if 1 < position then (s, refuse .badParam)
    else if line = 0xFFFF then (put none, accept (.watch before))
    else
      match mode with
      | none => (s, refuse .badParam)
      | some mode =>
        if (s.panel p).timing.nAct ≤ line then (s, refuse .badParam)
        else if q = .media ∧ p = .cluster
            ∧ (s.bandOfLine p line).any (fun b => s.owner p b == .media) = false then (s, refuse .notPermitted)
        else (put (some { line := line, mode := mode }), accept (.watch before))

/-- LINE_WATCH (R84). -/
def execLineWatch (q : Port) (tag : Byte) (panel position line : Nat) (mode : Option WatchMode) (s : State) :
    Host.Outcome State Fault Refusal :=
  .next (takeRequest q tag 0x07 (serveLineWatch q panel position line mode) s)

/-! ### SUBSCRIBE (R66) -/

/-- A port's frame-report subscription for a panel (R42). -/
def Builder.subscription (b : Builder) : Port → Bool
  | .supervisor => b.subSupervisor
  | .media => b.subMedia

/-- Set a port's frame-report subscription (R66). -/
def Builder.subscribe (q : Port) (on : Bool) (b : Builder) : Builder :=
  match q with
  | .supervisor => { b with subSupervisor := on }
  | .media => { b with subMedia := on }

/-- SUBSCRIBE (R66). -/
def serveSubscribe (q : Port) (panel : Nat) (setting : Option Bool) (s : State) : State × Answer :=
  match panelOf panel, setting with
  | some p, some on =>
    (s.updPanel p fun x => { x with builder := x.builder.subscribe q on },
     accept (.subscription ((s.panel p).builder.subscription q)))
  | _, _ => (s, refuse .badParam)

/-- SUBSCRIBE (R66). -/
def execSubscribe (q : Port) (tag : Byte) (panel : Nat) (setting : Option Bool) (s : State) :
    Host.Outcome State Fault Refusal :=
  .next (takeRequest q tag 0x06 (serveSubscribe q panel setting) s)

/-! ### The integrity checker (R77..R81) -/

/-- Remove a band's entry from the cluster's expectation list (R76, R81). -/
def dropExpectation (band : Nat) (s : State) : State :=
  s.updPanel .cluster fun x =>
    { x with link := { x.link with expectations := x.link.expectations.filter fun e => e.band != band } }

/-- A mismatch or a missing report: the count rises, no higher than the limit (R78, R79). -/
def Band.mismatch (limit : Nat) (b : Band) : Band := { b with mismatches := min (b.mismatches + 1) limit }

/-- Raise the mismatch count of an entry's band; when it then stands at the limit, the INTEGRITY cause is set, with
INTEGRITY_FAULT when it was clear (R78..R80). -/
def countMismatch (e : Expectation) (received : Option Crc) (s : State) : State :=
  let s1 := s.updBands .cluster (modifyBand e.band (Band.mismatch s.mismatchLimit))
  match s1.bandAt .cluster e.band with
  | none => s1
  | some b =>
    if s.mismatchLimit ≤ b.band.mismatches then
      let s2 := setIntegrityCause s1
      if s.faults.integrity then s2
      else
        post .supervisor
          (s.panelNotice .cluster (.integrityFault e.frame e.band e.crc received b.band.mismatches)) s2
    else s1

/-- Compare a report matched to an entry (R78). -/
def compareReport (e : Expectation) (crc : Crc) (s : State) : State :=
  if crc = e.crc then s.updBands .cluster (modifyBand e.band fun b => { b with mismatches := 0 })
  else countMismatch e (some crc) s

/-- The entry of a panel's expectation list that a report matches (R76). -/
def State.expectationFor (s : State) (p : Panel) (frame : FrameNo) (band : Nat) : Option Expectation :=
  (s.panel p).link.expectations.find? fun e => e.frame == frame && e.band == band

/-- A report that passes its link check: compared when it matches an entry of the cluster's list, which it leaves;
discarded otherwise (R76). The centre's list stays empty, so its reports are discarded. -/
def takeReport (p : Panel) (frame : FrameNo) (band : Nat) (crc : Crc) (s : State) : State :=
  match p with
  | .centre => s
  | .cluster =>
    match s.expectationFor .cluster frame band with
    | none => s
    | some e => compareReport e crc (dropExpectation band s)

/-- BAND_REPORT: a report that fails its link check is discarded (R76). -/
def execBandReport (p : Panel) (frame : FrameNo) (band : Nat) (crc : Crc) (linkOk : Bool) (s : State) :
    Host.Outcome State Fault Refusal :=
  .next (unlessReset s fun s => if linkOk then takeReport p frame band crc s else s)

/-- A protected band becomes CHECKED with this CRC, or UNCHECKED; its count becomes 0 (R39). -/
def Band.setCheck (expected : Option Crc) (b : Band) : Band := { b with expected := expected, mismatches := 0 }

/-- Replace the mismatch limit, which sets the count of every protected band to 0 (R77). -/
def replaceLimit (limit : Nat) (s : State) : State :=
  { s with mismatchLimit := limit }.updBands .cluster (List.map fun b : Band => { b with mismatches := 0 })

/-- CRC_SET, by the checks of R81 in order. -/
def serveCrcSet (q : Port) (band : Nat) (crc : Crc) (limit : Nat) (s : State) : State × Answer :=
  if q = .media then (s, refuse .notPermitted)
  else
    match s.bandAt .cluster band with
    | none => (s, refuse .badParam)
    | some b =>
      if b.band.cls = .normal then (s, refuse .badParam)
      else if 7 < limit then (s, refuse .badParam)
      else
        let s1 := if limit = 0 then s else replaceLimit limit s
        (dropExpectation band (s1.updBands .cluster (modifyBand band (Band.setCheck (some crc)))),
         accept (.crcSet b.band.expected s1.mismatchLimit))

/-- CRC_SET (R81). -/
def execCrcSet (q : Port) (tag : Byte) (band : Nat) (crc : Crc) (limit : Nat) (s : State) :
    Host.Outcome State Fault Refusal :=
  .next (takeRequest q tag 0x08 (serveCrcSet q band crc limit) s)

/-! ### Grants at slot starts and ends (R131, R133) -/

/-- The open grant that covers band `i` of a panel, if any (R129: at most one). -/
def State.coveringGrant (s : State) (p : Panel) (i : Nat) : Option Grant :=
  s.grants.records.find? fun g => g.covers p i

/-- Set the state of the grant with this id. -/
def setGrantState (id : Nat) (st : GrantState) (s : State) : State :=
  { s with grants :=
      { s.grants with records := s.grants.records.map fun g => if g.id = id then { g with state := st } else g } }

/-- The refresh of band `i` reaches the grant list: a PENDING or GRANTED grant that covers it becomes TORN, and
GRANT_TORN goes to its port (R133). -/
def tearGrant (p : Panel) (i : Nat) (s : State) : State :=
  match s.coveringGrant p i with
  | none => s
  | some g =>
    if g.state = .torn then s
    else post g.port (s.panelNotice p (.grantTorn g.id i g.state)) (setGrantState g.id .torn s)

/-- One PENDING grant becomes GRANTED, and GRANT_READY goes to its port (R131). -/
def readyGrant (s : State) (g : Grant) : State :=
  post g.port (s.panelNotice g.panel (.grantReady g.id g.first g.last)) (setGrantState g.id .granted s)

/-- The end of a REFRESH slot of band `i`: each PENDING grant that covers the band becomes GRANTED (R131). -/
def readyGrants (p : Panel) (i : Nat) (s : State) : State :=
  (s.grants.records.filter fun g => g.state == .pending && g.covers p i).foldl readyGrant s

/-! ### Slot starts (R71..R73) -/

/-- The record update of a REFRESH slot start (R34). -/
def Band.refreshed (pol : FramePolarity) (b : Band) : Band :=
  { b with dirty := false, hold := 0, balance := b.balance + signOf pol }

/-- Enter an expectation for band `i`, its only one (R76). -/
def enterExpectation (p : Panel) (e : Expectation) (s : State) : State :=
  s.updPanel p fun x =>
    { x with link := { x.link with expectations := x.link.expectations.filter (fun y => y.band != e.band) ++ [e] } }

/-- The CRC a refresh of the band is to be checked against: a CHECKED protected cluster band whose refresh is not
torn (R71, step 3). -/
def expectedCrc (p : Panel) (torn : Bool) (b : Placed) : Option Crc :=
  match p with
  | .centre => none
  | .cluster => if b.band.cls == .guarded && !torn then b.band.expected else none

/-- The work of a REFRESH slot start for band `b`, of cost `cost`, in the order of R71. -/
def startRefresh (p : Panel) (b : Placed) (cost : Nat) (pol : FramePolarity) (s : State) : State :=
  let number := (s.panel p).frame.number
  let torn := (s.coveringGrant p b.index).isSome
  let s1 := s.updBands p (modifyBand b.index (Band.refreshed pol))
  let s2 := tearGrant p b.index s1
  let s3 :=
    match expectedCrc p torn b with
    | none => s2
    | some crc => enterExpectation p { frame := number, band := b.index, crc := crc } s2
  let s4 := sendLink p (.band b.first b.band.lines pol (expectedCrc p torn b).isSome) s3
  let s5 := s4.updSeq p fun e =>
    { e with
      position := e.position + 1
      refreshed := e.refreshed + 1
      driving := e.driving ++ [{ band := b.index, ends := s.count.after cost }] }
  fireWatches p b true s5

/-- A slot whose band is not in the table starts without effect; no plan holds one (R26, R59). -/
def passSlot (p : Panel) (s : State) : State := s.updSeq p fun e => { e with position := e.position + 1 }

/-- REFRESH_SLOT_START: the panel's next slot is a REFRESH and is due (R70, R71). -/
def execRefreshSlotStart (p : Panel) (s : State) : Host.Outcome State Fault Refusal :=
  .next (unlessReset s fun s =>
    match s.slotDue p with
    | none => s
    | some slot =>
      match slot.kind with
      | .refresh i _ =>
        match s.bandAt p i with
        | none => passSlot p s
        | some b => startRefresh p b slot.cost (polarityOf (s.panel p).frame.number) s
      | _ => s)

/-- The earliest started REFRESH slot of the panel, when it ends at this instant (R70). -/
def State.slotEndDue (s : State) (p : Panel) : Option Drive :=
  match (s.panel p).seq.bind fun e => e.driving.head? with
  | none => none
  | some d => if d.ends = s.count then some d else none

/-- REFRESH_SLOT_END (R70, R131). -/
def execRefreshSlotEnd (p : Panel) (s : State) : Host.Outcome State Fault Refusal :=
  .next (unlessReset s fun s =>
    match s.slotEndDue p with
    | none => s
    | some d => readyGrants p d.band (s.updSeq p fun e => { e with driving := e.driving.tail }))

/-- The work of a SKIP slot start (R72). -/
def startSkip (p : Panel) (b : Placed) (s : State) : State :=
  fireWatches p b false
    (sendLink p (.idleSkip b.index (s.panel p).timing.tSkip) (passSlot p s))

/-- SKIP_SLOT_START: the panel's next slot is a SKIP and is due (R72). -/
def execSkipSlotStart (p : Panel) (s : State) : Host.Outcome State Fault Refusal :=
  .next (unlessReset s fun s =>
    match s.slotDue p with
    | none => s
    | some slot =>
      match slot.kind with
      | .skip i =>
        match s.bandAt p i with
        | none => passSlot p s
        | some b => startSkip p b s
      | _ => s)

/-- The blank start time of the frame is this instant, the blank has not begun, and no slot is still to start now: every
slot, a SKIP of no cost that starts at this instant too, has ended when the blank begins (R70, R74). -/
def State.blankDue (s : State) (p : Panel) : Bool :=
  match (s.panel p).seq with
  | none => false
  | some e => !e.blankBegun && (s.panel p).frameTick e.blankAt == some s.count && (s.slotDue p).isNone

/-- BLANK_START: IDLE with reason BLANK for N_vb × t_line (R74). -/
def execBlankStart (p : Panel) (s : State) : Host.Outcome State Fault Refusal :=
  .next (unlessReset s fun s =>
    if s.blankDue p then
      sendLink p (.idleBlank (blankTime (s.panel p).timing)) (s.updSeq p fun e => { e with blankBegun := true })
    else s)

end Sys2Proof.Machine
end

