-- ==== Sys2Proof/Machine/Grants.lean ====
section
/-!
DEFINITION. Write grants (chapter 8): WRITE_OPEN, WRITE_CLOSE, the count of frames held, and GRANT_EXPIRY.
-/

namespace Sys2Proof.Machine

open Sys2Proof

/-! ### WRITE_OPEN (R128..R130) -/

/-- The id after `id`, wrapping from 255 to 1 (R128). -/
def idAfter (id : Nat) : Nat := if 255 ≤ id then 1 else id + 1

/-- The first of the ids from `id` on that no open grant holds; at most 8 are held, so 9 tries always find one
(R128). -/
def freeId (held : List Nat) : Nat → Nat → Nat
  | 0, id => id
  | n + 1, id => if held.contains id then freeId held n (idAfter id) else id

/-- The bands `first..last` of a panel, as they stand. -/
def State.bandsIn (s : State) (p : Panel) (first last : Nat) : List Placed :=
  (s.panel p).bands.placed.filter (inIndexRange first last)

/-- The panel has a band in drive that lies in the range (R70, R130). -/
def State.driveIn (s : State) (p : Panel) (first last : Nat) : Bool :=
  match (s.panel p).seq with
  | none => false
  | some e => e.driving.any fun d => decide (first ≤ d.band) && decide (d.band ≤ last)

/-- An open grant on the panel covers some band of the range (R129, check 4). -/
def State.grantMeets (s : State) (p : Panel) (first last : Nat) : Bool :=
  s.grants.records.any fun g => decide (g.panel = p) && decide (g.first ≤ last) && decide (first ≤ g.last)

/-- The lifetime limit a lifetime field gives (R129). -/
def lifetimeOf (field : Nat) : Nat := if field = 0 then 8 else field

/-- The grant that a taken WRITE_OPEN appends (R130). -/
def State.newGrant (s : State) (q : Port) (p : Panel) (first last lifetime : Nat) : Grant :=
  { id := s.grants.nextId, port := q, panel := p, first := first, last := last,
    state := if s.driveIn p first last then .pending else .granted,
    held := 0, lifetime := lifetimeOf lifetime }

/-- The grant list after the grant joins: the next id passes over every id held (R128). -/
def GrantList.append (g : Grant) (l : GrantList) : GrantList :=
  let records := l.records ++ [g]
  { records := records, nextId := freeId (records.map Grant.id) 9 (idAfter l.nextId) }

/-- WRITE_OPEN, by the checks of R129 in order. -/
def serveWriteOpen (q : Port) (panel first last lifetime : Nat) (s : State) : State × Answer :=
  match panelOf panel with
  | none => (s, refuse .badParam)
  | some p =>
    if last < first ∨ (s.panel p).bands.records.length ≤ last ∨ 63 < lifetime then (s, refuse .badParam)
    else if (s.panel p).power.state ≠ .ready ∧ (s.panel p).power.state ≠ .scanning then (s, refuse .wrongState)
    else if (s.bandsIn p first last).all (fun b => s.owner p b == ownerOfPort q) = false then
      (s, refuse .notPermitted)
    else if s.grantMeets p first last = true then (s, refuse .overlap)
    else if Config.grantLimit ≤ s.grants.records.length ∨ Config.grantPortLimit ≤ (s.grantsOf q).length then
      (s, refuse .full)
    else
      let g := s.newGrant q p first last lifetime
      ({ s with grants := s.grants.append g }, accept (.writeOpen g.id g.state g.lifetime))

/-- WRITE_OPEN (R129). -/
def execWriteOpen (q : Port) (tag : Byte) (panel first last lifetime : Nat) (s : State) :
    Host.Outcome State Fault Refusal :=
  .next (takeRequest q tag 0x12 (serveWriteOpen q panel first last lifetime) s)

/-! ### WRITE_CLOSE (R134) -/

/-- The open grant of the requesting port with this id (R134, check 1). -/
def State.grantNamed (s : State) (q : Port) (id : Nat) : Option Grant :=
  s.grants.records.find? fun g => g.id == id && decide (g.port = q)

/-- Give the PROTECTED bands of the range their checks, in band order: the next CRC of the list makes a band CHECKED,
and an empty list leaves every one UNCHECKED (R134, step 3). -/
def setChecks (first last : Nat) : Nat → List Crc → List Band → List Band
  | _, _, [] => []
  | i, crcs, b :: bs =>
    if first ≤ i ∧ i ≤ last ∧ b.cls = .guarded then
      b.setCheck crcs.head? :: setChecks first last (i + 1) crcs.tail bs
    else b :: setChecks first last (i + 1) crcs bs

/-- The PROTECTED bands of the range. -/
def guardedIn (bands : List Placed) : List Placed := bands.filter fun b => b.band.cls == .guarded

/-- The effect of a WRITE_CLOSE that is taken, in the order of R134. -/
def closeGrant (g : Grant) (crcs : List Crc) (s : State) : State :=
  let s1 := (endGrant g s).updBands g.panel (setChecks g.first g.last 0 crcs)
  ((guardedIn (s.bandsIn g.panel g.first g.last)).map Placed.index).foldl (fun s i =>
    match g.panel with
    | .centre => s
    | .cluster => dropExpectation i s) s1

/-- WRITE_CLOSE, by the checks of R134 in order. A CRC list that is not carried whole fails check 2, whose length it is
(R166, check 3). -/
def serveWriteClose (q : Port) (id : Nat) (list : Carried Crc) (s : State) : State × Answer :=
  let crcs := list.entries
  match s.grantNamed q id with
  | none => (s, refuse .noGrant)
  | some g =>
    if list.whole = false ∨ (crcs ≠ [] ∧ crcs.length ≠ (guardedIn (s.bandsIn g.panel g.first g.last)).length) then
      (s, refuse .badParam)
    else (closeGrant g crcs s, accept (.writeClose g.state g.held g.size))

/-- WRITE_CLOSE (R134). -/
def execWriteClose (q : Port) (tag : Byte) (id : Nat) (crcs : List Crc) (s : State) :
    Host.Outcome State Fault Refusal :=
  .next (takeRequest q tag 0x13 (serveWriteClose q id (.all crcs)) s)

/-! ### Frames held and expiry (R135) -/

/-- A grant whose frames held equal its lifetime limit expires: it ends, and GRANT_EXPIRED goes to its port, with the
frames held of the grant (R135, R137). -/
def expireGrant (s : State) (g : Grant) : State :=
  post g.port (s.panelNotice g.panel (.grantExpired g.id g.state g.held g.size)) (endGrant g s)

/-- One more frame held. -/
def Grant.hold (g : Grant) : Grant := { g with held := g.held + 1 }

/-- The frames held of every open grant on the panel rise by one (R135). -/
def raiseHeld (p : Panel) (s : State) : State :=
  { s with grants :=
      { s.grants with records := s.grants.records.map fun g => if g.panel = p then g.hold else g } }

/-- The grants on the panel whose frames held have reached their limit. -/
def State.expired (s : State) (p : Panel) : List Grant :=
  s.grants.records.filter fun g => decide (g.panel = p) && decide (g.lifetime ≤ g.held)

/-- The grant list's work at a frame end of a panel (R135). DESIGN CHOICE: grants that expire at one frame end do so in the
order of the grant list, which is that of their GRANT_EXPIRED notices; the spec gives none (log entry 16). -/
def grantFrameEnd (p : Panel) (s : State) : State :=
  let s1 := raiseHeld p s
  (s1.expired p).foldl expireGrant s1

/-- The frame end of the panel falls at this instant and has not been taken (R9). -/
def State.frameEndDue (s : State) (p : Panel) : Bool :=
  let x := s.panel p
  x.power.state == .scanning &&
    match x.frame.length with
    | none => false
    | some length => x.frameTick length == some s.count

/-- The open grant with this id that reaches its lifetime limit at the frame end of its panel that falls now (R135). -/
def State.expiryDue (s : State) (id : Nat) : Option Grant :=
  s.grants.records.find? fun g => g.id == id && decide (g.lifetime ≤ g.held + 1) && s.frameEndDue g.panel

/-- GRANT_EXPIRY: the expiry that the frame end of this instant makes, taken ahead of the rest of the frame-end work;
FRAME_END makes every expiry that is left (R135; log entry 17). -/
def execGrantExpiry (id : Nat) (s : State) : Host.Outcome State Fault Refusal :=
  .next (unlessReset s fun s =>
    match s.expiryDue id with
    | none => s
    | some g => expireGrant s g.hold)

end Sys2Proof.Machine
end

