-- ==== Sys2Proof/Machine/Touch.lean ====
section
/-!
DEFINITION. Touch scanning and frequency selection (chapter 5): the touch requests, the TOUCH and LISTEN slot starts,
sense results and deadlines, the frequency decision and the listen candidate.
-/

namespace Sys2Proof.Machine

open Sys2Proof

/-- Change the touch scheduler. -/
def State.updTouch (s : State) (f : Touch → Touch) : State := { s with touch := f s.touch }

/-! ### TOUCH_GROUPS, TOUCH_ENABLE, TOUCH_DISABLE (R89, R91) -/

/-- TOUCH_GROUPS, by the checks of R89 in order. -/
def serveTouchGroups (scan : ScanRequest) (groupCount : Nat) (list : Carried GroupEntry) (s : State) :
    State × Answer :=
  let entries := list.entries
  if s.touch.state ≠ .disabled then (s, refuse .wrongState)
  else if inRange 1 16 groupCount = false ∨ list.counts groupCount = false then (s, refuse .badParam)
  else if entries.all (fun e => inRange 0 15 e.id) = false ∨ distinctIds entries = false then (s, refuse .badParam)
  else if entries.all groupEntryInRange = false then (s, refuse .badParam)
  else
    match scanSettingsOf scan with
    | none => (s, refuse .badParam)
    | some scan =>
      let specs := sortGroups (entries.map groupSpecOf)
      (s.updTouch fun t => { t with groups := specs.map Group.fresh, scan := scan },
       accept (.touchGroups specs.length (specs.filter GroupSpec.enabled).length))

/-- TOUCH_GROUPS (R89). -/
def execTouchGroups (q : Port) (tag : Byte) (scan : ScanRequest) (groupCount : Nat) (entries : List GroupEntry)
    (s : State) : Host.Outcome State Fault Refusal :=
  .next (takeRequest q tag 0x09 (serveTouchGroups scan groupCount (.all entries)) s)

/-- TOUCH_ENABLE: ENABLED, with the consecutive-missing count at 0 (R91). -/
def serveTouchEnable (s : State) : State × Answer :=
  (s.updTouch fun t => { t with state := .enabled, missing := 0 }, accept (.touchState s.touch.state))

/-- TOUCH_ENABLE (R91). -/
def execTouchEnable (q : Port) (tag : Byte) (s : State) : Host.Outcome State Fault Refusal :=
  .next (takeRequest q tag 0x0A serveTouchEnable s)

/-- TOUCH_DISABLE: DISABLED; the consecutive-missing count stays (R91). -/
def serveTouchDisable (s : State) : State × Answer :=
  (s.updTouch fun t => { t with state := .disabled }, accept (.touchState s.touch.state))

/-- TOUCH_DISABLE (R91). -/
def execTouchDisable (q : Port) (tag : Byte) (s : State) : Host.Outcome State Fault Refusal :=
  .next (takeRequest q tag 0x0B serveTouchDisable s)

/-! ### FREQ_TABLE (R97) -/

/-- The candidate that replaces `old`: its average is forgotten when its period changes (R97). -/
def Candidate.replaceWith (old : Candidate) (new : FreqSpec) : Candidate :=
  { period := new.period, permission := new.permission,
    average := if new.period = old.period then old.average else Config.unmeasured }

/-- The candidates after a FREQ_TABLE (R97). -/
def replaceCandidates : List Candidate → List FreqSpec → List Candidate
  | old :: olds, new :: news => old.replaceWith new :: replaceCandidates olds news
  | [], news => news.map Candidate.fresh
  | _ :: _, [] => []

/-- The number of ALLOWED candidates. -/
def allowedCount (cs : List Candidate) : Nat := (cs.filter fun c => c.permission == .allowed).length

/-- FREQ_TABLE, by the checks of R97 in order; six candidates are what its parameters require (R166, check 3). -/
def serveFreqTable (entries : List FreqEntry) (hysteresis hopHold : Nat) (s : State) : State × Answer :=
  if entries.length ≠ 6 then (s, refuse .badParam)
  else if entries.all freqEntryInRange = false ∨ inRange 0 8192 hysteresis = false ∨ inRange 1 255 hopHold = false then
    (s, refuse .badParam)
  else if entries.all (fun e => e.permission == some .banned) = true then (s, refuse .badParam)
  else
    let candidates := replaceCandidates s.touch.candidates (entries.map freqSpecOf)
    (s.updTouch fun t => { t with candidates := candidates, hysteresis := hysteresis, hopHold := hopHold },
     accept (.freqTable s.touch.active (allowedCount candidates)))

/-- FREQ_TABLE (R97). -/
def execFreqTable (q : Port) (tag : Byte) (entries : List FreqEntry) (hysteresis hopHold : Nat) (s : State) :
    Host.Outcome State Fault Refusal :=
  .next (takeRequest q tag 0x0C (serveFreqTable entries hysteresis hopHold) s)

/-! ### TOUCH_READ (R102) -/

/-- What TOUCH_READ returns (R102). -/
def Touch.report (t : Touch) : TouchStatus :=
  { state := t.state
    missing := t.missing
    waits := t.waits.length
    active := t.active
    listenPtr := t.listenPtr
    sinceHop := t.sinceHop
    hysteresis := t.hysteresis
    hopHold := t.hopHold
    candidates := t.candidates.map fun c => { period := c.period, permission := c.permission, average := c.average }
    scan := t.scan
    groups := t.groups.map fun g => { id := g.id, enabled := g.enabled, interval := g.interval, age := g.age }
    lateResults := t.lateResults
    missingResults := t.missingResults }

/-- TOUCH_READ (R102). -/
def serveTouchRead (s : State) : State × Answer := (s, accept (.touchRead s.touch.report))

/-- TOUCH_READ (R102). -/
def execTouchRead (q : Port) (tag : Byte) (s : State) : Host.Outcome State Fault Refusal :=
  .next (takeRequest q tag 0x0D serveTouchRead s)

/-! ### TOUCH and LISTEN slot starts (R73, R91, R92, R101) -/

/-- The age of the group with this id becomes 0, when the live list holds one (R91). -/
def zeroAge (id : Nat) (gs : List Group) : List Group := gs.map fun g => if g.id = id then { g with age := 0 } else g

/-- The index after `i`, wrapping from 5 to 0 (R101). -/
def nextCandidate (i : Nat) : Nat := if 5 ≤ i then 0 else i + 1

/-- Send a slot command with the next tag and open its result wait; `ends` is the slot's end (R92). -/
def Touch.command (code : Byte) (bursts period candidate : Nat) (group : Option Nat) (ends : Tick) (t : Touch) :
    Touch :=
  { t with
    lastCommand := some { tag := t.nextTag, code := code, bursts := bursts, period := period,
                          listen := group.isNone }
    nextTag := t.nextTag + 1
    waits := t.waits ++ [{ tag := t.nextTag, group := group, candidate := candidate, period := period,
                           deadline := ends.after t.scan.timeout }] }

/-- What TOUCH and LISTEN slot starts share: PAUSE on the panel link for the slot's cost (R73), and the slot is counted
(R65). -/
def pauseFor (cost : Nat) (s : State) : State :=
  sendLink .centre (.pause cost)
    (s.updSeq .centre fun e => { e with position := e.position + 1, touches := e.touches + 1 })

/-- TOUCH_SLOT_START: the centre panel's next slot is a TOUCH and is due (R73, R91, R92). -/
def execTouchSlotStart (s : State) : Host.Outcome State Fault Refusal :=
  .next (unlessReset s fun s =>
    match s.slotDue .centre with
    | none => s
    | some slot =>
      match slot.kind with
      | .touch id code bursts candidate period =>
        (pauseFor slot.cost s).updTouch fun t =>
          Touch.command code bursts period candidate (some id) (s.count.after slot.cost)
            { t with groups := zeroAge id t.groups }
      | _ => s)

/-- LISTEN_SLOT_START: the centre panel's next slot is a LISTEN and is due; the listen pointer moves past its
candidate (R73, R92, R101). -/
def execListenSlotStart (s : State) : Host.Outcome State Fault Refusal :=
  .next (unlessReset s fun s =>
    match s.slotDue .centre with
    | none => s
    | some slot =>
      match slot.kind with
      | .listen candidate period bursts =>
        (pauseFor slot.cost s).updTouch fun t =>
          Touch.command 0 bursts period candidate none (s.count.after slot.cost)
            { t with listenPtr := nextCandidate candidate }
      | _ => s)

/-! ### Results (R93, R98) -/

/-- The new average after a result with 16 × n (R98). -/
def newAverage (average sixteenths : Nat) : Nat :=
  if average = Config.unmeasured then sixteenths
  else ((average : Int) + ((sixteenths : Int) - average).tdiv 8).toNat

/-- Change candidate `i`. -/
def modifyCandidate (i : Nat) (f : Candidate → Candidate) : List Candidate → List Candidate
  | [] => []
  | c :: cs =>
    match i with
    | 0 => f c :: cs
    | i + 1 => c :: modifyCandidate i f cs

/-- The result updates the candidate named in its wait, when that has the period the wait recorded (R93). DESIGN CHOICE:
the present period alone is compared, so that a candidate whose period changed and changed back is updated (log entry
37). -/
def Touch.learn (w : Wait) (n : Nat) (t : Touch) : Touch :=
  { t with
    candidates := modifyCandidate w.candidate
      (fun c => if c.period = w.period then { c with average := newAverage c.average (16 * n) } else c) t.candidates }

/-- Remove the first wait with this tag. -/
def removeWait (tag : Byte) : List Wait → List Wait
  | [] => []
  | w :: ws => if w.tag = tag then ws else w :: removeWait tag ws

/-- A result that passes its link check: matched to an outstanding wait, or discarded as late (R93). -/
def Touch.takeResult (tag : Byte) (n : Nat) (t : Touch) : Touch :=
  match t.waits.find? fun w => w.tag == tag with
  | none => { t with lateResults := t.lateResults + 1 }
  | some w => { t.learn w n with waits := removeWait tag t.waits, missing := 0 }

/-- SENSE_RESULT: a result that fails its link check is discarded; SATURATED is taken as 4,095 (R93). -/
def execSenseResult (tag : Byte) (noise : Noise) (saturated linkOk : Bool) (s : State) :
    Host.Outcome State Fault Refusal :=
  .next (unlessReset s fun s =>
    if linkOk then s.updTouch (Touch.takeResult tag (if saturated then 4095 else noise.toNat)) else s)

/-! ### Deadlines (R94) -/

/-- A wait with this tag whose deadline is this instant (R94). -/
def State.deadlineDue (s : State) (tag : Byte) : Bool :=
  s.touch.waits.any fun w => w.tag == tag && w.deadline == s.count

/-- Remove the first wait with this tag and deadline. -/
def removeExpired (tag : Byte) (now : Tick) : List Wait → List Wait
  | [] => []
  | w :: ws => if w.tag = tag ∧ w.deadline = now then ws else w :: removeExpired tag now ws

/-- The slot counts as NO_RESULT: the counters rise, and the third consecutive one suspends ENABLED touch (R94). -/
def Touch.expire (tag : Byte) (now : Tick) (t : Touch) : Touch :=
  let missing := min (t.missing + 1) 3
  { t with
    waits := removeExpired tag now t.waits
    missingResults := t.missingResults + 1
    missing := missing
    state := if t.state = .enabled ∧ missing = 3 then .suspended else t.state }

/-- RESULT_DEADLINE: the wait expires; a suspension posts TOUCH_FRONTEND_FAULT to the media port (R94). -/
def execResultDeadline (tag : Byte) (s : State) : Host.Outcome State Fault Refusal :=
  .next (unlessReset s fun s =>
    if s.deadlineDue tag then
      let s1 := s.updTouch (Touch.expire tag s.count)
      if s.touch.state = .enabled ∧ s1.touch.state = .suspended then
        post .media (s.panelNotice .centre (.touchFrontendFault tag s1.touch.waits.length)) s1
      else s1
    else s)

/-! ### The frequency decision (R99, R100) -/

/-- The ALLOWED candidates from index `i` on, with their indices. -/
def allowedFrom : Nat → List Candidate → List (Nat × Candidate)
  | _, [] => []
  | i, c :: cs =>
    if c.permission = .allowed then (i, c) :: allowedFrom (i + 1) cs else allowedFrom (i + 1) cs

/-- The entry with the lowest average, ties to the earliest. -/
def lowestOf : List (Nat × Candidate) → Option (Nat × Candidate)
  | [] => none
  | x :: xs =>
    match lowestOf xs with
    | none => some x
    | some y => if x.2.average ≤ y.2.average then some x else some y

/-- The ALLOWED candidate with the lowest average, ties to the lowest index (R99). -/
def lowestAllowed (cs : List Candidate) : Option (Nat × Candidate) := lowestOf (allowedFrom 0 cs)

/-- The ALLOWED candidates other than the active one. -/
def Touch.others (t : Touch) : List (Nat × Candidate) :=
  (allowedFrom 0 t.candidates).filter fun x => x.1 != t.active

/-- The active candidate. -/
def Touch.activeCandidate (t : Touch) : Option Candidate := t.candidates[t.active]?

/-- The move the frequency decision makes, if any: its reason and the candidate taken (R99). -/
def Touch.hop (t : Touch) : Option (HopReason × Nat × Candidate) :=
  match t.activeCandidate with
  | none => none
  | some a =>
    if a.permission = .banned then (lowestAllowed t.candidates).map fun x => (.ban, x.1, x.2)
    else if t.state = .enabled then
      match lowestOf t.others, lowestAllowed t.candidates with
      | some o, some x =>
        if t.hopHold ≤ t.sinceHop ∧ o.2.average + t.hysteresis < a.average then some (.noise, x.1, x.2) else none
      | _, _ => none
    else none

/-- The average of the active candidate. -/
def Touch.activeAverage (t : Touch) : Nat := (t.activeCandidate.map Candidate.average).getD 0

/-- The frequency decision of a centre plan point, with its TOUCH_HOP notice (R99, R100). -/
def decideFrequency (s : State) : State :=
  match s.touch.hop with
  | none => s
  | some (reason, i, c) =>
    post .media
      (s.panelNotice .centre (.touchHop reason s.touch.active s.touch.activeAverage i c.average s.touch.sinceHop))
      (s.updTouch fun t => { t with active := i, sinceHop := 0 })

/-! ### The listen candidate (R101) -/

/-- The first of these indices that is ALLOWED and is not the active candidate (R101). -/
def firstListen (t : Touch) : List Nat → Option ListenItem
  | [] => none
  | i :: is =>
    match t.candidates[i]? with
    | none => firstListen t is
    | some c =>
      if c.permission = .allowed ∧ i ≠ t.active then some { candidate := i, period := c.period }
      else firstListen t is

/-- The listen candidate: the search starts at the listen pointer and wraps from 5 to 0 (R101). -/
def Touch.listenCandidate (t : Touch) : Option ListenItem :=
  firstListen t ((List.range 6).map fun k => (t.listenPtr + k) % 6)

end Sys2Proof.Machine
end

