-- ==== Sys2Proof/Machine/Frame.lean ====
section
/-!
DEFINITION. The events of a frame (1.2, chapter 3): the frame start, PANEL_START's frame 0, the plan point, the end of a
build, and the frame end.
-/

namespace Sys2Proof.Machine

open Sys2Proof

/-! ### The frame start (R7, R9, R61, R63, R69) -/

/-- What the builder hands over at a frame start (R61, R63). `fixed` is the length fixed at the plan point, T_nom for
frame 0; `buildTime` is that of the late build. -/
structure Handed where
  plan : Plan
  length : Nat
  fixed : Nat
  stretched : Bool
  late : Bool
  deferred : Nat
  mediaOwned : Bool
  buildTime : Nat
  deriving DecidableEq, Repr

/-- A ready plan, handed over (R61). -/
def ReadyPlan.handed (r : ReadyPlan) : Handed :=
  { plan := r.plan, length := r.length, fixed := r.fixed, stretched := r.stretched, late := false,
    deferred := r.deferred, mediaOwned := r.mediaOwned, buildTime := 0 }

/-- The fallback plan of a late build, handed over (R61, R62). -/
def Build.handed (b : Build) : Handed :=
  { plan := b.snapshot.fallbackPlan
    length := b.snapshot.fallbackLength
    fixed := b.snapshot.length
    stretched := decide (b.snapshot.length < b.snapshot.fallbackCost)
    late := true
    deferred := b.snapshot.deferredIn b.snapshot.fallbackPlan
    mediaOwned := b.snapshot.anyMedia
    buildTime := b.buildTime }

/-- Some cluster band is lent now (R63). The centre panel's notices do not ask. -/
def State.lentNow (s : State) (p : Panel) : Bool := (s.panel p).bands.placed.any fun b => s.owner p b == .media

/-- The plan of frame 0, in a frame of length T_nom raised to the full-refresh cost (R7, R43, R63). -/
def State.firstHanded (s : State) (p : Panel) : Handed :=
  let x := s.panel p
  { plan := fullPlan x.timing .pos (x.bands.records.map Band.lines)
    length := max x.timing.tNom x.fullCost
    fixed := x.timing.tNom
    stretched := decide (x.timing.tNom < x.fullCost)
    late := false
    deferred := 0
    mediaOwned := s.lentNow p
    buildTime := 0 }

/-- The build that begins now for the frame after the one in progress: its snapshot, and when it completes (R44,
R60). -/
def State.newBuild (s : State) (p : Panel) : Build :=
  let x := s.panel p
  let sn := s.snapshot p (x.frame.next.getD x.timing.tNom) s.touch.listenCandidate
  { snapshot := sn, done := s.count.after sn.buildTime, buildTime := sn.buildTime, frameLate := false }

/-- What the builder hands over for the frame after the one in progress: the ready plan, or the fallback plan of the
build in progress (R61). One of the two exists at every frame end that another frame follows; where neither did, the
build would begin there, and the frame would be late (log entry 26). -/
def State.handed (s : State) (p : Panel) : Handed :=
  let x := s.panel p
  match x.builder.ready, x.builder.build with
  | some r, _ => r.handed
  | none, some b => b.handed
  | none, none => (s.newBuild p).handed

/-- The executing plan of a frame (R68, R69). -/
def Handed.executing (h : Handed) (t : Timing) : Executing :=
  { plan := h.plan, position := 0, blankAt := h.length - blankTime t, blankBegun := false, driving := [],
    refreshed := 0, touches := 0, deferred := h.deferred, stretched := h.stretched, late := h.late }

/-- The builder once a plan has been handed over: no ready plan, a build still in progress is that of a late frame, and
the counts rise (R61, R63). -/
def Builder.handOver (h : Handed) (b : Builder) : Builder :=
  { b with
    build := b.build.map fun x => { x with frameLate := true }
    ready := none
    stretched := if h.stretched then b.stretched + 1 else b.stretched
    late := if h.late then b.late + 1 else b.late }

/-- A panel at a frame start (R9, R61, R69, R109). -/
def PanelState.startFrame (now : Tick) (h : Handed) (x : PanelState) : PanelState :=
  { x with
    frame := { x.frame with start := some now, length := some h.length, next := none }
    builder := x.builder.handOver h
    seq := some (h.executing x.timing)
    dimmer := x.dimmer.formEdges h.length }

/-- Post FRAME_STRETCHED or PLAN_LATE: the centre's to the media port, the cluster's to the supervisor port, and to the
media port too when a cluster band was lent (R63). -/
def postPlanNotice (p : Panel) (mediaOwned : Bool) (b : NoticeBody) (s : State) : State :=
  match p with
  | .centre => post .media (s.panelNotice .centre b) s
  | .cluster =>
    if mediaOwned then postBoth (s.panelNotice .cluster b) s else post .supervisor (s.panelNotice .cluster b) s

/-- The notices of a stretched and of a late frame (R63). DESIGN CHOICE: of a frame that is both, FRAME_STRETCHED is posted
first; the spec gives no order (log entry 16). -/
def postPlanNotices (p : Panel) (h : Handed) (s : State) : State :=
  let s1 :=
    if h.stretched then postPlanNotice p h.mediaOwned (.frameStretched h.fixed h.length h.late) s else s
  if h.late then
    postPlanNotice p h.mediaOwned (.planLate h.buildTime (leadTime (s.panel p).timing) h.length) s1
  else s1

/-- The groups deferred in the frame join the touch-deferred counter of the centre panel (R53). -/
def countDeferred (p : Panel) (n : Nat) (s : State) : State :=
  match p with
  | .cluster => s
  | .centre => s.updTouch fun t => { t with deferred := t.deferred + BitVec.ofNat 16 n }

/-- The frame start of a panel whose frame number stands: the FRAME command goes out, and the other panel may get a
partner marker (R9, R16, R53, R63, R69). -/
def frameStart (p : Panel) (h : Handed) (s : State) : State :=
  let number := (s.panel p).frame.number
  let s1 := s.updPanel p (PanelState.startFrame s.count h)
  let s2 := sendLink p (.frame number (polarityOf number) h.length) s1
  producePartnerMarker p (postPlanNotices p h (countDeferred p h.deferred s2))

/-! ### Frame 0 (R144) -/

/-- A band at PANEL_START (R37). -/
def Band.atStart (b : Band) : Band := { b with dirty := false, hold := 0, balance := 0 }

/-- The lock at PANEL_START (R12). -/
def FrameLock.atStart (tNom : Nat) (l : FrameLock) : FrameLock :=
  { l.restart tNom with state := lockStateFor l.settings.source }

/-- The panel at PANEL_START, before its frame 0 starts (R12, R37, R144). The autostart mark is cleared (R176). -/
def PanelState.beginScan (x : PanelState) : PanelState :=
  { x with
    frame := { x.frame with number := 0 }
    lock := x.lock.atStart x.timing.tNom
    bands := { x.bands with records := x.bands.records.map Band.atStart }
    power := { x.power with state := .scanning, stopPending := false, offPending := false, autostart := false } }

/-- PANEL_START in READY, from a port or as an autostart (R144, R176). -/
def startScanning (p : Panel) (s : State) : State :=
  let s1 := postPanelState p .ready .request (s.updPanel p PanelState.beginScan)
  frameStart p (s1.firstHanded p) s1

/-- The length of the frame 0 that a PANEL_START would start (R7). -/
def PanelState.startLength (x : PanelState) : Nat := max x.timing.tNom x.fullCost

/-! ### PLAN_POINT (R8, R44) -/

/-- The plan point of the frame in progress falls at this instant: the panel is SCANNING without a stop pending, and the
next frame length is not fixed yet (R8, R11). -/
def State.planPointDue (s : State) (p : Panel) : Bool :=
  let x := s.panel p
  x.power.state == .scanning && !x.power.stopPending && x.frame.next.isNone &&
    match x.frame.length with
    | none => false
    | some length => x.frameTick (length - leadTime x.timing) == some s.count

/-- The hop decision of a centre plan point (R46, R99). -/
def hopDecision (p : Panel) (s : State) : State :=
  match p with
  | .cluster => s
  | .centre => decideFrequency s

/-- The builder takes its snapshot and begins the build (R44, R60). -/
def beginBuild (p : Panel) (s : State) : State :=
  s.updPanel p fun x => { x with builder := { x.builder with build := some (s.newBuild p) } }

/-- The plan point: the lock decides and fixes the next length, the dimmer fixes the frame duty, the touch scheduler
takes its hop decision, and the build begins (R8, R44, R46, R107). -/
def planPoint (p : Panel) (s : State) : State :=
  let s1 := lockPlanPoint p s
  let s2 := s1.updDimmer p (Dimmer.fixDuty s.supply.hold)
  beginBuild p (hopDecision p s2)

/-- PLAN_POINT (R8). -/
def execPlanPoint (p : Panel) (s : State) : Host.Outcome State Fault Refusal :=
  .next (unlessReset s fun s => if s.planPointDue p then planPoint p s else s)

/-! ### BUILD_COMPLETE (R60) -/

/-- The panel's build completes at this instant (R60). -/
def State.buildDue (s : State) (p : Panel) : Bool :=
  match (s.panel p).builder.build with
  | none => false
  | some b => b.done == s.count

/-- The plan becomes the ready plan; that of a frame already started is discarded (R60). -/
def Builder.complete (x : Builder) : Builder :=
  match x.build with
  | none => x
  | some b => { x with build := none, ready := if b.frameLate then x.ready else some b.snapshot.readyPlan }

/-- BUILD_COMPLETE (R60). -/
def execBuildComplete (p : Panel) (s : State) : Host.Outcome State Fault Refusal :=
  .next (unlessReset s fun s =>
    if s.buildDue p then s.updPanel p fun x => { x with builder := x.builder.complete } else s)

/-! ### FRAME_END (R9, 3.7) -/

/-- The plan skips band `i`. -/
def Plan.skipsBand (plan : Plan) (i : Nat) : Bool :=
  plan.slots.any fun x =>
    match x.kind with
    | .skip j => j == i
    | _ => false

/-- One more frame without a refresh (R35). -/
def Band.held (b : Band) : Band := { b with hold := min (b.hold + 1) b.holdLimit }

/-- The frame in progress skips band `i`. -/
def PanelState.skips (x : PanelState) (i : Nat) : Bool := x.seq.any fun e => e.plan.skipsBand i

/-- The hold count of every band skipped in the frame rises (R35). -/
def raiseHolds (p : Panel) (s : State) : State :=
  s.updBands p (mapBands (fun b => if (s.panel p).skips b.index then b.band.held else b.band) 0 0)

/-- Ages and frames since the last hop rise at a frame end of the centre panel (R64). -/
def ageTouch (p : Panel) (s : State) : State :=
  match p with
  | .cluster => s
  | .centre =>
    s.updTouch fun t =>
      { t with
        groups := t.groups.map fun g => { g with age := min (g.age + 1) 255 }
        sinceHop := min (t.sinceHop + 1) 255 }

/-- The dimmer's part of a frame end that another frame follows: the duty step, and the enable at the end of frame 0
(R107, R110). A frame end after PANEL_STOP makes no duty step (R111). -/
def dimFrameEnd (p : Panel) (s : State) : State :=
  if (s.panel p).power.stopPending then s
  else
    s.updDimmer p fun d =>
      { d.takeDuty with enable := d.enable || decide ((s.panel p).frame.number = 0) }

/-- Every entry left in the cluster's expectation list counts as a missing report, and the list empties (R79). DESIGN
CHOICE: the entries are judged in list order, which is that of their slot starts, and so the first to reach the limit with
INTEGRITY clear is the one whose INTEGRITY_FAULT is posted; the spec gives no order (log entry 16). -/
def judgeMissing (p : Panel) (s : State) : State :=
  match p with
  | .centre => s
  | .cluster =>
    (s.cluster.link.expectations.foldl (fun s e => countMismatch e none s) s).updPanel .cluster fun x =>
      { x with link := { x.link with expectations := [] } }

/-- FRAME_REPORT of the frame in progress (R65). -/
def PanelState.frameReport (x : PanelState) : NoticeBody :=
  match x.seq with
  | none => .frameReport (x.frame.length.getD 0) false false 0 0 0
  | some e => .frameReport (x.frame.length.getD 0) e.stretched e.late e.refreshed e.touches e.deferred

/-- Post FRAME_REPORT to each port subscribed to the panel (R65). -/
def reportFrame (p : Panel) (s : State) : State :=
  let x := s.panel p
  let n := s.panelNotice p x.frameReport
  let s1 := if x.builder.subSupervisor then post .supervisor n s else s
  if x.builder.subMedia then post .media n s1 else s1

/-- The frame-end work of every block (3.7). -/
def frameEndWork (p : Panel) (s : State) : State :=
  reportFrame p (judgeMissing p (dimFrameEnd p (grantFrameEnd p (ageTouch p (raiseHolds p s)))))

/-- The frame number increments, wrapping (R9). -/
def nextNumber (p : Panel) (s : State) : State :=
  s.updPanel p fun x => { x with frame := { x.frame with number := x.frame.number + 1 } }

/-- The end of the last frame: the panel moves to READY, and on to DRAIN when off pending is set (R145, R146). -/
def finishScan (p : Panel) (s : State) : State :=
  let s1 := (stopScan p s).updPower p fun w => { w with state := .ready, stopPending := false }
  let s2 := postPanelState p .scanning .stopDone s1
  if (s.panel p).power.offPending then
    enterDrain p .request (s2.updPower p fun w => { w with offPending := false })
  else s2

/-- The frame end: the work of the frame that ends, then the end of scanning or the next frame's start (R9, R11). -/
def frameEnd (p : Panel) (s : State) : State :=
  let s1 := frameEndWork p s
  if (s.panel p).power.stopPending then nextNumber p (finishScan p s1)
  else
    frameStart p (s1.handed p) (nextNumber p s1)

/-- FRAME_END (R9). -/
def execFrameEnd (p : Panel) (s : State) : Host.Outcome State Fault Refusal :=
  .next (unlessReset s fun s => if s.frameEndDue p then frameEnd p s else s)

end Sys2Proof.Machine
end

