-- ==== Sys2Proof/Machine/Power.lean ====
section
/-!
DEFINITION. Panel power sequencing (chapter 9): the four power requests, the three step expiries, the loss of
power-good, and the supply warning.
-/

namespace Sys2Proof.Machine

open Sys2Proof

/-! ### The power requests (R141) -/

/-- The state and marks an OK reply carries (R141). -/
def Power.reply (w : Power) : PowerReply :=
  { state := w.state, stopPending := w.stopPending, offPending := w.offPending }

/-- Checks 1 and 2 of R141: the panel named, or the refusal. -/
def powerTarget (q : Port) (panel : Nat) : Except Answer Panel :=
  match panelOf panel with
  | none => .error (refuse .badParam)
  | some p => if q = .media ∧ p = .cluster then .error (refuse .notPermitted) else .ok p

/-- A step-time field: 0 keeps the present time (R142). -/
def stepTime (field present : Nat) : Nat := if field = 0 then present else field

/-- The step times after a PANEL_ON with these fields (R142). -/
def StepTimes.given (tA tB tC : Nat) (t : StepTimes) : StepTimes :=
  { tA := stepTime tA t.tA, tB := stepTime tB t.tB, tC := stepTime tC t.tC }

/-- A PANEL_ON in OFF, from a port or as an autostart (R142, R176). -/
def turnOn (p : Panel) (tA tB tC : Nat) (s : State) : State :=
  let times := (s.panel p).power.times.given tA tB tC
  postPanelState p .off .request
    (s.updPower p fun w =>
      { w with
        times := times
        logicEn := true
        state := .ramp
        step := some { step := .gateWait, deadline := s.count.after (times.tA * Config.tuPerMs) } })

/-- PANEL_ON (R141, R142). A step-time field is a byte; one above 255 cannot be sent, and would be BAD_PARAM (log
entry 9). -/
def servePanelOn (q : Port) (panel tA tB tC : Nat) (s : State) : State × Answer :=
  match powerTarget q panel with
  | .error a => (s, a)
  | .ok p =>
    if 255 < tA ∨ 255 < tB ∨ 255 < tC then (s, refuse .badParam)
    else if (s.panel p).power.state ≠ .off then (s, refuse .wrongState)
    else
      let s1 := turnOn p tA tB tC s
      (s1, accept (.power (s1.panel p).power.reply))

/-- PANEL_ON (R142). -/
def execPanelOn (q : Port) (tag : Byte) (panel tA tB tC : Nat) (s : State) : Host.Outcome State Fault Refusal :=
  .next (takeRequest q tag 0x14 (servePanelOn q panel tA tB tC) s)

/-- PANEL_START (R141, R144); the reply also carries the length of frame 0. -/
def servePanelStart (q : Port) (panel : Nat) (s : State) : State × Answer :=
  match powerTarget q panel with
  | .error a => (s, a)
  | .ok p =>
    if (s.panel p).power.state ≠ .ready then (s, refuse .wrongState)
    else
      let s1 := startScanning p s
      (s1, accept (.panelStart (s1.panel p).power.reply (s1.panel p).frame.length))

/-- PANEL_START (R144). -/
def execPanelStart (q : Port) (tag : Byte) (panel : Nat) (s : State) : Host.Outcome State Fault Refusal :=
  .next (takeRequest q tag 0x15 (servePanelStart q panel) s)

/-- A PANEL_STOP in SCANNING: the backlight goes off and the stop is pending; nothing changes when it already is
(R145). -/
def stopPanel (p : Panel) (s : State) : State :=
  if (s.panel p).power.stopPending then s
  else
    (s.updDimmer p Dimmer.switchOff).updPower p fun w => { w with stopPending := true }

/-- PANEL_STOP (R141, R145). -/
def servePanelStop (q : Port) (panel : Nat) (s : State) : State × Answer :=
  match powerTarget q panel with
  | .error a => (s, a)
  | .ok p =>
    if (s.panel p).power.state ≠ .scanning then (s, refuse .wrongState)
    else
      let s1 := stopPanel p s
      (s1, accept (.power (s1.panel p).power.reply))

/-- PANEL_STOP (R145). -/
def execPanelStop (q : Port) (tag : Byte) (panel : Nat) (s : State) : Host.Outcome State Fault Refusal :=
  .next (takeRequest q tag 0x16 (servePanelStop q panel) s)

/-- A PANEL_OFF by power state (R146). -/
def offPanel (p : Panel) (s : State) : State :=
  match (s.panel p).power.state with
  | .off => s
  | .drain => s
  | .ramp => enterDrain p .request s
  | .ready => enterDrain p .request s
  | .scanning => (stopPanel p s).updPower p fun w => { w with offPending := true }

/-- PANEL_OFF (R141, R146): it is taken in every power state. -/
def servePanelOff (q : Port) (panel : Nat) (s : State) : State × Answer :=
  match powerTarget q panel with
  | .error a => (s, a)
  | .ok p =>
    let s1 := offPanel p s
    (s1, accept (.power (s1.panel p).power.reply))

/-- PANEL_OFF (R146). -/
def execPanelOff (q : Port) (tag : Byte) (panel : Nat) (s : State) : Host.Outcome State Fault Refusal :=
  .next (takeRequest q tag 0x17 (servePanelOff q panel) s)

/-! ### The timed steps (R142, R147) -/

/-- The timed step in progress is `k` and its deadline is this instant. -/
def State.stepDue (s : State) (p : Panel) (k : PowerStep) : Bool :=
  (s.panel p).power.step == some { step := k, deadline := s.count }

/-- GATE_WAIT expires: GATE_EN rises and SETTLE starts (R142). -/
def endGateWait (p : Panel) (s : State) : State :=
  s.updPower p fun w =>
    { w with
      gateEn := true
      step := some { step := .settle, deadline := s.count.after (w.times.tB * Config.tuPerMs) } }

/-- GATE_WAIT_EXPIRY (R142). -/
def execGateWaitExpiry (p : Panel) (s : State) : Host.Outcome State Fault Refusal :=
  .next (unlessReset s fun s => if s.stepDue p .gateWait then endGateWait p s else s)

/-- The panel reaches READY; with its autostart mark set it starts scanning at once (R142, R176). -/
def reachReady (p : Panel) (s : State) : State :=
  let s1 := postPanelState p .ramp .stepDone (s.updPower p fun w => { w with state := .ready, step := none })
  if (s.panel p).power.autostart then startScanning p s1 else s1

/-- SETTLE expires with power-good at this level (R142, R143). -/
def endSettle (p : Panel) (powerGood : Bool) (s : State) : State :=
  let s1 := s.updPower p fun w => { w with powerGood := powerGood }
  if powerGood then reachReady p s1 else enterDrain p .powerAbsent (setPowerCause s1)

/-- SETTLE_EXPIRY: the sequencer reads the power-good input, which stands at `powerGood` (R142; log entry 12). -/
def execSettleExpiry (p : Panel) (powerGood : Bool) (s : State) : Host.Outcome State Fault Refusal :=
  .next (unlessReset s fun s => if s.stepDue p .settle then endSettle p powerGood s else s)

/-- DISCHARGE expires: LOGIC_EN falls and the panel is OFF (R147). -/
def endDischarge (p : Panel) (s : State) : State :=
  postPanelState p .drain .stepDone
    (s.updPower p fun w => { w with logicEn := false, state := .off, step := none })

/-- DISCHARGE_EXPIRY (R147). -/
def execDischargeExpiry (p : Panel) (s : State) : Host.Outcome State Fault Refusal :=
  .next (unlessReset s fun s => if s.stepDue p .discharge then endDischarge p s else s)

/-! ### Loss of power-good (R143) -/

/-- A loss of power-good in READY or SCANNING (R143). -/
def losePower (p : Panel) (s : State) : State :=
  let s1 := if s.scanning p then abandonScan p s else s
  enterDrain p .powerLost (setPowerCause s1)

/-- The power-good input is watched in READY and SCANNING (R143). -/
def State.watchesPower (s : State) (p : Panel) : Bool :=
  (s.panel p).power.state == .ready || (s.panel p).power.state == .scanning

/-- POWER_GOOD_LOSS: the input is low; a loss in READY and SCANNING, ignored elsewhere (R142, R143). The level of the
input itself follows the pin in a reset too (log entry 11). -/
def execPowerGoodLoss (p : Panel) (s : State) : Host.Outcome State Fault Refusal :=
  let s1 := s.updPower p fun w => { w with powerGood := false }
  .next (unlessReset s1 fun s => if s.watchesPower p then losePower p s else s)

/-! ### Supply warning (R149, R112) -/

/-- The SUPPLY_WARNING notice (R149). -/
def State.supplyNotice (s : State) (level : Bool) : Notice :=
  deviceNotice
    (.supplyWarning level s.cluster.power.state s.cluster.frame.number s.centre.power.state s.centre.frame.number)

/-- Supply-hold begins: the dimmers act at once, and both ports are told (R112, R149). -/
def beginHold (s : State) : State :=
  let s1 := capPanel .centre (capPanel .cluster { s with supply := { s.supply with hold := true } })
  postBoth (s.supplyNotice true) s1

/-- Supply-hold ends: both ports are told (R113, R149). -/
def endHold (s : State) : State :=
  postBoth (s.supplyNotice false) { s with supply := { s.supply with hold := false } }

/-- SUPPLY_WARNING_ASSERT: the input is asserted; supply-hold begins at the edge (R149). In a reset the input alone
moves, and the flag takes its level at the release. -/
def execSupplyWarningAssert (s : State) : Host.Outcome State Fault Refusal :=
  let s1 := { s with supply := { s.supply with warningPin := true } }
  .next (unlessReset s1 fun s => if s.supply.hold then s else beginHold s)

/-- SUPPLY_WARNING_RELEASE: the input is released; supply-hold ends at the edge (R149). -/
def execSupplyWarningRelease (s : State) : Host.Outcome State Fault Refusal :=
  let s1 := { s with supply := { s.supply with warningPin := false } }
  .next (unlessReset s1 fun s => if s.supply.hold then endHold s else s)

end Sys2Proof.Machine
end

