-- ==== Sys2Proof/Machine/Profile.lean ====
section
/-!
DEFINITION. The profile record and identification (chapter 12): PROFILE_WRITE and its end, PROFILE_READ, IDENTIFY, and
RESET_DEVICE.
-/

namespace Sys2Proof.Machine

open Sys2Proof

/-! ### The live configuration (R175, R177) -/

/-- The live items of one panel. -/
def PanelState.items (x : PanelState) : PanelProfile :=
  { timing := x.timing
    lock := x.lock.settings
    bMax := x.bands.bMax
    bands := x.bands.records.map fun b => { lines := b.lines, cls := b.cls, holdLimit := b.holdLimit }
    dimmer := x.dimmer.settings
    times := x.power.times }

/-- The live touch and frequency items. -/
def Touch.items (t : Touch) : TouchProfile :=
  { groups := t.groups.map fun g =>
      { id := g.id, code := g.code, interval := g.interval, bursts := g.bursts, enabled := g.enabled }
    scan := t.scan
    freqs := t.candidates.map fun c => { period := c.period, permission := c.permission }
    hysteresis := t.hysteresis
    hopHold := t.hopHold
    active := t.active }

/-- A copy of the live values of every item of R175, with the two autostart flags given (R177). -/
def State.liveProfile (s : State) (autoCluster autoCentre : Bool) : Profile :=
  { general :=
      { autoCluster := autoCluster, autoCentre := autoCentre, mismatchLimit := s.mismatchLimit,
        defPeriod := s.monitor.defPeriod, defFraction := s.monitor.defFraction }
    cluster := s.cluster.items
    centre := s.centre.items
    touch := s.touch.items }

/-! ### PROFILE_WRITE (R177) -/

/-- PROFILE_WRITE, by the checks of R177 in order. From the taking on, the stored record fails its check. -/
def serveProfileWrite (q : Port) (autoCluster autoCentre : Option Bool) (s : State) : State × Answer :=
  if q = .media then (s, refuse .notPermitted)
  else
    match autoCluster, autoCentre with
    | some a, some b =>
      if s.profile.writing.isSome then (s, refuse .busy)
      else
        let w : ProfileWriting := { copy := s.liveProfile a b, done := s.count.after Config.profileWriteTime }
        ({ s with profile := { s.profile with stored := none, writing := some w } }, accept .none)
    | _, _ => (s, refuse .badParam)

/-- PROFILE_WRITE (R177). -/
def execProfileWrite (q : Port) (tag : Byte) (autoCluster autoCentre : Option Bool) (s : State) :
    Host.Outcome State Fault Refusal :=
  .next (takeRequest q tag 0x22 (serveProfileWrite q autoCluster autoCentre) s)

/-- The write in flight ends at this instant (R177). -/
def State.writeDue (s : State) : Option ProfileWriting :=
  match s.profile.writing with
  | none => none
  | some w => if w.done = s.count then some w else none

/-- The stored record holds the copy with a fresh check, and PROFILE_DONE carries the check written (R177). -/
def finishWrite (w : ProfileWriting) (s : State) : State :=
  let check := Config.profileCheck w.copy
  post .supervisor (deviceNotice (.profileDone check))
    { s with profile := { s.profile with stored := some { items := w.copy, check := check }, writing := none } }

/-- PROFILE_WRITE_DONE (R177). -/
def execProfileWriteDone (s : State) : Host.Outcome State Fault Refusal :=
  .next (unlessReset s fun s =>
    match s.writeDue with
    | none => s
    | some w => finishWrite w s)

/-! ### PROFILE_READ (R178) -/

/-- The stored record passes its check now (R175). -/
def StoredProfile.passes (r : StoredProfile) : Bool := Config.profileCheck r.items == r.check

/-- The items of one section (R178). -/
def Profile.items (x : Profile) : Nat → ProfileItems
  | 0 => .general x.general
  | 1 => .panel x.cluster
  | 2 => .panel x.centre
  | _ => .touch x.touch

/-- The stored record when it is VALID. -/
def ProfileStore.validRecord (x : ProfileStore) : Option Profile :=
  match x.stored with
  | none => none
  | some r => if r.passes then some r.items else none

/-- PROFILE_READ (R178). The reply carries the record's state whatever its outcome (log entry 23). -/
def serveProfileRead (portion : Nat) (s : State) : State × Answer :=
  let valid := s.profile.validRecord
  if 3 < portion then (s, { outcome := .badParam, results := .profileRead valid.isSome none })
  else if s.profile.writing.isSome then (s, { outcome := .busy, results := .profileRead valid.isSome none })
  else (s, accept (.profileRead valid.isSome (valid.map fun x => x.items portion)))

/-- PROFILE_READ (R178). -/
def execProfileRead (q : Port) (tag : Byte) (portion : Nat) (s : State) : Host.Outcome State Fault Refusal :=
  .next (takeRequest q tag 0x23 (serveProfileRead portion) s)

/-! ### IDENTIFY and RESET_DEVICE (R178) -/

/-- IDENTIFY (R178). -/
def serveIdentify (s : State) : State × Answer :=
  (s, accept (.identify Config.vendorCode Config.partCode Config.revision s.profile.lastLoad))

/-- IDENTIFY (R178). -/
def execIdentify (q : Port) (tag : Byte) (s : State) : Host.Outcome State Fault Refusal :=
  .next (takeRequest q tag 0x20 serveIdentify s)

/-- RESET_DEVICE: the reset begins at the delivery of this reply (R178). -/
def serveResetDevice (q : Port) (s : State) : State × Answer :=
  (s, if q = .media then refuse .notPermitted else accept .none)

/-- RESET_DEVICE (R178). -/
def execResetDevice (q : Port) (tag : Byte) (s : State) : Host.Outcome State Fault Refusal :=
  .next (takeRequest q tag 0x21 (serveResetDevice q) s)

end Sys2Proof.Machine
end

