-- ==== Sys2Proof/Machine/Reset.lean ====
section
/-!
DEFINITION. Resets (12.1): the beginning of a reset by each cause, and its release, at which the reset sequence loads the
profile, keeps or clears the retained area, and starts every block again.
-/

namespace Sys2Proof.Machine

open Sys2Proof

/-! ### The beginning of a reset (R172, step 1) -/

/-- The sequencer with its enables fallen and its step ended (R140, R172). -/
def Power.ended (w : Power) : Power :=
  { w with state := .off, logicEn := false, gateEn := false, step := none, stopPending := false, offPending := false,
           autostart := false }

/-- A panel whose operations have ended: ramp or drain, frame, build, slots (R172). -/
def PanelState.ended (x : PanelState) : PanelState :=
  { x with
    frame := { x.frame with start := none, length := none, next := none }
    lock := x.lock.release
    builder := { x.builder with build := none, ready := none }
    seq := none
    link := { x.link with expectations := [] }
    dimmer := x.dimmer.switchOff
    power := x.power.ended }

/-- The reset held once `cause` arrives: cold when the cause is, or when the sequence it interrupts is (R172). -/
def ResetLogic.begin (cause : ResetCause) (r : ResetLogic) : ResetLogic :=
  { held := some { cause := cause, cold := cause.cold || r.held.any HeldReset.cold }, requested := false }

/-- A reset begins: every operation in flight ends, enable outputs fall, the fault line goes low (R172, step 1; log
entry 29). -/
def beginReset (cause : ResetCause) (s : State) : State :=
  { s with
    resetLogic := s.resetLogic.begin cause
    cluster := s.cluster.ended
    centre := s.centre.ended
    touch := { s.touch with waits := [] }
    monitor := { s.monitor with state := .off, start := none, elapsed := 0 }
    faults := .clear
    profile := { s.profile with writing := none } }

/-- POWER_ON_RESET (R172). -/
def execPowerOnReset (s : State) : Host.Outcome State Fault Refusal := .next (beginReset .powerOn s)

/-- BROWN_OUT_RESET (R172). -/
def execBrownOutReset (s : State) : Host.Outcome State Fault Refusal := .next (beginReset .brownOut s)

/-- PIN_RESET (R172). -/
def execPinReset (s : State) : Host.Outcome State Fault Refusal := .next (beginReset .pin s)

/-- REQUESTED_RESET: due once the reply to RESET_DEVICE has been delivered (R172, R178). -/
def execRequestedReset (s : State) : Host.Outcome State Fault Refusal :=
  .next (if s.resetLogic.requested then beginReset .requested s else s)

/-! ### The release (R172, steps 2 to 6) -/

/-- The profile loaded and the status of the load (R175). -/
def ProfileStore.load (x : ProfileStore) : Profile × ProfileStatus :=
  match x.validRecord with
  | some p => (p, .valid)
  | none => (Config.factoryProfile, .defaulted)

/-- Raise the count of a cause, saturating at 255 (R173). -/
def ResetCounts.raise (cause : ResetCause) (c : ResetCounts) : ResetCounts :=
  match cause with
  | .powerOn => { c with powerOn := min (c.powerOn + 1) 255 }
  | .brownOut => { c with brownOut := min (c.brownOut + 1) 255 }
  | .pin => { c with pin := min (c.pin + 1) 255 }
  | .requested => { c with requested := min (c.requested + 1) 255 }

/-- All four counts 0 (R173). -/
def ResetCounts.cleared : ResetCounts := { powerOn := 0, brownOut := 0, pin := 0, requested := 0 }

/-- The reset counts after step 4 (R173). -/
def ResetCounts.afterReset (h : HeldReset) (c : ResetCounts) : ResetCounts :=
  (if h.cold then ResetCounts.cleared else c).raise h.cause

/-- An active index that names a BANNED candidate moves to the ALLOWED candidate with the lowest average (R104). -/
def Touch.leaveBanned (t : Touch) : Touch :=
  if (t.activeCandidate.any fun a => a.permission == .banned) = true then
    { t with active := ((lowestAllowed t.candidates).map Prod.fst).getD t.active }
  else t

/-- The touch scheduler after a reset: a warm one keeps the retained averages whose period is loaded again, the active
index and the listen pointer; after either kind a BANNED active candidate is left (R104). -/
def Touch.reload (h : HeldReset) (p : TouchProfile) (t : Touch) : Touch :=
  Touch.leaveBanned
    (if h.cold then Touch.afterReset p
    else
      { Touch.afterReset p with
        candidates := replaceCandidates t.candidates p.freqs
        active := t.active
        listenPtr := t.listenPtr })

/-- The device with every block at its after-reset value and the BOOT notice in each queue (R172, steps 2 to 5). -/
def reloadDevice (h : HeldReset) (s : State) : State :=
  let load := s.profile.load
  let items := load.1
  let counts := s.resetCounts.afterReset h
  let boot := bootNotice h.cause h.cold load.2 counts items.general
  { s with
    resetLogic := { held := none, requested := false }
    cluster := .afterReset items.cluster s.cluster.power.powerGood
    centre := .afterReset items.centre s.centre.power.powerGood
    touch := s.touch.reload h items.touch
    windows := .afterReset (if h.cold then 0 else s.windows.misses)
    grants := .afterReset
    mismatchLimit := items.general.mismatchLimit
    monitor := .afterReset items.general.defPeriod items.general.defFraction
    faults := .clear
    supply := { s.supply with hold := s.supply.warningPin }
    supervisor := .afterReset [boot]
    media := .afterReset [boot]
    mediaEnabled := false
    timingLock := false
    profile := { s.profile with writing := none, lastLoad := load.2 }
    resetCounts := counts }

/-- A flag set by the level taken at the reset is reported after BOOT (R149, R172 step 5). -/
def reportHold (s : State) : State := if s.supply.hold then postBoth (s.supplyNotice true) s else s

/-- The autostart of a panel whose flag is set: the mark, and PANEL_ON with the stored step times (R176). -/
def autostart (p : Panel) (flag : Bool) (s : State) : State :=
  if flag then turnOn p 0 0 0 (s.updPower p fun w => { w with autostart := true }) else s

/-- The release of a reset (R172, steps 2 to 6). DESIGN CHOICE: with both autostart flags set the cluster panel begins
first, and so its PANEL_STATE is the first in the queue; R176 gives no order (log entry 16). -/
def finishReset (h : HeldReset) (s : State) : State :=
  let general := s.profile.load.1.general
  autostart .centre general.autoCentre
    (autostart .cluster general.autoCluster (reportHold (reloadDevice h s)))

/-- RESET_RELEASE: the pin is released, the supply stands above the threshold, or a REQUESTED reset goes on (R172).
DESIGN CHOICE: the command carries nothing that tells these apart, and one RESET_RELEASE ends the whole hold, also where
the pin was asserted and the supply low together (log entry 38). -/
def execResetRelease (s : State) : Host.Outcome State Fault Refusal :=
  .next (match s.resetLogic.held with
    | none => s
    | some h => finishReset h s)

end Sys2Proof.Machine
end

