-- ==== Sys2Proof/Machine/Supervision.lean ====
section
/-!
DEFINITION. Supervision and fault handling (chapter 10): SUPERVISE_START, KEEPALIVE, RECOVER, CLEAR_FAULT, the expiry of
a period, and the entry into FAULT.
-/

namespace Sys2Proof.Machine

open Sys2Proof

/-- A new period begins at this instant (R152). -/
def Monitor.begin (now : Tick) (m : Monitor) : Monitor :=
  { m with state := .running, start := some now, elapsed := 0 }

/-- The monitor's own part of the entry into FAULT (R156, step 1). -/
def Monitor.fail (reason : FaultReason) (m : Monitor) : Monitor :=
  { m with state := .fault, reason := some reason, start := none }

/-- The number of OPEN windows. -/
def State.openWindows (s : State) : Nat := (s.windows.slots.filter Option.isSome).length

/-- Entry into FAULT, in the order of R156; `elapsed` is that of the failed period. -/
def enterFault (reason : FaultReason) (elapsed : Nat) (s : State) : State :=
  let s1 := { s with monitor := s.monitor.fail reason }
  let s2 := setSupervisionCause s1
  let s3 := closeAllWindows .fault s2
  if s.faults.supervision then s3
  else
    postBoth
      (deviceNotice
        (.supervisionFault reason elapsed s.openWindows (s.grants.records.length - s3.grants.records.length)
          s.cluster.frame.number)) s3

/-- SUPERVISE_START, by the checks of R153 in order. -/
def serveSuperviseStart (q : Port) (period fraction : Nat) (s : State) : State × Answer :=
  if q = .media then (s, refuse .notPermitted)
  else if inRange 1 9 period = true ∨ 2000 < period ∨ fractionInRange fraction = false then (s, refuse .badParam)
  else if s.monitor.state ≠ .off then (s, refuse .wrongState)
  else
    let w := if period = 0 then s.monitor.defPeriod else period
    let f := if fraction = 0 then s.monitor.defFraction else fraction
    let m := Monitor.begin s.count { s.monitor with period := w, fraction := f, defPeriod := w, defFraction := f }
    ({ s with monitor := m }, accept (.supervise w f m.openStart))

/-- SUPERVISE_START (R153). -/
def execSuperviseStart (q : Port) (tag : Byte) (period fraction : Nat) (s : State) :
    Host.Outcome State Fault Refusal :=
  .next (takeRequest q tag 0x18 (serveSuperviseStart q period fraction) s)

/-- KEEPALIVE, by the monitor's state (R154). -/
def serveKeepalive (q : Port) (s : State) : State × Answer :=
  if q = .media then (s, refuse .notPermitted)
  else
    match s.monitor.state with
    | .off => (s, refuse .wrongState)
    | .fault => (s, refuse .faulted)
    | .running =>
      let elapsed := s.monitor.elapsed.toNat
      if s.monitor.openStart ≤ elapsed then
        ({ s with monitor := s.monitor.begin s.count }, accept (.keepalive elapsed))
      else
        (enterFault .early elapsed s, { outcome := .tooEarly, results := .tooEarly elapsed s.monitor.openStart })

/-- KEEPALIVE (R154). -/
def execKeepalive (q : Port) (tag : Byte) (s : State) : Host.Outcome State Fault Refusal :=
  .next (takeRequest q tag 0x19 (serveKeepalive q) s)

/-- RECOVER (R158). -/
def serveRecover (q : Port) (s : State) : State × Answer :=
  if q = .media then (s, refuse .notPermitted)
  else if s.monitor.state ≠ .fault then (s, refuse .wrongState)
  else
    ({ s with monitor := s.monitor.begin s.count },
     accept (.recover s.monitor.period s.monitor.fraction s.monitor.openStart s.monitor.reason))

/-- RECOVER (R158). -/
def execRecover (q : Port) (tag : Byte) (s : State) : Host.Outcome State Fault Refusal :=
  .next (takeRequest q tag 0x1A (serveRecover q) s)

/-- Some panel is in DRAIN (R160). -/
def State.anyDrain (s : State) : Bool := s.cluster.power.state == .drain || s.centre.power.state == .drain

/-- The SUPERVISION cause cannot be cleared: the monitor is in FAULT (R160). -/
def State.keepsSupervision (s : State) : Bool := s.monitor.state == .fault

/-- The POWER cause cannot be cleared: it is set while a panel is in DRAIN (R160). -/
def State.keepsPower (s : State) : Bool := s.faults.power && s.anyDrain

/-- The causes after a CLEAR_FAULT naming `m` (R160). -/
def State.causesAfter (s : State) (m : CauseMask) : Causes :=
  { supervision := s.faults.supervision && !(m.supervision && !s.keepsSupervision)
    integrity := s.faults.integrity && !m.integrity
    power := s.faults.power && !(m.power && !s.keepsPower) }

/-- CLEAR_FAULT, by the checks and the table of R160. -/
def serveClearFault (q : Port) (m : CauseMask) (s : State) : State × Answer :=
  if q = .media then (s, refuse .notPermitted)
  else if m.other = true ∨ (m.supervision = false ∧ m.integrity = false ∧ m.power = false) then
    (s, refuse .badParam)
  else
    let after := s.causesAfter m
    let refused := (m.supervision && s.keepsSupervision) || (m.power && s.keepsPower)
    ({ s with faults := after },
     { outcome := if refused then .wrongState else .ok, results := .causes s.faults after })

/-- CLEAR_FAULT (R160). -/
def execClearFault (q : Port) (tag : Byte) (m : CauseMask) (s : State) : Host.Outcome State Fault Refusal :=
  .next (takeRequest q tag 0x1B (serveClearFault q m) s)

/-- The elapsed time of a RUNNING period has reached W (R155). -/
def State.periodDue (s : State) : Bool :=
  s.monitor.state == .running && decide (s.monitor.periodTu ≤ s.monitor.elapsed.toNat)

/-- SUPERVISION_PERIOD_EXPIRY: the monitor enters FAULT with reason MISSED (R155, R156). -/
def execSupervisionPeriodExpiry (s : State) : Host.Outcome State Fault Refusal :=
  .next (unlessReset s fun s => if s.periodDue then enterFault .missed s.monitor.periodTu s else s)

end Sys2Proof.Machine
end

