-- ==== Sys2Proof/Machine/Windows.lean ====
section
/-!
DEFINITION. Lend windows (chapter 7): WINDOW_OPEN with the normalisation of its limit, WINDOW_CLOSE, WINDOW_READ.
Canvas damage stands with DAMAGE in Machine/Bands.lean; closing a window stands in Machine/Ops.lean.
-/

namespace Sys2Proof.Machine

open Sys2Proof

/-- The stored limit and the panel end of a limit given (R117). -/
def normaliseLimit (pb z limit : Nat) : Nat × Nat :=
  if limit = 0 ∨ limit < pb ∨ pb + 2 ^ z < limit then (0, pb + 2 ^ z) else (limit, limit)

/-- The window a WINDOW_OPEN would open (R117, R118). -/
def windowFrom (cb pb z limit : Nat) : Window :=
  { canvasBase := cb, panelBase := pb, sizeCode := z, storedLimit := (normaliseLimit pb z limit).1,
    panelEnd := (normaliseLimit pb z limit).2 }

/-- The half-open ranges `[a, b)` and `[c, d)` share a line; an empty one shares none. -/
def rangesMeet (a b c d : Nat) : Bool := decide (max a c < min b d)

/-- The panel ranges or the canvas ranges of two windows share a line (R116, check 6). -/
def windowsOverlap (v w : Window) : Bool :=
  rangesMeet v.panelBase v.panelEnd w.panelBase w.panelEnd
    || rangesMeet v.canvasBase (canvasEnd v) w.canvasBase (canvasEnd w)

/-- Some OPEN window overlaps `w` (R116, check 6). -/
def overlapsAny (windows : List (Option Window)) (w : Window) : Bool :=
  windows.any fun o => o.any fun v => windowsOverlap v w

/-- The index of the first band lent, 0xFF when none is (R118, R125). -/
def firstLent (t : BandTable) (w : Window) : Nat := ((lentBands t w).head?.map Placed.index).getD 0xFF

/-- WINDOW_OPEN, by the checks of R116 in order. -/
def serveWindowOpen (q : Port) (i cb pb z limit : Nat) (s : State) : State × Answer :=
  if q = .media then (s, refuse .notPermitted)
  else if 3 < i ∨ 4095 < cb ∨ 2048 < pb ∨ inRange 4 11 z = false then (s, refuse .badParam)
  else if s.monitor.state = .fault then (s, refuse .faulted)
  else if (s.windows.slots.getD i none).isSome then (s, refuse .wrongState)
  else
    let w := windowFrom cb pb z limit
    if s.cluster.timing.nAct < w.panelEnd ∨ Config.canvasLines < canvasEnd w then (s, refuse .badParam)
    else if overlapsAny s.windows.slots w = true then (s, refuse .overlap)
    else
      let s1 := { s with windows := { s.windows with slots := s.windows.slots.set i (some w) } }
      let lent := (lentBands s.cluster.bands w).length
      (post .media
        (s.panelNotice .cluster (.windowOpened i cb pb w.panelEnd (firstLent s.cluster.bands w) lent)) s1,
       accept (.windowOpen w.storedLimit w.panelEnd lent))

/-- WINDOW_OPEN (R116). -/
def execWindowOpen (q : Port) (tag : Byte) (i cb pb z limit : Nat) (s : State) :
    Host.Outcome State Fault Refusal :=
  .next (takeRequest q tag 0x0F (serveWindowOpen q i cb pb z limit) s)

/-- WINDOW_CLOSE, by the checks of R122 in order. -/
def serveWindowClose (q : Port) (i : Nat) (s : State) : State × Answer :=
  if q = .media then (s, refuse .notPermitted)
  else if 3 < i then (s, refuse .badParam)
  else
    match s.windows.slots.getD i none with
    | none => (s, refuse .wrongState)
    | some w =>
      (closeWindow i w .request s,
       accept (.windowClose (lentBands s.cluster.bands w).length (s.windowGrants w).length))

/-- WINDOW_CLOSE (R122). -/
def execWindowClose (q : Port) (tag : Byte) (i : Nat) (s : State) : Host.Outcome State Fault Refusal :=
  .next (takeRequest q tag 0x10 (serveWindowClose q i) s)

/-- What WINDOW_READ gives for an OPEN window (R125). -/
def windowReport (t : BandTable) (w : Window) : WindowStatus :=
  { window := w, empty := windowEmpty w, firstLent := firstLent t w, lent := (lentBands t w).length }

/-- WINDOW_READ (R125). -/
def serveWindowRead (s : State) : State × Answer :=
  (s, accept (.windowRead (s.windows.slots.map fun o => o.map (windowReport s.cluster.bands)) s.windows.misses))

/-- WINDOW_READ (R125). -/
def execWindowRead (q : Port) (tag : Byte) (s : State) : Host.Outcome State Fault Refusal :=
  .next (takeRequest q tag 0x11 serveWindowRead s)

end Sys2Proof.Machine
end

