-- ==== Sys2Proof/Machine/Ports.lean ====
section
/-!
DEFINITION. The message ports (chapter 11): MEDIA_ENABLE, MEDIA_DISABLE, SET_TIMING_LOCK, STATUS, the dispatch of a
request, and write and read transactions byte by byte.
-/

namespace Sys2Proof.Machine

open Sys2Proof

/-! ### The media port and the timing lock (R169, R170) -/

/-- MEDIA_ENABLE (R169). -/
def serveMediaEnable (q : Port) (s : State) : State × Answer :=
  if q = .media then (s, refuse .notPermitted)
  else ({ s with mediaEnabled := true }, accept (.mediaPort s.mediaEnabled))

/-- MEDIA_ENABLE (R169). -/
def execMediaEnable (q : Port) (tag : Byte) (s : State) : Host.Outcome State Fault Refusal :=
  .next (takeRequest q tag 0x1C (serveMediaEnable q) s)

/-- Both line watch positions of the media port on a panel are emptied (R169, step 4). -/
def dropMediaWatches (x : PanelState) : PanelState := { x with mediaWatch := .empty }

/-- The effect of a MEDIA_DISABLE taken while ENABLED, in the order of R169. -/
def disableMedia (s : State) : State :=
  let s1 := { s with mediaEnabled := false, media := { s.media with queue := [] } }
  let s2 := revokeAll .portDisable (s1.grantsOf .media) s1
  (s2.updPanel .cluster dropMediaWatches).updPanel .centre dropMediaWatches

/-- MEDIA_DISABLE (R169): a DISABLED port changes nothing. -/
def serveMediaDisable (q : Port) (s : State) : State × Answer :=
  if q = .media then (s, refuse .notPermitted)
  else (if s.mediaEnabled then disableMedia s else s, accept (.mediaPort s.mediaEnabled))

/-- MEDIA_DISABLE (R169). -/
def execMediaDisable (q : Port) (tag : Byte) (s : State) : Host.Outcome State Fault Refusal :=
  .next (takeRequest q tag 0x1D (serveMediaDisable q) s)

/-- SET_TIMING_LOCK, by the checks of R170 in order. -/
def serveSetTimingLock (q : Port) (setting : Option Bool) (s : State) : State × Answer :=
  if q = .media then (s, refuse .notPermitted)
  else
    match setting with
    | none => (s, refuse .badParam)
    | some on => ({ s with timingLock := on }, accept (.timingLock s.timingLock))

/-- SET_TIMING_LOCK (R170). -/
def execSetTimingLock (q : Port) (tag : Byte) (setting : Option Bool) (s : State) :
    Host.Outcome State Fault Refusal :=
  .next (takeRequest q tag 0x1E (serveSetTimingLock q setting) s)

/-! ### STATUS (R171) -/

/-- Section 0 of STATUS. The elapsed time is reported in RUNNING (R161). -/
def State.deviceStatus (s : State) : DeviceStatus :=
  { mediaEnabled := s.mediaEnabled
    timingLock := s.timingLock
    supervisorDiscards := s.supervisor.discards
    supervisorLost := s.supervisor.lost
    supervisorQueued := s.supervisor.queue.length
    mediaDiscards := s.media.discards
    mediaLost := s.media.lost
    mediaQueued := s.media.queue.length
    supplyHold := s.supply.hold
    monitor := s.monitor.state
    period := s.monitor.period
    fraction := s.monitor.fraction
    openStart := s.monitor.openStart
    elapsed := if s.monitor.state = .running then some s.monitor.elapsed.toNat else none
    reason := s.monitor.reason
    causes := s.faults
    canvasMisses := s.windows.misses
    supervisorGrants := (s.grantsOf .supervisor).length
    mediaGrants := (s.grantsOf .media).length }

/-- What sections 1 and 2 of STATUS report of a panel. -/
def PanelState.status (x : PanelState) : PanelStatus :=
  { power := x.power.state
    stopPending := x.power.stopPending
    offPending := x.power.offPending
    logicEn := x.power.logicEn
    gateEn := x.power.gateEn
    powerGood := x.power.powerGood
    times := x.power.times
    step := x.power.step.map TimedStep.step
    frame := x.frame.number
    lockState := x.lock.state
    tBase := x.lock.tBase
    glitches := x.lock.glitches
    bandCount := x.bands.records.length
    bMax := x.bands.bMax
    dirtyBands := (x.bands.records.filter Band.dirty).length
    stretched := x.builder.stretched
    late := x.builder.late
    target := x.dimmer.settings.target
    applied := x.dimmer.applied
    cap := x.dimmer.settings.cap
    backlight := x.dimmer.enable }

/-- The items section 1 alone holds (R41, R86). -/
def State.clusterOnly (s : State) : ClusterOnly :=
  { mediaBands := (s.cluster.bands.placed.filter fun b => s.owner .cluster b == .media).length
    mismatchLimit := s.mismatchLimit
    guarded := (guardedIn s.cluster.bands.placed).map fun b =>
      { band := b.index, checked := b.band.expected.isSome, mismatches := b.band.mismatches } }

/-- STATUS (R171). -/
def serveStatus (portion : Nat) (s : State) : State × Answer :=
  match portion with
  | 0 => (s, accept (.deviceStatus s.deviceStatus))
  | 1 => (s, accept (.clusterStatus s.cluster.status s.clusterOnly))
  | 2 =>
    (s, accept (.centreStatus s.centre.status
      { touchDeferred := s.touch.deferred, lateResults := s.touch.lateResults }))
  | _ => (s, refuse .badParam)

/-- STATUS (R171). -/
def execStatus (q : Port) (tag : Byte) (portion : Nat) (s : State) : Host.Outcome State Fault Refusal :=
  .next (takeRequest q tag 0x1F (serveStatus portion) s)

/-! ### Dispatch (R166) -/

/-- The block that owns a request takes it (R166, check 4). -/
def serveRequest (q : Port) : Request → State → State × Answer
  | .panelConfig panel timing => servePanelConfig q panel timing
  | .lockMode panel settings => serveLockMode q panel settings
  | .bandLayout panel bMax bandCount entries => serveBandLayout q panel bMax bandCount entries
  | .damage target rangeCount ranges => serveDamage q target rangeCount ranges
  | .fullRefresh panel => serveFullRefresh q panel
  | .subscribe panel setting => serveSubscribe q panel setting
  | .lineWatch panel position line mode => serveLineWatch q panel position line mode
  | .crcSet band crc limit => serveCrcSet q band crc limit
  | .touchGroups scan groupCount entries => serveTouchGroups scan groupCount entries
  | .touchEnable => serveTouchEnable
  | .touchDisable => serveTouchDisable
  | .freqTable candidates hysteresis hopHold => serveFreqTable candidates hysteresis hopHold
  | .touchRead => serveTouchRead
  | .backlight panel settings => serveBacklight q panel settings
  | .windowOpen window canvasBase panelBase sizeCode limit =>
    serveWindowOpen q window canvasBase panelBase sizeCode limit
  | .windowClose window => serveWindowClose q window
  | .windowRead => serveWindowRead
  | .writeOpen panel first last lifetime => serveWriteOpen q panel first last lifetime
  | .writeClose grant crcs => serveWriteClose q grant crcs
  | .panelOn panel tA tB tC => servePanelOn q panel tA tB tC
  | .panelStart panel => servePanelStart q panel
  | .panelStop panel => servePanelStop q panel
  | .panelOff panel => servePanelOff q panel
  | .superviseStart period fraction => serveSuperviseStart q period fraction
  | .keepalive => serveKeepalive q
  | .recover => serveRecover q
  | .clearFault causes => serveClearFault q causes
  | .mediaEnable => serveMediaEnable q
  | .mediaDisable => serveMediaDisable q
  | .setTimingLock setting => serveSetTimingLock q setting
  | .status portion => serveStatus portion
  | .identify => serveIdentify
  | .resetDevice => serveResetDevice q
  | .profileWrite autoCluster autoCentre => serveProfileWrite q autoCluster autoCentre
  | .profileRead portion => serveProfileRead portion

/-- The kind byte names a request code (R166, check 1). -/
def knownKind (kind : Byte) : Bool := decide (1 ≤ kind.toNat) && decide (kind.toNat ≤ 0x23)

/-- Dispatch of a request that passed its framing (R166). -/
def dispatch (q : Port) (tag kind : Byte) (params : List Byte) (s : State) : State :=
  if knownKind kind = false then placeReply q tag kind (refuse .unknownKind) s
  else if s.portLocks q kind = true then placeReply q tag kind (refuse .portLocked) s
  else
    match requestOf kind params with
    | none => placeReply q tag kind (refuse .badParam) s
    | some r => takeRequest q tag kind (serveRequest q r) s

/-! ### Write transactions (R164) -/

/-- What the bytes after the start byte amount to (R164, checks 3 and 4). -/
inductive Framing where
  /-- a framing outcome, with the tag and kind received -/
  | bad (outcome : OutcomeCode) (tag kind : Byte)
  /-- a correctly framed request -/
  | framed (tag kind : Byte) (params : List Byte)
  deriving DecidableEq, Repr

/-- The byte received in a position, or 0 where the transaction did not reach it (R164). -/
def byteAt (bytes : List Byte) (i : Nat) : Byte := bytes.getD i 0

/-- Judge the bytes after the start byte 0xC3: the length byte, the bytes it counts, the check (R164). -/
def judgeFrame : List Byte → Framing
  | [] => .bad .frameLength 0 0
  | len :: body =>
    let n := len.toNat
    let tag := byteAt body 0
    let kind := byteAt body 1
    if inRange 2 250 n = false ∨ body.length < n + 2 then .bad .frameLength tag kind
    else if frameCheck (len :: body.take n) ≠ fromHighFirst (byteAt body n) (byteAt body (n + 1)) then
      .bad .frameCrc tag kind
    else .framed tag kind ((body.take n).drop 2)

/-- One more first-byte or start-byte failure (R162). -/
def PortState.countDiscard (x : PortState) : PortState := { x with discards := x.discards + 1 }

/-- Judge a write transaction at its release; `rest` is what followed the byte 0x01 (R164). -/
def judgeWrite (q : Port) (rest : List Byte) (s : State) : State :=
  match rest with
  | [] => s
  | start :: rest =>
    if start ≠ 0xC3 then s.updPort q PortState.countDiscard
    else if (s.port q).reply.isSome then s.updPort q PortState.discardRequest
    else
      match judgeFrame rest with
      | .bad outcome tag kind => placeReply q tag kind (refuse outcome) s
      | .framed tag kind params => dispatch q tag kind params s

/-! ### Read transactions (R163, R165) -/

/-- The frame a read shifts out: the pending reply, else the oldest notice, else the idle frame; idle frames in a reset
(R163, R172). -/
def State.readFrame (s : State) (q : Port) : List Byte :=
  if s.inReset then idleFrame
  else
    match (s.port q).reply, (s.port q).queue with
    | some r, _ => replyFrame (s.port q) r
    | none, n :: _ => noticeFrame n
    | none, [] => idleFrame

/-- The pending reply is delivered: it leaves the port, and the lost mark goes when the delivered flags carried it
(R165). The flags of the read were formed from the same mark. -/
def PortState.deliverReply (x : PortState) : PortState := { x with reply := none, lostMark := false }

/-- The reply is that of a RESET_DEVICE taken OK (R178). -/
def Reply.resets (r : Reply) : Bool := r.kind == 0x21 && r.outcome == .ok

/-- Delivery of what the read chose: the reply, with the REQUESTED reset its delivery begins, or the oldest notice
(R163, R165, R178). -/
def deliver (q : Port) (s : State) : State :=
  match (s.port q).reply with
  | some r =>
    let s1 := s.updPort q PortState.deliverReply
    if r.resets then { s1 with resetLogic := { s1.resetLogic with requested := true } } else s1
  | none => s.updPort q fun x => { x with queue := x.queue.tail }

/-- A read in which `n` bytes follow the byte 0x02: the frame is delivered when all of it has been shifted out (R163). -/
def readOut (q : Port) (n : Nat) (s : State) : State :=
  if s.inReset then s else if (s.readFrame q).length ≤ n then deliver q s else s

/-! ### Transactions by their first byte (R163) -/

/-- Note what the port shifted out. -/
def PortState.shift (bytes : List Byte) (x : PortState) : PortState := { x with shiftOut := bytes }

/-- A transaction whose first byte is neither 0x01 nor 0x02: counted, not answered; what it shifts out is a free value
(R163; log entry 8). -/
def rejectTransaction (q : Port) (n : Nat) (s : State) : State :=
  let out := (List.range n).map (Config.rejectedMiso s.free)
  let s1 := { s with free := s.free + 1 }.updPort q (PortState.shift out)
  if s.inReset then s1 else s1.updPort q PortState.countDiscard

/-- A transaction, taken whole when the host releases the port (log entry 7). A selection released before its first
byte is complete is ignored (R163). -/
def transaction (q : Port) (bytes : List Byte) (s : State) : State :=
  match bytes with
  | [] => s
  | first :: rest =>
    if first = 0x01 then
      let s1 := s.updPort q (PortState.shift (List.replicate rest.length 0))
      if s.inReset then s1 else judgeWrite q rest s1
    else if first = 0x02 then
      readOut q rest.length (s.updPort q (PortState.shift (shiftedBytes (s.readFrame q) rest.length)))
    else rejectTransaction q rest.length s

/-- WRITE_TRANSACTION: the host shifts in these bytes (R163, R164). -/
def execWriteTransaction (q : Port) (bytes : List Byte) (s : State) : Host.Outcome State Fault Refusal :=
  .next (transaction q bytes s)

/-- READ_TRANSACTION: the host shifts in these bytes, the first of them 0x02 (R163). -/
def execReadTransaction (q : Port) (bytes : List Byte) (s : State) : Host.Outcome State Fault Refusal :=
  .next (transaction q bytes s)

end Sys2Proof.Machine
end

