-- ==== Sys2Proof/Machine/Events.lean ====
section
/-!
DEFINITION. What the device does on its own while no command waits: it raises one of its events that are due at this
instant, or time advances by one tu (log entries 1, 2 and 3).
-/

namespace Sys2Proof.Machine

open Sys2Proof

/-- The event, when it is due. -/
def dueIf (due : Bool) (e : Instr) : List Instr := if due then [e] else []

/-- The start of the panel's next slot, when it is due (R70). -/
def State.slotEvents (s : State) (p : Panel) : List Instr :=
  match s.slotDue p with
  | none => []
  | some slot =>
    match slot.kind with
    | .refresh _ _ => [.refreshSlotStart p]
    | .skip _ => [.skipSlotStart p]
    | .touch _ _ _ _ _ => [.touchSlotStart]
    | .listen _ _ _ => [.listenSlotStart]

/-- The events of one panel that are due at this instant. -/
def State.panelEvents (s : State) (p : Panel) : List Instr :=
  dueIf (s.buildDue p) (.buildComplete p)
    ++ dueIf (s.slotEndDue p).isSome (.refreshSlotEnd p)
    ++ s.slotEvents p
    ++ dueIf (s.blankDue p) (.blankStart p)
    ++ dueIf (s.edgeDue p) (.pwmEdge p)
    ++ dueIf (s.partnerDue p) (.partnerMarker p)
    ++ dueIf (s.planPointDue p) (.planPoint p)
    ++ dueIf (s.frameEndDue p) (.frameEnd p)
    ++ dueIf (s.stepDue p .gateWait) (.gateWaitExpiry p)
    ++ dueIf (s.stepDue p .settle) (.settleExpiry p (s.panel p).power.powerGood)
    ++ dueIf (s.stepDue p .discharge) (.dischargeExpiry p)

/-- The events of the device as a whole that are due at this instant. -/
def State.deviceEvents (s : State) : List Instr :=
  ((s.grants.records.filter fun g => (s.expiryDue g.id).isSome).map fun g => .grantExpiry g.id)
    ++ ((s.touch.waits.filter fun w => w.deadline == s.count).map fun w => .resultDeadline w.tag)
    ++ dueIf s.periodDue .supervisionPeriodExpiry
    ++ dueIf s.writeDue.isSome .profileWriteDone

/-- The device's own events that are due at this instant. In a reset nothing else runs: a REQUESTED reset begins and
goes on by itself, and the other causes wait for their release (R172, R178). -/
def State.dueEvents (s : State) : List Instr :=
  match s.resetLogic.held with
  | some h => dueIf (h.cause == .requested) .resetRelease
  | none =>
    if s.resetLogic.requested then [.requestedReset]
    else s.panelEvents .cluster ++ s.panelEvents .centre ++ s.deviceEvents

/-- Power-good is ignored in OFF, RAMP and DRAIN, and its level may change there; in READY and SCANNING it changes with
a loss only (R142, R143; log entry 12). -/
def Power.sample (level : Bool) (w : Power) : Power :=
  match w.state with
  | .ready => w
  | .scanning => w
  | _ => { w with powerGood := level }

/-- The elapsed time of a RUNNING period rises by one each tu (R152). -/
def Monitor.tick (m : Monitor) : Monitor :=
  match m.state with
  | .running => { m with elapsed := m.elapsed + 1 }
  | _ => m

/-- One tu passes (R6, R152). -/
def tick (s : State) : State :=
  let s1 := { s with count := s.count.after 1, free := s.free + 1, monitor := s.monitor.tick }
  (s1.updPower .cluster (Power.sample (Config.powerGoodInput .cluster s.free))).updPower .centre
    (Power.sample (Config.powerGoodInput .centre s.free))

/-- The choice of one event among those due at an instant: where the spec lets either be taken first, which one is a
free value (log entry 3). -/
def chooseEvent (n : Nat) (e : Instr) (es : List Instr) : Instr :=
  (e :: es).getD (Config.tieChoice n % (es.length + 1)) e

/-- What the device does while no command waits. -/
def idle (s : State) : State :=
  match s.dueEvents with
  | [] => tick s
  | [e] => { s with pending := [e] }
  | e :: es => { s with free := s.free + 1, pending := [chooseEvent s.free e es] }

end Sys2Proof.Machine
end

