-- ==== Sys2Proof/Machine/Dispatch.lean ====
section
/-!
DEFINITION. Dispatch: one arm per command, each a direct call of its meaning.
-/

namespace Sys2Proof.Machine

open Sys2Proof

def exec (i : Instr) (s : State) : Host.Outcome State Fault Refusal :=
  match i with
  | .writeTransaction port bytes => Sys2Proof.Machine.execWriteTransaction port bytes s
  | .readTransaction port bytes => Sys2Proof.Machine.execReadTransaction port bytes s
  | .panelConfig port tag panel timing => Sys2Proof.Machine.execPanelConfig port tag panel timing s
  | .lockMode port tag panel settings => Sys2Proof.Machine.execLockMode port tag panel settings s
  | .bandLayout port tag panel bMax bandCount entries => Sys2Proof.Machine.execBandLayout port tag panel bMax bandCount entries s
  | .damage port tag target rangeCount ranges => Sys2Proof.Machine.execDamage port tag target rangeCount ranges s
  | .fullRefresh port tag panel => Sys2Proof.Machine.execFullRefresh port tag panel s
  | .subscribe port tag panel setting => Sys2Proof.Machine.execSubscribe port tag panel setting s
  | .lineWatch port tag panel position line mode => Sys2Proof.Machine.execLineWatch port tag panel position line mode s
  | .crcSet port tag band crc limit => Sys2Proof.Machine.execCrcSet port tag band crc limit s
  | .touchGroups port tag scan groupCount entries => Sys2Proof.Machine.execTouchGroups port tag scan groupCount entries s
  | .touchEnable port tag => Sys2Proof.Machine.execTouchEnable port tag s
  | .touchDisable port tag => Sys2Proof.Machine.execTouchDisable port tag s
  | .freqTable port tag candidates hysteresis hopHold => Sys2Proof.Machine.execFreqTable port tag candidates hysteresis hopHold s
  | .touchRead port tag => Sys2Proof.Machine.execTouchRead port tag s
  | .backlight port tag panel settings => Sys2Proof.Machine.execBacklight port tag panel settings s
  | .windowOpen port tag window canvasBase panelBase sizeCode limit => Sys2Proof.Machine.execWindowOpen port tag window canvasBase panelBase sizeCode limit s
  | .windowClose port tag window => Sys2Proof.Machine.execWindowClose port tag window s
  | .windowRead port tag => Sys2Proof.Machine.execWindowRead port tag s
  | .writeOpen port tag panel first last lifetime => Sys2Proof.Machine.execWriteOpen port tag panel first last lifetime s
  | .writeClose port tag grant crcs => Sys2Proof.Machine.execWriteClose port tag grant crcs s
  | .panelOn port tag panel tA tB tC => Sys2Proof.Machine.execPanelOn port tag panel tA tB tC s
  | .panelStart port tag panel => Sys2Proof.Machine.execPanelStart port tag panel s
  | .panelStop port tag panel => Sys2Proof.Machine.execPanelStop port tag panel s
  | .panelOff port tag panel => Sys2Proof.Machine.execPanelOff port tag panel s
  | .superviseStart port tag period fraction => Sys2Proof.Machine.execSuperviseStart port tag period fraction s
  | .keepalive port tag => Sys2Proof.Machine.execKeepalive port tag s
  | .recover port tag => Sys2Proof.Machine.execRecover port tag s
  | .clearFault port tag causes => Sys2Proof.Machine.execClearFault port tag causes s
  | .mediaEnable port tag => Sys2Proof.Machine.execMediaEnable port tag s
  | .mediaDisable port tag => Sys2Proof.Machine.execMediaDisable port tag s
  | .setTimingLock port tag setting => Sys2Proof.Machine.execSetTimingLock port tag setting s
  | .status port tag portion => Sys2Proof.Machine.execStatus port tag portion s
  | .identify port tag => Sys2Proof.Machine.execIdentify port tag s
  | .resetDevice port tag => Sys2Proof.Machine.execResetDevice port tag s
  | .profileWrite port tag autoCluster autoCentre => Sys2Proof.Machine.execProfileWrite port tag autoCluster autoCentre s
  | .profileRead port tag portion => Sys2Proof.Machine.execProfileRead port tag portion s
  | .profileWriteDone => Sys2Proof.Machine.execProfileWriteDone s
  | .planPoint panel => Sys2Proof.Machine.execPlanPoint panel s
  | .buildComplete panel => Sys2Proof.Machine.execBuildComplete panel s
  | .frameEnd panel => Sys2Proof.Machine.execFrameEnd panel s
  | .grantExpiry grant => Sys2Proof.Machine.execGrantExpiry grant s
  | .refreshSlotStart panel => Sys2Proof.Machine.execRefreshSlotStart panel s
  | .refreshSlotEnd panel => Sys2Proof.Machine.execRefreshSlotEnd panel s
  | .skipSlotStart panel => Sys2Proof.Machine.execSkipSlotStart panel s
  | .touchSlotStart => Sys2Proof.Machine.execTouchSlotStart s
  | .listenSlotStart => Sys2Proof.Machine.execListenSlotStart s
  | .blankStart panel => Sys2Proof.Machine.execBlankStart panel s
  | .pwmEdge panel => Sys2Proof.Machine.execPwmEdge panel s
  | .markerEdge panel => Sys2Proof.Machine.execMarkerEdge panel s
  | .partnerMarker panel => Sys2Proof.Machine.execPartnerMarker panel s
  | .bandReport panel frame band crc linkOk => Sys2Proof.Machine.execBandReport panel frame band crc linkOk s
  | .senseResult tag noise saturated linkOk => Sys2Proof.Machine.execSenseResult tag noise saturated linkOk s
  | .resultDeadline tag => Sys2Proof.Machine.execResultDeadline tag s
  | .gateWaitExpiry panel => Sys2Proof.Machine.execGateWaitExpiry panel s
  | .settleExpiry panel powerGood => Sys2Proof.Machine.execSettleExpiry panel powerGood s
  | .dischargeExpiry panel => Sys2Proof.Machine.execDischargeExpiry panel s
  | .powerGoodLoss panel => Sys2Proof.Machine.execPowerGoodLoss panel s
  | .supplyWarningAssert => Sys2Proof.Machine.execSupplyWarningAssert s
  | .supplyWarningRelease => Sys2Proof.Machine.execSupplyWarningRelease s
  | .supervisionPeriodExpiry => Sys2Proof.Machine.execSupervisionPeriodExpiry s
  | .powerOnReset => Sys2Proof.Machine.execPowerOnReset s
  | .brownOutReset => Sys2Proof.Machine.execBrownOutReset s
  | .pinReset => Sys2Proof.Machine.execPinReset s
  | .requestedReset => Sys2Proof.Machine.execRequestedReset s
  | .resetRelease => Sys2Proof.Machine.execResetRelease s

end Sys2Proof.Machine
end

