-- ==== Sys2Proof/Safety.lean ====
section
/-!
DEFINITION. What counts as a legal state, in the terms the statements use: bounds of the queues and of the grant list,
what a DISABLED port and a FAULT monitor leave open, outputs that agree with the power state, blocks that are still while
a panel does not scan, a configuration that the requests' own checks would take, and frame lengths within their limits.
-/

namespace Sys2Proof.Machine

open Sys2Proof

/-! ### Terms of the statements -/

/-- The panel index a request carries for a panel (Conventions). -/
def panelNumber : Panel → Nat
  | .cluster => 0
  | .centre => 1

/-- The port takes a request: no reset is held or due, no reply is pending, and the port is not the DISABLED media port
(R164 check 2, R165, R166 check 2). -/
def State.takes (s : State) (q : Port) : Prop :=
  s.inReset = false ∧ (s.port q).reply = none ∧ (q = .media → s.mediaEnabled = true)

/-- The outcome `o` of checks taken in order: that of the first check that fails, OK when none does. Each check is the
condition that fails it, with its outcome. -/
def FirstFails : List (Prop × OutcomeCode) → OutcomeCode → Prop
  | [], o => o = .ok
  | (bad, code) :: rest, o => (bad ∧ o = code) ∨ (¬bad ∧ FirstFails rest o)

/-- A request answers by its table of checks: the first that fails gives the outcome, with `refusal` of it as results,
and changes nothing else; when none fails the reply is OK, and `ok` says the state taken on and the results. -/
def AnswersWith (q : Port) (tag kind : Byte) (run : Host.Outcome State Fault Refusal) (s : State)
    (checks : List (Prop × OutcomeCode)) (ok : State → Results → Prop)
    (refusal : OutcomeCode → Results := fun _ => .none) : Prop :=
  ∀ o, FirstFails checks o →
    (o = .ok → ∃ t r, ok t r ∧ run = .next (placeReply q tag kind (accept r) t)) ∧
    (o ≠ .ok → run = .next (placeReply q tag kind { outcome := o, results := refusal o } s))

/-- As `AnswersWith`, where an OK request has one next state and one form of results. -/
def AnswersBy (q : Port) (tag kind : Byte) (run : Host.Outcome State Fault Refusal) (s : State)
    (checks : List (Prop × OutcomeCode)) (t : State) (r : Results)
    (refusal : OutcomeCode → Results := fun _ => .none) : Prop :=
  AnswersWith q tag kind run s checks (fun t' r' => t' = t ∧ r' = r) refusal

/-- The first line of band `i`: the line counts of the bands above it (R22). -/
def BandTable.firstLine (t : BandTable) (i : Nat) : Nat := ((t.records.take i).map Band.lines).sum

/-- Line `line` lies in band `i` of the table, whose record is `b` (R23). -/
def BandTable.holdsLine (t : BandTable) (i : Nat) (b : Band) (line : Nat) : Prop :=
  t.firstLine i ≤ line ∧ line < t.firstLine i + b.lines

/-- An OPEN window lends band `i` of the cluster panel, whose record is `b` (R29). -/
def State.lendsBand (s : State) (i : Nat) (b : Band) : Prop :=
  b.cls = .normal ∧ ∃ w, some w ∈ s.windows.slots ∧ w.panelBase ≤ s.cluster.bands.firstLine i ∧
    s.cluster.bands.firstLine i + b.lines ≤ w.panelEnd

/-- Band `i` of a panel, whose record is `b`, has owner MEDIA (R29). -/
def State.mediaBand (s : State) (p : Panel) (i : Nat) (b : Band) : Prop := p = .centre ∨ s.lendsBand i b

/-- Some open grant covers band `i` of the panel (R127). -/
def State.granted (s : State) (p : Panel) (i : Nat) : Prop :=
  ∃ g ∈ s.grants.records, g.panel = p ∧ g.first ≤ i ∧ i ≤ g.last

/-- A notice that names the panel: its header carries the panel's frame number (R6). -/
def State.noticeOf (s : State) (p : Panel) (b : NoticeBody) : Notice :=
  { panel := some p, frame := (s.panel p).frame.number, body := b }

/-- Every band of the record list counted by a property of its index. -/
def CountsBands (n : Nat) (hit : Nat → Prop) (k : Nat) : Prop :=
  ∃ marked : List Nat, marked.Nodup ∧ (∀ i, i ∈ marked ↔ i < n ∧ hit i) ∧ k = marked.length

/-- Post these notices in order, each to its port. -/
def postAll (told : List (Port × Notice)) (s : State) : State := told.foldl (fun s y => post y.1 y.2 s) s

/-- A watch position after the start of the slot of a band with lines `[lo, hi)`: a ONE_SHOT watch of a line in the band
has left it (R85). -/
def watchAfter (lo hi : Nat) (o : Option Watch) : Option Watch :=
  match o with
  | none => none
  | some w => if lo ≤ w.line ∧ w.line < hi ∧ w.mode = .oneShot then none else some w

/-- Both positions after the start of the slot of a band with lines `[lo, hi)`. -/
def WatchPair.after (lo hi : Nat) (x : WatchPair) : WatchPair :=
  { pos0 := watchAfter lo hi x.pos0, pos1 := watchAfter lo hi x.pos1 }

/-- The LINE_REACHED of one position, when its watch's line lies in the band (R85). -/
def reachedAt (p : Panel) (s : State) (lo hi i : Nat) (refreshed : Bool) (q : Port) (position : Nat)
    (o : Option Watch) : List (Port × Notice) :=
  match o with
  | none => []
  | some w =>
    if lo ≤ w.line ∧ w.line < hi then [(q, s.noticeOf p (.lineReached position w.line i refreshed))] else []

/-- The LINE_REACHED notices of a band slot's start, in order of port and position (R85; log entry 16). -/
def State.reached (s : State) (p : Panel) (lo hi i : Nat) (refreshed : Bool) : List (Port × Notice) :=
  reachedAt p s lo hi i refreshed .supervisor 0 (s.panel p).supervisorWatch.pos0 ++
    reachedAt p s lo hi i refreshed .supervisor 1 (s.panel p).supervisorWatch.pos1 ++
    reachedAt p s lo hi i refreshed .media 0 (s.panel p).mediaWatch.pos0 ++
    reachedAt p s lo hi i refreshed .media 1 (s.panel p).mediaWatch.pos1

/-- These grants have ended between `s` and `u`: they left the list, every band of their ranges is dirty, and nothing else
changed (R135, R136). -/
def State.endsGrants (s u : State) (gone : List Grant) : Prop :=
  u.grants = { s.grants with records := s.grants.records.filter fun g => decide (g ∉ gone) } ∧
    (∀ p, (u.panel p).bands.bMax = (s.panel p).bands.bMax ∧
      (u.panel p).bands.records.length = (s.panel p).bands.records.length ∧
      ∀ (i : Nat) (b : Band), (s.panel p).bands.records[i]? = some b →
        (u.panel p).bands.records[i]? = some { b with dirty := b.dirty || gone.any fun g => g.covers p i }) ∧
    u = { s with grants := u.grants, cluster := { s.cluster with bands := u.cluster.bands },
                 centre := { s.centre with bands := u.centre.bands } }

/-- The GRANT_REVOKED notices of these grants, each to its port (R137). -/
def State.revocations (s : State) (reason : RevokeReason) (gone : List Grant) : List (Port × Notice) :=
  gone.map fun g => (g.port, s.noticeOf g.panel (.grantRevoked g.id reason g.state g.held (g.last + 1 - g.first)))

/-- The grants of the list that satisfy `which`, in list order. -/
def State.selects (s : State) (which : Grant → Prop) (gone : List Grant) : Prop :=
  gone.Sublist s.grants.records ∧ ∀ g, g ∈ gone ↔ g ∈ s.grants.records ∧ which g

/-- A panel's own notice with its ports: the cluster's goes to the supervisor port, the centre's to both (R20, R148). -/
def toOwn (p : Panel) (n : Notice) : List (Port × Notice) :=
  match p with
  | .cluster => [(.supervisor, n)]
  | .centre => [(.supervisor, n), (.media, n)]

/-- A notice for both ports. -/
def toBoth (n : Notice) : List (Port × Notice) := [(.supervisor, n), (.media, n)]

/-- A dimmer switched off: what R111 clears and withholds. -/
def Dimmer.darkened (d : Dimmer) : Dimmer :=
  { d with applied := 0, frameDuty := none, darkNow := false, darkNext := false, enable := false, edges := [],
           active := false }

/-- A lock that has ended scanning: settings, T_base and the glitch counter stay (R12; log entry 28). -/
def FrameLock.ended (l : FrameLock) : FrameLock :=
  { settings := l.settings, state := .free, tBase := l.tBase, correction := none, capture := none, previous := none,
    gapRef := none, good := 0, miss := 0, inFlight := [], glitches := l.glitches }

/-- A panel that has ended scanning at once: no frame, no build or ready plan, the sequencer STOPPED, the expectations
cleared, the backlight off, the marks clear (R11, R67, R82, R111, R140). -/
def PanelState.abandoned (x : PanelState) : PanelState :=
  { x with
    frame := { number := x.frame.number, start := none, length := none, next := none }
    lock := x.lock.ended
    builder := { x.builder with build := none, ready := none }
    seq := none
    link := { x.link with expectations := [] }
    dimmer := x.dimmer.darkened
    power := { x.power with stopPending := false, offPending := false } }

/-- The panel has entered DRAIN between `s` and `t` as R147 says: GATE_EN falls, every grant on the panel is revoked,
DISCHARGE starts, PANEL_STATE is posted. -/
def State.drains (s t : State) (p : Panel) (reason : PanelReason) : Prop :=
  ∃ gone u, s.selects (fun g => g.panel = p) gone ∧ s.endsGrants u gone ∧
    (let w := (s.panel p).power
     t = postAll (s.revocations .drain gone ++
          toOwn p (s.noticeOf p (.panelState w.state .drain reason w.logicEn false w.powerGood)))
        (u.setPanel p { u.panel p with power := { w with
          state := .drain, gateEn := false, autostart := false
          step := some { step := .discharge, deadline := s.count.after (w.times.tC * 20000) } } }))

/-- The panel has begun to scan between `s`, where it stands in READY, and `t`, as R144 says: frame 0 of this length starts at
once with every band refreshed at POS, the records are cleared, the lock is FREE or SEEK by its source, and the other panel
may get a partner marker. PANEL_STATE is posted, and FRAME_STRETCHED when the frame is; their order is log entry 16. -/
def State.beginsScan (s t : State) (p : Panel) (length : Nat) : Prop :=
  let x := s.panel p
  let cost := fun (b : Band) => b.lines * x.timing.tLine + x.timing.tSet
  let blank := x.timing.nVb * x.timing.tLine
  let total := (x.bands.records.map cost).sum
  let stretched := decide (x.timing.tNom < total + blank)
  let notice := fun (b : NoticeBody) => ({ panel := some p, frame := 0, body := b } : Notice)
  length = max x.timing.tNom (total + blank) ∧
  ∃ (plan : Plan) (lent : Bool) (told : List (Port × Notice)),
    plan.slots.length = x.bands.records.length ∧ plan.tail = total ∧
    (∀ i (b : Band), x.bands.records[i]? = some b →
      plan.slots[i]? = some ({ start := ((x.bands.records.take i).map cost).sum, cost := cost b,
                               kind := .refresh i .pos } : Slot)) ∧
    (lent = true ↔ p = .centre ∨ ∃ i b, x.bands.records[i]? = some b ∧ s.lendsBand i b) ∧
    told = toOwn p (notice (.panelState .ready .scanning .request x.power.logicEn x.power.gateEn x.power.powerGood))
      ++ (if stretched then
          (if p = .cluster then [(.supervisor, notice (.frameStretched x.timing.tNom length false))] else []) ++
            (if lent then [(.media, notice (.frameStretched x.timing.tNom length false))] else [])
        else []) ∧
    (let o := s.panel (otherPanel p)
     let paired := o.power.state = .scanning ∧ o.lock.settings.source = .partner
     let marked := if paired then
         { o.lock with inFlight := insertDue s.count (s.count.after o.lock.settings.partnerOffset) o.lock.inFlight }
       else o.lock
     t = postAll told ((s.setPanel p { x with
        frame := { number := 0, start := some s.count, length := some length, next := none }
        lock := { x.lock.ended with
          state := if x.lock.settings.source = .none then .free else .seek, tBase := x.timing.tNom }
        bands := { x.bands with
          records := x.bands.records.map fun b => { b with dirty := false, hold := 0, balance := 0 } }
        builder := { x.builder with stretched := x.builder.stretched + (if stretched then 1 else 0) }
        seq := some
          { plan := plan, position := 0, blankAt := length - blank, blankBegun := false, driving := [],
            refreshed := 0, touches := 0, deferred := 0, stretched := stretched, late := false }
        link := { x.link with lastCommand := some (.frame 0 .pos length) }
        power := { x.power with
          state := .scanning, stopPending := false, offPending := false, autostart := false } }).setPanel
        (otherPanel p) { o with lock := marked }))

/-- Window `i` and those after it, whose contents are listed, are closed in order of index on the entry into FAULT
(R124, R156). `before` are the media grants that earlier closes revoked, `gone` those that all closes revoke; `told` are
the notices: for each OPEN window GRANT_REVOKED for every media grant left that covers a band it lends (in the order of the
grant list, log entry 16), then WINDOW_CLOSED (R122, R123). -/
def State.closesFrom (s : State) :
    Nat → List (Option Window) → List Grant → List Grant → List (Port × Notice) → Prop
  | _, [], before, gone, told => gone = before ∧ told = []
  | i, none :: rest, before, gone, told => s.closesFrom (i + 1) rest before gone told
  | i, some w :: rest, before, gone, told =>
    let lends := fun (j : Nat) => ∃ b, s.cluster.bands.records[j]? = some b ∧ b.cls = .normal ∧
      w.panelBase ≤ s.cluster.bands.firstLine j ∧ s.cluster.bands.firstLine j + b.lines ≤ w.panelEnd
    ∃ revoked returned later,
      s.selects (fun g => g.port = .media ∧ g.panel = .cluster ∧ g ∉ before ∧
        ∃ j, g.first ≤ j ∧ j ≤ g.last ∧ lends j) revoked ∧
      CountsBands s.cluster.bands.records.length lends returned ∧
      told = s.revocations .supervisionFault revoked ++
        (Port.media, s.noticeOf .cluster
          (.windowClosed i .fault w.canvasBase w.panelBase w.panelEnd returned revoked.length)) :: later ∧
      s.closesFrom (i + 1) rest (before ++ revoked) gone later

/-- The monitor has entered FAULT between `s` and `t` as R156 says: the state and reason, the SUPERVISION cause, every
window closed with its notices, every media grant on a lent band revoked, and, when the cause was clear,
SUPERVISION_FAULT last. -/
def State.failsOver (s t : State) (reason : FaultReason) (elapsed : Nat) : Prop :=
  ∃ gone u told opened,
    s.closesFrom 0 s.windows.slots [] gone told ∧ s.endsGrants u gone ∧
    CountsBands 4 (fun i => ∃ w, s.windows.slots[i]? = some (some w)) opened ∧
    (let n : Notice :=
      { panel := none, frame := 0,
        body := .supervisionFault reason elapsed opened gone.length s.cluster.frame.number }
     t = postAll (told ++ if s.faults.supervision = true then [] else toBoth n) { u with
      monitor := { s.monitor with state := .fault, reason := some reason, start := none }
      faults := { s.faults with supervision := true }
      windows := { s.windows with slots := [none, none, none, none] } })

/-- The entries of the cluster's expectation list name different bands (R76). -/
def State.expectationsApart (s : State) : Prop := (s.cluster.link.expectations.map Expectation.band).Nodup

/-- A missing report for this entry takes its band's mismatch count to the limit (R78, R79). -/
def State.missesToLimit (s : State) (y : Expectation) : Prop :=
  ∃ b, s.cluster.bands.records[y.band]? = some b ∧ s.mismatchLimit ≤ b.mismatches + 1

/-- The INTEGRITY_FAULT of a frame end of panel `p`: none where the cause was set or no missing report reaches the limit;
else that of the first entry that does, without a CRC received (R79, R80; which is the first is log entry 16). -/
def State.missingTold (s : State) (p : Panel) (told : List (Port × Notice)) : Prop :=
  ((p = .centre ∨ s.faults.integrity = true ∨ ∀ y ∈ s.cluster.link.expectations, ¬s.missesToLimit y) → told = []) ∧
  (p = .cluster → s.faults.integrity = false → ∀ before y after b,
    s.cluster.link.expectations = before ++ y :: after → (∀ z ∈ before, ¬s.missesToLimit z) →
    s.cluster.bands.records[y.band]? = some b → s.mismatchLimit ≤ b.mismatches + 1 →
    told = [(.supervisor,
      s.noticeOf .cluster (.integrityFault y.frame y.band y.crc none (min (b.mismatches + 1) s.mismatchLimit)))])

/-- The frame-end work of every block but the dimmer, at the end of a frame of panel `p` of this length that ran `e`
(3.7): `u` is the state after it, the notices apart, and `told` are its notices in order (log entry 16). Bands the plan
skipped are held one frame longer (R35); grants on the panel are held one frame longer or expire (R135); ages and frames
since the last hop rise (R64); entries left count as mismatches (R79); FRAME_REPORT goes to each subscriber (R65). -/
def State.endsFrame (s u : State) (p : Panel) (e : Executing) (length : Nat) (told : List (Port × Notice)) : Prop :=
  ∃ (gone : List Grant) (records : List Band) (integrity : Bool) (missing : List (Port × Notice)),
    s.selects (fun g => g.panel = p ∧ g.lifetime ≤ g.held + 1) gone ∧ s.missingTold p missing ∧
    (integrity = true ↔ s.faults.integrity = true ∨
      (p = .cluster ∧ ∃ y ∈ s.cluster.link.expectations, s.missesToLimit y)) ∧
    (let x := s.panel p
     let missed := fun (i : Nat) => decide (p = .cluster) && x.link.expectations.any fun y => y.band == i
     let report := s.noticeOf p (.frameReport length e.stretched e.late e.refreshed e.touches e.deferred)
     records.length = x.bands.records.length ∧
     (∀ i (b : Band), x.bands.records[i]? = some b → records[i]? = some { b with
       hold := if e.plan.skipsBand i = true then min (b.hold + 1) b.holdLimit else b.hold
       dirty := b.dirty || gone.any fun g => g.covers p i
       mismatches := if missed i = true then min (b.mismatches + 1) s.mismatchLimit else b.mismatches }) ∧
     told = (gone.map fun g =>
         (g.port, s.noticeOf p (.grantExpired g.id g.state (g.held + 1) (g.last + 1 - g.first)))) ++ missing ++
       (if x.builder.subSupervisor = true then [(.supervisor, report)] else []) ++
       (if x.builder.subMedia = true then [(.media, report)] else []) ∧
     u = { s.setPanel p { x with
         bands := { x.bands with records := records }
         link := { x.link with expectations := if p = .cluster then [] else x.link.expectations } } with
       grants := { s.grants with
         records := (s.grants.records.filter fun g => decide (g ∉ gone)).map fun g =>
           if g.panel = p then { g with held := g.held + 1 } else g }
       touch :=
         if p = .centre then
           { s.touch with
             groups := s.touch.groups.map fun g => { g with age := min (g.age + 1) 255 }
             sinceHop := min (s.touch.sinceHop + 1) 255 }
         else s.touch
       faults := { s.faults with integrity := integrity } })

/-- A notice of a plan: the cluster's to the supervisor port, and to the media port when a band was lent; the centre's to
the media port (R63). -/
def toPlan (p : Panel) (lent : Bool) (n : Notice) : List (Port × Notice) :=
  (if p = .cluster then [(.supervisor, n)] else []) ++
    (if p = .centre ∨ lent = true then [(.media, n)] else [])

/-- Candidate `i` of the frequency table is ALLOWED (R96). -/
def Touch.allows (t : Touch) (i : Nat) (c : Candidate) : Prop := t.candidates[i]? = some c ∧ c.permission = .allowed

/-- Candidate `i` has the lowest average among the ALLOWED candidates that satisfy `ok`, ties to the lowest index (R99). -/
def Touch.quietest (t : Touch) (ok : Nat → Prop) (i : Nat) (c : Candidate) : Prop :=
  t.allows i c ∧ ok i ∧ ∀ j d, t.allows j d → ok j → c.average < d.average ∨ (c.average = d.average ∧ i ≤ j)

/-- The port, tag and request of a request row. -/
def requestOfInstr : Instr → Option (Port × Byte × Request)
  | .panelConfig q tag panel timing => some (q, tag, .panelConfig panel timing)
  | .lockMode q tag panel settings => some (q, tag, .lockMode panel settings)
  | .bandLayout q tag panel bMax bandCount entries => some (q, tag, .bandLayout panel bMax bandCount (.all entries))
  | .damage q tag target rangeCount ranges => some (q, tag, .damage target rangeCount (.all ranges))
  | .fullRefresh q tag panel => some (q, tag, .fullRefresh panel)
  | .subscribe q tag panel setting => some (q, tag, .subscribe panel setting)
  | .lineWatch q tag panel position line mode => some (q, tag, .lineWatch panel position line mode)
  | .crcSet q tag band crc limit => some (q, tag, .crcSet band crc limit)
  | .touchGroups q tag scan groupCount entries => some (q, tag, .touchGroups scan groupCount (.all entries))
  | .touchEnable q tag => some (q, tag, .touchEnable)
  | .touchDisable q tag => some (q, tag, .touchDisable)
  | .freqTable q tag candidates hysteresis hopHold => some (q, tag, .freqTable candidates hysteresis hopHold)
  | .touchRead q tag => some (q, tag, .touchRead)
  | .backlight q tag panel settings => some (q, tag, .backlight panel settings)
  | .windowOpen q tag window canvasBase panelBase sizeCode limit =>
    some (q, tag, .windowOpen window canvasBase panelBase sizeCode limit)
  | .windowClose q tag window => some (q, tag, .windowClose window)
  | .windowRead q tag => some (q, tag, .windowRead)
  | .writeOpen q tag panel first last lifetime => some (q, tag, .writeOpen panel first last lifetime)
  | .writeClose q tag grant crcs => some (q, tag, .writeClose grant (.all crcs))
  | .panelOn q tag panel tA tB tC => some (q, tag, .panelOn panel tA tB tC)
  | .panelStart q tag panel => some (q, tag, .panelStart panel)
  | .panelStop q tag panel => some (q, tag, .panelStop panel)
  | .panelOff q tag panel => some (q, tag, .panelOff panel)
  | .superviseStart q tag period fraction => some (q, tag, .superviseStart period fraction)
  | .keepalive q tag => some (q, tag, .keepalive)
  | .recover q tag => some (q, tag, .recover)
  | .clearFault q tag causes => some (q, tag, .clearFault causes)
  | .mediaEnable q tag => some (q, tag, .mediaEnable)
  | .mediaDisable q tag => some (q, tag, .mediaDisable)
  | .setTimingLock q tag setting => some (q, tag, .setTimingLock setting)
  | .status q tag portion => some (q, tag, .status portion)
  | .identify q tag => some (q, tag, .identify)
  | .resetDevice q tag => some (q, tag, .resetDevice)
  | .profileWrite q tag autoCluster autoCentre => some (q, tag, .profileWrite autoCluster autoCentre)
  | .profileRead q tag portion => some (q, tag, .profileRead portion)
  | .writeTransaction _ _ => none
  | .readTransaction _ _ => none
  | .profileWriteDone => none
  | .planPoint _ => none
  | .buildComplete _ => none
  | .frameEnd _ => none
  | .grantExpiry _ => none
  | .refreshSlotStart _ => none
  | .refreshSlotEnd _ => none
  | .skipSlotStart _ => none
  | .touchSlotStart => none
  | .listenSlotStart => none
  | .blankStart _ => none
  | .pwmEdge _ => none
  | .markerEdge _ => none
  | .partnerMarker _ => none
  | .bandReport _ _ _ _ _ => none
  | .senseResult _ _ _ _ => none
  | .resultDeadline _ => none
  | .gateWaitExpiry _ => none
  | .settleExpiry _ _ => none
  | .dischargeExpiry _ => none
  | .powerGoodLoss _ => none
  | .supplyWarningAssert => none
  | .supplyWarningRelease => none
  | .supervisionPeriodExpiry => none
  | .powerOnReset => none
  | .brownOutReset => none
  | .pinReset => none
  | .requestedReset => none
  | .resetRelease => none

/-! ### Ports -/

/-- Neither notice queue holds more than 32 notices (R167). -/
def State.queuesBounded (s : State) : Prop :=
  s.supervisor.queue.length ≤ Config.queueLimit ∧ s.media.queue.length ≤ Config.queueLimit

/-- A DISABLED media port holds no open grant and no line watch (R169). -/
def State.disabledHoldsNothing (s : State) : Prop :=
  s.mediaEnabled = false →
    (∀ g ∈ s.grants.records, g.port = .supervisor) ∧ s.cluster.mediaWatch = .empty ∧ s.centre.mediaWatch = .empty

/-! ### Windows, grants, supervision -/

/-- The window table holds four windows, and in FAULT every one is CLOSED and the SUPERVISION cause is set (R115, R156,
R160). -/
def State.fallbackHolds (s : State) : Prop :=
  s.windows.slots.length = 4 ∧
    (s.monitor.state = .fault → (∀ o ∈ s.windows.slots, o = none) ∧ s.faults.supervision = true)

/-- No two of these grants cover a common band of one panel (R129). -/
def grantsApart (a b : Grant) : Prop := a.panel = b.panel → a.last < b.first ∨ b.last < a.first

/-- Two grants have different ids (R128). -/
def idsApart (a b : Grant) : Prop := a.id ≠ b.id

/-- At most 8 grants and at most 4 of one port, with different ids in 1..255, none covering a band of another, each with
fewer frames held than its lifetime limit; the next id is in 1..255 and names no open grant (R127..R129, R135). -/
def State.grantsLegal (s : State) : Prop :=
  s.grants.records.length ≤ Config.grantLimit ∧
    (∀ q, (s.grantsOf q).length ≤ Config.grantPortLimit) ∧
    s.grants.records.Pairwise idsApart ∧
    s.grants.records.Pairwise grantsApart ∧
    (∀ g ∈ s.grants.records, 1 ≤ g.id ∧ g.id ≤ 255 ∧ g.first ≤ g.last ∧ g.held < g.lifetime ∧ g.lifetime ≤ 63) ∧
    1 ≤ s.grants.nextId ∧ s.grants.nextId ≤ 255 ∧ ∀ g ∈ s.grants.records, g.id ≠ s.grants.nextId

/-- Every band under an open media grant on the cluster panel is lent by an OPEN window (R129, R136). -/
def State.mediaGrantsLent (s : State) : Prop :=
  s.windows.slots.length = 4 ∧
    ∀ g ∈ s.grants.records, g.port = .media → ∀ b ∈ s.cluster.bands.placed,
      g.covers .cluster b.index = true → lentBy s.windows.slots b = true

/-! ### Power and scanning -/

/-- The step in progress, without its deadline. -/
def Power.stepKind (w : Power) : Option PowerStep := w.step.map TimedStep.step

/-- The enable outputs and the step agree with the power state (R140, R142, R147). -/
def Power.outputsLegal (w : Power) : Prop :=
  match w.state with
  | .off => w.logicEn = false ∧ w.gateEn = false ∧ w.stepKind = none
  | .ramp =>
    w.logicEn = true ∧
      (w.gateEn = false ∧ w.stepKind = some .gateWait ∨ w.gateEn = true ∧ w.stepKind = some .settle)
  | .ready => w.logicEn = true ∧ w.gateEn = true ∧ w.stepKind = none
  | .scanning => w.logicEn = true ∧ w.gateEn = true ∧ w.stepKind = none
  | .drain => w.logicEn = true ∧ w.gateEn = false ∧ w.stepKind = some .discharge

/-- Stop pending and off pending are set only in SCANNING, off pending only with stop pending; an autostart mark is held
only in RAMP (R140, R146, R176). -/
def Power.marksLegal (w : Power) : Prop :=
  (w.stopPending = true → w.state = .scanning) ∧ (w.offPending = true → w.stopPending = true) ∧
    (w.autostart = true → w.state = .ramp)

/-- The power sequencer of each panel is legal. -/
def State.powerLegal (s : State) : Prop :=
  ∀ p, (s.panel p).power.outputsLegal ∧ (s.panel p).power.marksLegal

/-- The backlight is off: duty 0, no frame duty, no mark, enable deasserted, no edge to come, off level (R110, R111). -/
def Dimmer.dark (d : Dimmer) : Prop :=
  d.applied = 0 ∧ d.frameDuty = none ∧ d.darkNow = false ∧ d.darkNext = false ∧ d.enable = false ∧ d.edges = [] ∧
    d.active = false

/-- What runs while a panel is SCANNING, and what is still while it is not (R6, R12, R67, R68, R110, R111). -/
def PanelState.scanLegal (x : PanelState) : Prop :=
  (x.power.state = .scanning →
    x.frame.start.isSome = true ∧ x.frame.length.isSome = true ∧ x.seq.isSome = true ∧
      (x.lock.state = .free ↔ x.lock.settings.source = .none)) ∧
  (x.power.state ≠ .scanning →
    x.frame.start = none ∧ x.frame.length = none ∧ x.frame.next = none ∧ x.seq = none ∧ x.builder.build = none ∧
      x.builder.ready = none ∧ x.lock.state = .free ∧ x.lock.inFlight = []) ∧
  (x.power.state ≠ .scanning ∨ x.power.stopPending = true → x.dimmer.dark)

/-- Both panels scan or stand still as their power states say. -/
def State.scanLegal (s : State) : Prop := ∀ p, (s.panel p).scanLegal

/-! ### Band records -/

/-- No hold count exceeds its band's hold limit (R35). -/
def State.holdsBounded (s : State) : Prop :=
  ∀ p, ∀ b ∈ (s.panel p).bands.records, b.hold ≤ b.holdLimit

/-- Every polarity balance stays within −B_max..B_max of its panel (R36). -/
def State.balancesBounded (s : State) : Prop :=
  ∀ p, ∀ b ∈ (s.panel p).bands.records, |b.balance| ≤ ((s.panel p).bands.bMax : Int)

/-! ### The configuration -/

/-- The items of one panel are such as its requests take: R2, R3, R4, R13, R25, R106, R142. -/
def PanelProfile.legal (x : PanelProfile) : Prop :=
  timingInRange x.timing = true ∧
    x.timing.tMin ≤ x.timing.tNom ∧ x.timing.tNom ≤ x.timing.tMax ∧ leadTime x.timing < x.timing.tMin ∧
    x.timing.tSkip ≤ x.timing.tSet ∧
    (x.lock.source = .partner → x.lock.partnerOffset < x.timing.tMax) ∧
    x.lock.slewLimit ≤ 65535 ∧ x.lock.lockWindow ≤ 65535 ∧ inRange 1 15 x.lock.missLimit = true ∧
    inRange 1 7 x.bMax = true ∧ inRange 1 32 x.bands.length = true ∧
    (∀ b ∈ x.bands, 8 ≤ b.lines ∧ inRange 1 15 b.holdLimit = true) ∧
    (x.bands.map BandSpec.lines).sum = x.timing.nAct ∧
    fullRefreshCost x.timing (x.bands.map BandSpec.lines) ≤ x.timing.tMax ∧
    x.dimmer.target ≤ 1024 ∧ inRange 1 1024 x.dimmer.ramp = true ∧ inRange 1 16 x.dimmer.periods = true ∧
    x.dimmer.cap ≤ 1024 ∧
    inRange 1 255 x.times.tA = true ∧ inRange 1 255 x.times.tB = true ∧ inRange 1 255 x.times.tC = true

/-- The touch and frequency items are such as TOUCH_GROUPS and FREQ_TABLE take, the groups with different ids in order of id
ascending (R87, R89, R97). -/
def TouchProfile.legal (x : TouchProfile) : Prop :=
  inRange 1 16 x.groups.length = true ∧
    (∀ g ∈ x.groups, g.id ≤ 15 ∧ inRange 1 8 g.interval = true ∧ inRange 8 255 g.bursts = true) ∧
    x.groups.Pairwise (fun g h => g.id < h.id) ∧
    x.scan.tGuard ≤ 1023 ∧ inRange 8 64 x.scan.listenBursts = true ∧ x.scan.edgeGuard ≤ 4095 ∧
    inRange 50 5000 x.scan.timeout = true ∧
    x.freqs.length = 6 ∧ (∀ c ∈ x.freqs, inRange 40 400 c.period = true) ∧
    (∃ c ∈ x.freqs, c.permission = .allowed) ∧
    x.hysteresis ≤ 8192 ∧ inRange 1 255 x.hopHold = true ∧ x.active ≤ 5

/-- The general items are such as CRC_SET and SUPERVISE_START take (R81, R153). -/
def GeneralProfile.legal (x : GeneralProfile) : Prop :=
  inRange 1 7 x.mismatchLimit = true ∧ inRange 10 2000 x.defPeriod = true ∧
    (x.defFraction = 25 ∨ x.defFraction = 50 ∨ x.defFraction = 75 ∨ x.defFraction = 100)

/-- A whole configuration is such as the requests take; the two panels do not both take PARTNER, and no centre band is
PROTECTED (R13, R25). -/
def Profile.legal (x : Profile) : Prop :=
  x.general.legal ∧ x.cluster.legal ∧ x.centre.legal ∧ x.touch.legal ∧
    ¬(x.cluster.lock.source = .partner ∧ x.centre.lock.source = .partner) ∧
    ∀ b ∈ x.centre.bands, b.cls = .normal

/-- The live configuration, a stored record, and the copy of a write in flight are legal (R175, R177). -/
def State.configLegal (s : State) : Prop :=
  (s.liveProfile false false).legal ∧
    (∀ r, s.profile.stored = some r → r.items.legal) ∧
    ∀ w, s.profile.writing = some w → w.copy.legal

/-! ### Frame lengths -/

/-- A length within the panel's limits (R10). -/
def PanelState.lengthLegal (x : PanelState) (n : Nat) : Prop := x.timing.tMin ≤ n ∧ n ≤ x.timing.tMax

/-- While a panel scans, its frame length, the next length, T_base and the length of the plan made ready lie within
[T_min, T_max], and a build works on the panel's own timing and bands (R10, R17, R19, R44). -/
def PanelState.framesLegal (x : PanelState) : Prop :=
  x.power.state = .scanning →
    (∀ n, x.frame.length = some n → x.lengthLegal n) ∧
    (∀ n, x.frame.next = some n → x.lengthLegal n) ∧
    x.lengthLegal x.lock.tBase ∧
    (∀ r, x.builder.ready = some r → x.lengthLegal r.length) ∧
    ∀ b, x.builder.build = some b →
      b.snapshot.timing = x.timing ∧ b.snapshot.lineCounts = x.bands.records.map Band.lines ∧
        x.lengthLegal b.snapshot.length

/-- Every frame of either panel has a length within its limits, over a legal configuration (R4, R10). -/
def State.framesLegal (s : State) : Prop := s.configLegal ∧ ∀ p, (s.panel p).framesLegal

/-! ### Plans and balances -/

/-- The bands that these slots refresh, in order. -/
def refreshedBands (slots : List Slot) : List Nat :=
  slots.filterMap fun x =>
    match x.kind with
    | .refresh i _ => some i
    | _ => none

/-- Slots that can run in a frame of this length: in order of start, each starting before its end, no band refreshed
twice (R59). -/
def slotsRunIn (slots : List Slot) (length : Nat) : Prop :=
  (refreshedBands slots).Nodup ∧ slots.Pairwise (fun x y => x.start ≤ y.start) ∧ ∀ x ∈ slots, x.start < length

/-- The slots of the executing plan that are still to start (R68). -/
def PanelState.toCome (x : PanelState) : List Slot :=
  match x.seq with
  | none => []
  | some e => e.plan.slots.drop e.position

/-- +1 while the frame in progress is POS, −1 while it is NEG (R9, R34). -/
def PanelState.sign (x : PanelState) : Int := if x.frame.number.toNat % 2 = 0 then 1 else -1

/-- The balance that band `i`, whose record is `b`, has at the end of the frame in progress (R45). -/
def PanelState.projected (x : PanelState) (i : Nat) (b : Band) : Int :=
  if i ∈ refreshedBands x.toCome then b.balance + x.sign else b.balance

/-- While the panel scans: the slots to come lie ahead and within the frame; the plan point lies ahead, or the next length
is fixed and its plan is ready or in build; and neither the executing plan, nor the ready plan, nor one built from the
snapshot carries a balance out of its bound (R36, R44, R45, R48, R60, R61). -/
def PanelState.plansLegal (x : PanelState) (now : Tick) : Prop :=
  x.power.state = .scanning → ∀ start length, x.frame.start = some start → x.frame.length = some length →
    let passed := now.since start
    passed ≤ length ∧ slotsRunIn x.toCome length ∧ (∀ slot ∈ x.toCome, passed ≤ slot.start) ∧
    (∀ i ∈ refreshedBands x.toCome, ∀ b, x.bands.records[i]? = some b →
      |b.balance + x.sign| ≤ (x.bands.bMax : Int)) ∧
    (x.power.stopPending = false → x.frame.next = none → passed + leadTime x.timing ≤ length) ∧
    (x.frame.next ≠ none → x.builder.ready ≠ none ∨ ∃ y, x.builder.build = some y ∧ y.frameLate = false) ∧
    (∀ r, x.builder.ready = some r → slotsRunIn r.plan.slots r.length ∧
      ∀ i ∈ refreshedBands r.plan.slots, ∀ b, x.bands.records[i]? = some b →
        |x.projected i b - x.sign| ≤ (x.bands.bMax : Int)) ∧
    ∀ y, x.builder.build = some y → y.frameLate = false →
      y.snapshot.number = x.frame.number + 1 ∧ y.snapshot.bMax = x.bands.bMax ∧
        ∀ i b, x.bands.records[i]? = some b →
          ∃ z, y.snapshot.bands[i]? = some z ∧ z.balance = x.projected i b

/-- Both panels are OFF while a reset is held (R172), and the plans of both are legal. -/
def State.plansLegal (s : State) : Prop :=
  (s.resetLogic.held ≠ none → ∀ p, (s.panel p).power.state = .off) ∧ ∀ p, (s.panel p).plansLegal s.count

end Sys2Proof.Machine
end

