-- ==== Sys2Proof/Certificates/Slice0/Obligations.lean ====
section
/-!
DEFINITION. The statements for the provers. A request is stated by its checks in the order of its rule: `FirstFails`
gives the outcome of a list of checks, each written as the condition that fails it. What a request or an event leaves
unchanged is said by an equation for the whole next state.
-/

section

open Sys2Proof Sys2Proof.Machine

/-! ### The queue and the state after reset -/

/-- A step takes the command at the front of the queue, with the queue's rest left waiting. -/
def Obligations.FrontCommandIsTaken : Prop :=
  ∀ (s : State) (c : Instr) (rest : List Instr), s.pending = c :: rest →
    step s = exec c { s with pending := rest }

/-- On an empty queue one of the device's due events joins the queue, and, when none is due, one tu passes: the count
and the elapsed time of a RUNNING period rise by one, and power-good moves only in a state that ignores it, and so
never in READY or SCANNING. The model's choice, log entries 1, 3 and 12. -/
def Obligations.EmptyQueueRaisesEventOrTick : Prop :=
  ∀ s : State, s.pending = [] →
    (s.dueEvents ≠ [] → ∃ e ∈ s.dueEvents, ∃ t, step s = .next t ∧ t = { s with pending := [e], free := t.free }) ∧
    (s.dueEvents = [] → ∃ t, step s = .next t ∧ t.count = s.count + 1 ∧
      t.monitor = { s.monitor with
        elapsed := if s.monitor.state = .running then s.monitor.elapsed + 1 else s.monitor.elapsed } ∧
      (∀ p, (s.panel p).power.state = .ready ∨ (s.panel p).power.state = .scanning →
        (t.panel p).power.powerGood = (s.panel p).power.powerGood) ∧
      t = { s with count := t.count, free := t.free, monitor := t.monitor,
                   cluster := { s.cluster with power := { s.cluster.power with powerGood := t.cluster.power.powerGood } },
                   centre := { s.centre with power := { s.centre.power with powerGood := t.centre.power.powerGood } } })

/-- The legal states of the statements below hold right after reset. -/
def Obligations.ResetStateIsLegal : Prop :=
  State.reset.queuesBounded ∧ State.reset.disabledHoldsNothing ∧ State.reset.fallbackHolds ∧
    State.reset.grantsLegal ∧ State.reset.mediaGrantsLent ∧ State.reset.powerLegal ∧ State.reset.scanLegal ∧
    State.reset.holdsBounded ∧ State.reset.configLegal ∧ State.reset.framesLegal ∧ State.reset.expectationsApart ∧
    State.reset.balancesBounded ∧ State.reset.plansLegal

/-! ### Ports -/

/-- Every request row meets its port first: while a reply is pending the request is discarded, counted, and the reply
gains its discard mark; from a DISABLED media port every kind but IDENTIFY (0x20) and STATUS (0x1F) is answered
PORT_LOCKED. Nothing else changes. -/
def Obligations.RequestsMeetTheirPortFirst : Prop :=
  ∀ (i : Instr) (q : Port) (tag : Byte) (r : Request) (s : State),
    requestOfInstr i = some (q, tag, r) → s.inReset = false →
    (∀ reply, (s.port q).reply = some reply →
      exec i s = .next (s.setPort q
        { s.port q with discards := (s.port q).discards + 1, reply := some { reply with discardMark := true } })) ∧
    ((s.port q).reply = none → q = .media → s.mediaEnabled = false → r.code ≠ 0x20 → r.code ≠ 0x1F →
      exec i s = .next (s.setPort q
        { s.port q with
          reply := some { tag := tag, kind := r.code, outcome := .portLocked, results := .none, discardMark := false } }))

/-- A write transaction (first byte 0x01) by the checks of R164 in order: a start byte other than 0xC3 is counted and
nothing else, a release after the first byte alone does nothing, a pending reply discards the request, an incomplete or
ill-sized frame is answered FRAME_LENGTH, a wrong check FRAME_CRC, and a frame that passes all four is dispatched. A
selection released before its first byte is complete changes nothing (R163). -/
def Obligations.WriteTransactionIsJudgedInOrder : Prop :=
  ∀ (q : Port) (s : State), s.inReset = false →
    let shifted := fun (n : Nat) => s.updPort q fun x => { x with shiftOut := List.replicate n 0 }
    exec (.writeTransaction q []) s = .next s ∧
    exec (.writeTransaction q [0x01]) s = .next (shifted 0) ∧
    (∀ (start : Byte) (rest : List Byte), start ≠ 0xC3 →
      exec (.writeTransaction q (0x01 :: start :: rest)) s =
        .next ((shifted (rest.length + 1)).updPort q fun x => { x with discards := x.discards + 1 })) ∧
    (∀ (rest : List Byte) (reply : Reply), (s.port q).reply = some reply →
      exec (.writeTransaction q (0x01 :: 0xC3 :: rest)) s =
        .next ((shifted (rest.length + 1)).updPort q fun x =>
          { x with discards := x.discards + 1, reply := some { reply with discardMark := true } })) ∧
    ((s.port q).reply = none →
      exec (.writeTransaction q [0x01, 0xC3]) s =
        .next (placeReply q 0 0 (refuse .frameLength) (shifted 1)) ∧
      ∀ (len : Byte) (body : List Byte),
        let done := fun (t : State) => exec (.writeTransaction q (0x01 :: 0xC3 :: len :: body)) s = .next t
        let n := len.toNat
        let t0 := shifted (body.length + 2)
        let tag := body.getD 0 0
        let kind := body.getD 1 0
        let complete := 2 ≤ n ∧ n ≤ 250 ∧ n + 2 ≤ body.length
        let checked := frameCheck (len :: body.take n) = fromHighFirst (body.getD n 0) (body.getD (n + 1) 0)
        (¬complete → done (placeReply q tag kind (refuse .frameLength) t0)) ∧
        (complete → ¬checked → done (placeReply q tag kind (refuse .frameCrc) t0)) ∧
        (complete → checked → done (dispatch q tag kind ((body.take n).drop 2) t0)))

/-- Parameters fit a kind by their number of bytes alone: a kind without parameters none, a kind of fixed length one length, a
kind with a list any number, since its count is the owning block's own to check; the list is carried whole exactly when
the bytes are the fixed ones and those of its entries. How long each is is free (log entry 5). Dispatch in the order of R166: an
unknown kind, a DISABLED media port, parameters that do not fit the kind, and else the same taking as that of the request's
own row. A list that is not carried whole is refused by the owning block where it checks the count, after the checks it takes
before: as the row with a count of 0, which no list admits, and for WRITE_CLOSE after NO_GRANT. -/
def Obligations.DispatchInOrder : Prop :=
  (∃ fixed entry : Byte → Nat,
    (∀ kind, 0 < entry kind) ∧
    (∀ kind : Byte, 1 ≤ kind.toNat → kind.toNat ≤ 0x23 →
      let plain := kind ∈ ([0x0A, 0x0B, 0x0D, 0x11, 0x19, 0x1A, 0x1C, 0x1D, 0x20, 0x21] : List Byte)
      let listed := kind ∈ ([0x03, 0x04, 0x09, 0x13] : List Byte)
      (fixed kind = 0 ↔ plain) ∧
      (¬listed → ∀ params : List Byte, requestOf kind params ≠ none ↔ params.length = fixed kind) ∧
      (listed → ∀ params : List Byte, requestOf kind params ≠ none)) ∧
    ∀ (kind : Byte) (params : List Byte) (r : Request), requestOf kind params = some r → r.code = kind ∧
      (∀ panel bMax count list, r = .bandLayout panel bMax count list →
        (list.whole = true ↔ params.length = fixed kind + list.entries.length * entry kind)) ∧
      (∀ target count list, r = .damage target count list →
        (list.whole = true ↔ params.length = fixed kind + list.entries.length * entry kind)) ∧
      (∀ scan count list, r = .touchGroups scan count list →
        (list.whole = true ↔ params.length = fixed kind + list.entries.length * entry kind)) ∧
      ∀ grant list, r = .writeClose grant list →
        (list.whole = true ↔ params.length = fixed kind + list.entries.length * entry kind)) ∧
  ∀ (q : Port) (tag kind : Byte) (params : List Byte) (s : State), s.inReset = false → (s.port q).reply = none →
    let known := 1 ≤ kind.toNat ∧ kind.toNat ≤ 0x23
    let locked := q = .media ∧ s.mediaEnabled = false ∧ kind ≠ 0x20 ∧ kind ≠ 0x1F
    let after := dispatch q tag kind params s
    (¬known → after = placeReply q tag kind (refuse .unknownKind) s) ∧
    (known → locked → after = placeReply q tag kind (refuse .portLocked) s) ∧
    (known → ¬locked → requestOf kind params = none → after = placeReply q tag kind (refuse .badParam) s) ∧
    (known → ¬locked → ∀ r, requestOf kind params = some r →
      (∀ i, requestOfInstr i = some (q, tag, r) → exec i s = .next after) ∧
      (∀ panel bMax count list, r = .bandLayout panel bMax count list → list.whole = false →
        exec (.bandLayout q tag panel bMax 0 []) s = .next after) ∧
      (∀ target count list, r = .damage target count list → list.whole = false →
        exec (.damage q tag target 0 []) s = .next after) ∧
      (∀ scan count list, r = .touchGroups scan count list → list.whole = false →
        exec (.touchGroups q tag scan 0 []) s = .next after) ∧
      ∀ grant list, r = .writeClose grant list → list.whole = false →
        ((∀ g ∈ s.grants.records, ¬(g.id = grant ∧ g.port = q)) →
          after = placeReply q tag kind (refuse .noGrant) s) ∧
        ((∃ g ∈ s.grants.records, g.id = grant ∧ g.port = q) →
          after = placeReply q tag kind (refuse .badParam) s))

/-- A read transaction (first byte 0x02) shifts out the pending reply, else the oldest notice, else the idle frame; what
it shifts out leaves the port when the host clocked the whole frame, and stays when it did not. Nothing else changes,
but for the REQUESTED reset that the delivery of a RESET_DEVICE reply makes due. A first byte that is neither 0x01 nor
0x02 is counted and not answered; what it shifts out is a free value (log entry 8). A selection released before its first
byte is complete changes nothing. -/
def Obligations.ReadTransactionDelivers : Prop :=
  ∀ (q : Port) (rest : List Byte) (s : State), s.inReset = false →
    let x := s.port q
    let n := rest.length
    let read := exec (.readTransaction q (0x02 :: rest)) s
    exec (.readTransaction q []) s = .next s ∧
    (∀ r, x.reply = some r →
      let frame := replyFrame x r
      let out := (frame ++ List.replicate n 0).take n
      (n < frame.length → read = .next (s.setPort q { x with shiftOut := out })) ∧
      (frame.length ≤ n →
        read = .next { s.setPort q { x with shiftOut := out, reply := none, lostMark := false } with
          resetLogic := { s.resetLogic with requested := decide (r.kind = 0x21 ∧ r.outcome = .ok) } })) ∧
    (x.reply = none → ∀ notice queue, x.queue = notice :: queue →
      let frame := noticeFrame notice
      let out := (frame ++ List.replicate n 0).take n
      (n < frame.length → read = .next (s.setPort q { x with shiftOut := out })) ∧
      (frame.length ≤ n → read = .next (s.setPort q { x with shiftOut := out, queue := queue }))) ∧
    (x.reply = none → x.queue = [] →
      read = .next (s.setPort q { x with shiftOut := ([0xA0, 0x00, 0x00] ++ List.replicate n 0 : List Byte).take n })) ∧
    ∀ first : Byte, first ≠ 0x01 → first ≠ 0x02 → ∃ out : List Byte, out.length = n ∧
      let rejected := { s.setPort q { x with shiftOut := out, discards := x.discards + 1 } with free := s.free + 1 }
      exec (.readTransaction q (first :: rest)) s = .next rejected ∧
      exec (.writeTransaction q (first :: rest)) s = .next rejected

/-- MEDIA_ENABLE, MEDIA_DISABLE while DISABLED, SET_TIMING_LOCK, TOUCH_ENABLE and TOUCH_DISABLE replace their one setting
and reply with what it was before; from the media port the first three are refused. -/
def Obligations.PlainSettingsAreReplaced : Prop :=
  ∀ (q : Port) (tag : Byte) (s : State), s.takes q →
    (q = .supervisor →
      exec (.mediaEnable q tag) s =
        .next (placeReply q tag 0x1C (accept (.mediaPort s.mediaEnabled)) { s with mediaEnabled := true }) ∧
      (s.mediaEnabled = false →
        exec (.mediaDisable q tag) s = .next (placeReply q tag 0x1D (accept (.mediaPort false)) s)) ∧
      (∀ on, exec (.setTimingLock q tag (some on)) s =
        .next (placeReply q tag 0x1E (accept (.timingLock s.timingLock)) { s with timingLock := on })) ∧
      exec (.setTimingLock q tag none) s = .next (placeReply q tag 0x1E (refuse .badParam) s)) ∧
    (q = .media →
      exec (.mediaEnable q tag) s = .next (placeReply q tag 0x1C (refuse .notPermitted) s) ∧
      exec (.mediaDisable q tag) s = .next (placeReply q tag 0x1D (refuse .notPermitted) s) ∧
      ∀ setting, exec (.setTimingLock q tag setting) s = .next (placeReply q tag 0x1E (refuse .notPermitted) s)) ∧
    exec (.touchEnable q tag) s =
      .next (placeReply q tag 0x0A (accept (.touchState s.touch.state))
        { s with touch := { s.touch with state := .enabled, missing := 0 } }) ∧
    exec (.touchDisable q tag) s =
      .next (placeReply q tag 0x0B (accept (.touchState s.touch.state))
        { s with touch := { s.touch with state := .disabled } })

/-- MEDIA_DISABLE taken while ENABLED: the port is DISABLED, its queue and its watches are emptied, every media grant ends
with its bands marked dirty, and no notice reaches either port. -/
def Obligations.MediaDisableRevokesEverything : Prop :=
  ∀ (tag : Byte) (s : State), s.takes .supervisor → s.mediaEnabled = true →
    ∃ t, exec (.mediaDisable .supervisor tag) s =
        .next (placeReply .supervisor tag 0x1D (accept (.mediaPort true)) t) ∧
      t.mediaEnabled = false ∧ t.media = { s.media with queue := [] } ∧
      t.cluster.mediaWatch = .empty ∧ t.centre.mediaWatch = .empty ∧
      (∀ g, g ∈ t.grants.records → g ∈ s.grants.records ∧ g.port = .supervisor) ∧
      (s.grants.records.Pairwise idsApart → ∀ g ∈ s.grants.records, g.port = .supervisor → g ∈ t.grants.records) ∧
      (∀ p i (b : Band), (s.panel p).bands.records[i]? = some b →
        (t.panel p).bands.records[i]? =
          some { b with dirty := b.dirty || (s.grantsOf .media).any fun g => g.covers p i }) ∧
      t = { s with mediaEnabled := t.mediaEnabled, media := t.media, grants := { s.grants with records := t.grants.records },
                   cluster := { s.cluster with mediaWatch := t.cluster.mediaWatch,
                                               bands := { s.cluster.bands with records := t.cluster.bands.records } },
                   centre := { s.centre with mediaWatch := t.centre.mediaWatch,
                                             bands := { s.centre.bands with records := t.centre.bands.records } } }

/-- STATUS, IDENTIFY, WINDOW_READ, TOUCH_READ and PROFILE_READ change nothing but the pending reply, whose results are the
values as they stand. STATUS and IDENTIFY are taken from a DISABLED media port too (R166, check 2). PROFILE_READ gives the
items of a VALID record by section, the record's state alone when it fails its check, and BUSY while a write is in
flight; that a BUSY or BAD_PARAM reply carries the record's state too is read from R178 by inference (log entry 23). -/
def Obligations.ReadsChangeNothing : Prop :=
  ∀ (q : Port) (tag : Byte) (s : State), s.inReset = false → (s.port q).reply = none →
    let panelStatus := fun (x : PanelState) =>
      ({ power := x.power.state, stopPending := x.power.stopPending, offPending := x.power.offPending,
         logicEn := x.power.logicEn, gateEn := x.power.gateEn, powerGood := x.power.powerGood, times := x.power.times,
         step := x.power.step.map TimedStep.step, frame := x.frame.number, lockState := x.lock.state,
         tBase := x.lock.tBase, glitches := x.lock.glitches, bandCount := x.bands.records.length,
         bMax := x.bands.bMax, dirtyBands := x.bands.records.countP (·.dirty), stretched := x.builder.stretched,
         late := x.builder.late, target := x.dimmer.settings.target, applied := x.dimmer.applied,
         cap := x.dimmer.settings.cap, backlight := x.dimmer.enable } : PanelStatus)
    (exec (.status q tag 0) s = .next (placeReply q tag 0x1F (accept (.deviceStatus
      { mediaEnabled := s.mediaEnabled, timingLock := s.timingLock
        supervisorDiscards := s.supervisor.discards, supervisorLost := s.supervisor.lost
        supervisorQueued := s.supervisor.queue.length
        mediaDiscards := s.media.discards, mediaLost := s.media.lost, mediaQueued := s.media.queue.length
        supplyHold := s.supply.hold, monitor := s.monitor.state, period := s.monitor.period
        fraction := s.monitor.fraction, openStart := s.monitor.period * 200 * (100 - s.monitor.fraction)
        elapsed := if s.monitor.state = .running then some s.monitor.elapsed.toNat else none
        reason := s.monitor.reason, causes := s.faults, canvasMisses := s.windows.misses
        supervisorGrants := s.grants.records.countP fun g => decide (g.port = .supervisor)
        mediaGrants := s.grants.records.countP fun g => decide (g.port = .media) })) s)) ∧
    (∃ lent guarded,
      CountsBands s.cluster.bands.records.length
        (fun i => ∃ b, s.cluster.bands.records[i]? = some b ∧ s.lendsBand i b) lent ∧
      (∀ y : GuardedStatus, y ∈ guarded ↔ ∃ b, s.cluster.bands.records[y.band]? = some b ∧ b.cls = .guarded ∧
        y.checked = b.expected.isSome ∧ y.mismatches = b.mismatches) ∧
      guarded.Pairwise (fun y z => y.band < z.band) ∧
      exec (.status q tag 1) s = .next (placeReply q tag 0x1F (accept (.clusterStatus (panelStatus s.cluster)
        { mediaBands := lent, mismatchLimit := s.mismatchLimit, guarded := guarded })) s)) ∧
    exec (.status q tag 2) s = .next (placeReply q tag 0x1F (accept (.centreStatus (panelStatus s.centre)
      { touchDeferred := s.touch.deferred, lateResults := s.touch.lateResults })) s) ∧
    (∀ portion, 2 < portion → exec (.status q tag portion) s = .next (placeReply q tag 0x1F (refuse .badParam) s)) ∧
    exec (.identify q tag) s =
      .next (placeReply q tag 0x20 (accept (.identify 0x4827 0x6308 'A' s.profile.lastLoad)) s) ∧
    ((q = .media → s.mediaEnabled = true) →
      (∃ ws : List (Option WindowStatus),
        exec (.windowRead q tag) s = .next (placeReply q tag 0x11 (accept (.windowRead ws s.windows.misses)) s) ∧
        ws.map (Option.map WindowStatus.window) = s.windows.slots ∧
        ∀ y, some y ∈ ws →
          let w := y.window
          let lends := fun (j : Nat) => ∃ b, s.cluster.bands.records[j]? = some b ∧ b.cls = .normal ∧
            w.panelBase ≤ s.cluster.bands.firstLine j ∧ s.cluster.bands.firstLine j + b.lines ≤ w.panelEnd
          (y.empty = true ↔ w.panelEnd = w.panelBase) ∧
          CountsBands s.cluster.bands.records.length lends y.lent ∧
          (∀ j, lends j → (∀ k, k < j → ¬lends k) → y.firstLent = j) ∧
          ((∀ j, ¬lends j) → y.firstLent = 0xFF)) ∧
      exec (.touchRead q tag) s = .next (placeReply q tag 0x0D (accept (.touchRead
        { state := s.touch.state, missing := s.touch.missing, waits := s.touch.waits.length, active := s.touch.active
          listenPtr := s.touch.listenPtr, sinceHop := s.touch.sinceHop, hysteresis := s.touch.hysteresis
          hopHold := s.touch.hopHold
          candidates := s.touch.candidates.map fun c =>
            { period := c.period, permission := c.permission, average := c.average }
          scan := s.touch.scan
          groups := s.touch.groups.map fun g =>
            { id := g.id, enabled := g.enabled, interval := g.interval, age := g.age }
          lateResults := s.touch.lateResults, missingResults := s.touch.missingResults })) s) ∧
      let read := fun (portion : Nat) (o : OutcomeCode) (valid : Bool) (items : Option ProfileItems) =>
        exec (.profileRead q tag portion) s =
          .next (placeReply q tag 0x23 { outcome := o, results := .profileRead valid items } s)
      let passes := fun (r : StoredProfile) => r.check = Config.profileCheck r.items
      let valid := ∃ r, s.profile.stored = some r ∧ passes r
      (∀ portion v, (v = true ↔ valid) → (s.profile.writing ≠ none → portion ≤ 3 → read portion .busy v none) ∧
        (3 < portion → read portion .badParam v none)) ∧
      (s.profile.writing = none → ¬valid → ∀ portion, portion ≤ 3 → read portion .ok false none) ∧
      (s.profile.writing = none → ∀ r, s.profile.stored = some r → passes r →
        read 0 .ok true (some (.general r.items.general)) ∧ read 1 .ok true (some (.panel r.items.cluster)) ∧
        read 2 .ok true (some (.panel r.items.centre)) ∧ read 3 .ok true (some (.touch r.items.touch))))

/-! ### Frame timing and lock -/

/-- PANEL_CONFIG by the checks of R2 and R3 in order. The cost of R4 is that of the present layout when N_act stays, and
of one band of N_act lines when it changes; an OK request replaces the nine fields, and a change of N_act leaves one
fresh NORMAL band with hold limit 4. That T_base is kept is the model's choice, log entry 39. -/
def Obligations.PanelConfigByTable : Prop :=
  ∀ (q : Port) (tag : Byte) (p : Panel) (t : Timing) (s : State), s.takes q →
    let x := s.panel p
    let lines := if t.nAct = x.timing.nAct then x.bands.records.map Band.lines else [t.nAct]
    let cost := (lines.map fun l => l * t.tLine + t.tSet).sum + t.nVb * t.tLine
    let whole : Band :=
      { lines := t.nAct, cls := .normal, holdLimit := 4, dirty := false, hold := 0, balance := 0, expected := none,
        mismatches := 0 }
    AnswersBy q tag 0x01 (exec (.panelConfig q tag (panelNumber p) t) s) s
      [(q = .media ∧ p = .cluster, .notPermitted),
       (q = .media ∧ p = .centre ∧ s.timingLock = true, .timingLocked),
       (x.power.state ≠ .off ∧ x.power.state ≠ .ready, .wrongState),
       (t.nAct ≠ x.timing.nAct ∧
          (p = .cluster ∧ (∃ w, some w ∈ s.windows.slots) ∨ ∃ g ∈ s.grants.records, g.panel = p), .wrongState),
       (¬(240 ≤ t.nAct ∧ t.nAct ≤ 2048 ∧ 60 ≤ t.tLine ∧ t.tLine ≤ 2000 ∧ 4 ≤ t.nVb ∧ t.nVb ≤ 255 ∧ t.tSet ≤ 4095 ∧
          t.tSkip ≤ 4095 ∧ 100000 ≤ t.tMin ∧ t.tMin ≤ 2000000 ∧ 100000 ≤ t.tNom ∧ t.tNom ≤ 2000000 ∧
          100000 ≤ t.tMax ∧ t.tMax ≤ 2000000 ∧ 2 ≤ t.planLead ∧ t.planLead ≤ 64), .badParam),
       (¬(t.tMin ≤ t.tNom ∧ t.tNom ≤ t.tMax) ∨ t.tMin ≤ t.planLead * t.tLine ∨ t.tSet < t.tSkip ∨
          x.lock.settings.source = .partner ∧ t.tMax ≤ x.lock.settings.partnerOffset, .badParam),
       (t.tMax < cost, .doesNotFit)]
      (s.setPanel p
        { x with
          timing := t
          bands := if t.nAct = x.timing.nAct then x.bands else { x.bands with records := [whole] } })
      (.cost cost) fun o => if o = .doesNotFit then .cost cost else .none

/-- LOCK_MODE by the checks of R13 in order, with the effect of R14: the settings alone when the source stays; else
nothing measured, T_base at T_nom, the state by the new source while SCANNING, and LOCK_STATE when LOCKED or HOLD is
left. -/
def Obligations.LockModeByTable : Prop :=
  ∀ (q : Port) (tag : Byte) (p : Panel) (r : LockRequest) (s : State), s.takes q →
    let x := s.panel p
    let l := x.lock
    let settings : LockSettings :=
      { source := r.source.getD .none, slewLimit := r.slewLimit, lockWindow := r.lockWindow, missLimit := r.missLimit,
        partnerOffset := r.partnerOffset }
    let entered : LockState :=
      if settings.source = l.settings.source then l.state
      else if x.power.state = .scanning ∧ settings.source ≠ .none then .seek else .free
    let changed : FrameLock :=
      { settings := settings, state := entered, tBase := x.timing.tNom, correction := none, capture := none,
        previous := none, gapRef := none, good := 0, miss := 0, inFlight := [], glitches := l.glitches }
    let lock := if settings.source = l.settings.source then { l with settings := settings } else changed
    let t := s.setPanel p { x with lock := lock }
    let told := settings.source ≠ l.settings.source ∧ (l.state = .locked ∨ l.state = .hold)
    let n := s.noticeOf p (.lockState l.state entered x.timing.tNom)
    AnswersWith q tag 0x02 (exec (.lockMode q tag (panelNumber p) r) s) s
      [(q = .media ∧ p = .cluster, .notPermitted),
       (q = .media ∧ p = .centre ∧ s.timingLock = true, .timingLocked),
       (¬(r.slewLimit ≤ 65535 ∧ r.lockWindow ≤ 65535 ∧ 1 ≤ r.missLimit ∧ r.missLimit ≤ 15 ∧ r.source.isSome = true),
         .badParam),
       (x.timing.tMax ≤ r.partnerOffset, .badParam),
       (r.source = some .partner ∧ (s.panel (otherPanel p)).lock.settings.source = .partner, .badParam)]
      (fun t' r' =>
        r' = .lock entered ∧ (¬told → t' = t) ∧
          (told → t' = match p with
            | .cluster => post .supervisor n t
            | .centre => postBoth n t))

/-- A panel index other than 0 or 1 is BAD_PARAM in PANEL_CONFIG, LOCK_MODE and BAND_LAYOUT, whose tables name no
check of it, and so is a PANEL_ON field above 255: the model's choice, log entry 9. -/
def Obligations.UnnamedOperandsAreBadParam : Prop :=
  ∀ (q : Port) (tag : Byte) (panel : Nat) (s : State), s.takes q →
    let bad := fun (i : Instr) (kind : Byte) => exec i s = .next (placeReply q tag kind (refuse .badParam) s)
    (1 < panel →
      (∀ t, bad (.panelConfig q tag panel t) 0x01) ∧ (∀ r, bad (.lockMode q tag panel r) 0x02) ∧
      ∀ bMax count entries, bad (.bandLayout q tag panel bMax count entries) 0x03) ∧
    ∀ (p : Panel) (tA tB tC : Nat), (255 < tA ∨ 255 < tB ∨ 255 < tC) → ¬(q = .media ∧ p = .cluster) →
      bad (.panelOn q tag (panelNumber p) tA tB tC) 0x14

/-- MARKER_EDGE and PARTNER_MARKER. An edge meets the glitch filter, an arriving partner marker leaves the list; a marker
whose interval has no capture yet is captured with the phase error, period and correction of R17, and otherwise is not
used. -/
def Obligations.MarkersAreCaptured : Prop :=
  ∀ (p : Panel) (s : State), s.inReset = false →
    let x := s.panel p
    let l := x.lock
    let withLock := fun (l' : FrameLock) => s.setPanel p { x with lock := l' }
    let captured := fun (l' : FrameLock) (start : Tick) (length : Nat) =>
      let q := if s.count.since start = length then 0 else s.count.since start
      let e : Int := if q ≤ length / 2 then q else (q : Int) - length
      let c : Int := max (-(l.settings.slewLimit : Int)) (min l.settings.slewLimit (e.tdiv 4))
      let period := match l.previous with
        | none => l.tBase
        | some m => max x.timing.tMin (min x.timing.tMax (s.count.since m))
      { l' with
        tBase := period, correction := some c, capture := some { time := s.count, error := e, correction := c } }
    let edge := exec (.markerEdge p) s
    let listened := x.power.state = .scanning ∧ l.settings.source = .external
    let accepted := ∀ g, l.gapRef = some g → x.timing.tMin / 2 ≤ s.count.since g
    (¬listened → edge = .next s) ∧
    (listened → ¬accepted → edge = .next (withLock { l with glitches := l.glitches + 1 })) ∧
    (listened → accepted → l.capture ≠ none →
      edge = .next (withLock { l with gapRef := some s.count, glitches := l.glitches + 1 })) ∧
    (listened → accepted → l.capture = none →
      ∀ start length, x.frame.start = some start → x.frame.length = some length →
        edge = .next (withLock (captured { l with gapRef := some s.count } start length))) ∧
    ∀ rest, l.inFlight = s.count :: rest →
      (l.capture ≠ none → exec (.partnerMarker p) s = .next (withLock { l with inFlight := rest })) ∧
      (l.capture = none → ∀ start length, x.frame.start = some start → x.frame.length = some length →
        exec (.partnerMarker p) s = .next (withLock (captured { l with inFlight := rest } start length)))

/-- PLAN_POINT, the lock's part: the decision table of R18 by what the closing interval holds, the next frame length of
R19 by the state after it, LOCK_STATE on entering LOCKED and on leaving LOCKED or HOLD for SEEK (the
cluster's to the supervisor port, the centre's to both, where a TOUCH_HOP of the same plan point may follow on the media
port), and the interval's capture becoming the preceding one. -/
def Obligations.PlanPointTakesLockDecision : Prop :=
  ∀ (p : Panel) (s : State) (start : Tick) (length : Nat), s.inReset = false →
    let x := s.panel p
    let l := x.lock
    let lead := x.timing.planLead * x.timing.tLine
    x.power.state = .scanning → x.power.stopPending = false → x.frame.next = none → x.frame.start = some start →
    x.frame.length = some length → s.count = start.after (length - lead) →
    let within := ∃ c, l.capture = some c ∧ |c.error| ≤ (l.settings.lockWindow : Int)
    let outside := ∃ c, l.capture = some c ∧ (l.settings.lockWindow : Int) < |c.error|
    let nothing := l.capture = none
    ∃ t st good miss, exec (.planPoint p) s = .next t ∧
      (t.panel p).lock =
        { l with state := st, good := good, miss := miss, previous := l.capture.map Capture.time, capture := none,
                 correction := none } ∧
      (l.state = .free → st = .free ∧ good = l.good ∧ miss = l.miss) ∧
      (l.state = .seek → miss = l.miss ∧
        (within → l.good + 1 < 3 → st = .seek ∧ good = l.good + 1) ∧
        (within → 3 ≤ l.good + 1 → st = .locked ∧ good = 0) ∧
        (outside ∨ nothing → st = .seek ∧ good = 0)) ∧
      (l.state = .locked →
        (within → st = .locked ∧ good = l.good ∧ miss = l.miss) ∧
        (outside → st = .seek ∧ good = 0 ∧ miss = l.miss) ∧
        (nothing → 1 < l.settings.missLimit → st = .hold ∧ miss = 1 ∧ good = l.good) ∧
        (nothing → l.settings.missLimit ≤ 1 → st = .seek ∧ miss = 0 ∧ good = l.good)) ∧
      (l.state = .hold →
        (within → st = .locked ∧ miss = 0 ∧ good = l.good) ∧
        (outside → st = .seek ∧ miss = 0 ∧ good = 0) ∧
        (nothing → l.miss + 1 < l.settings.missLimit → st = .hold ∧ miss = l.miss + 1 ∧ good = l.good) ∧
        (nothing → l.settings.missLimit ≤ l.miss + 1 → st = .seek ∧ miss = 0 ∧ good = 0)) ∧
      (t.panel p).frame = { x.frame with next := some (
        match st, l.correction with
        | .free, _ => x.timing.tNom
        | .hold, _ => l.tBase
        | _, none => l.tBase
        | _, some c => (max (x.timing.tMin : Int) (min x.timing.tMax (l.tBase + c))).toNat) } ∧
      (p = .cluster →
        t.supervisor =
            (if (l.state = .seek ∧ st = .locked) ∨ ((l.state = .locked ∨ l.state = .hold) ∧ st = .seek) then
              s.supervisor.offer (s.noticeOf .cluster (.lockState l.state st l.tBase))
            else s.supervisor) ∧
          t.media = s.media) ∧
      (p = .centre →
        let told :=
          if (l.state = .seek ∧ st = .locked) ∨ ((l.state = .locked ∨ l.state = .hold) ∧ st = .seek) then
            toBoth (s.noticeOf .centre (.lockState l.state st l.tBase))
          else []
        ∃ hops : List (Port × Notice),
          (hops = [] ∨ ∃ reason left leftAverage taken takenAverage sinceHop, hops =
            [(.media, s.noticeOf .centre (.touchHop reason left leftAverage taken takenAverage sinceHop))]) ∧
          t.supervisor = (postAll told s).supervisor ∧ t.media = (postAll (told ++ hops) s).media)

/-- PLAN_POINT, the builder's part: the dimmer fixes the frame duty one ramp step toward its effective target, and the
build begins on a snapshot of frame n + 1, with every band projected by its slot in the plan in execution, and each touch group by the plan's TOUCH slot of its id (log entry 19,
DEDUCED). On the
cluster panel nothing but the lock, the next length, the frame duty, the build and the supervisor's queue changes; on the
centre panel also the media port's queue, the active candidate and the frames since the last hop. The centre's snapshot
holds the active candidate's period, the scan settings, the edges of its next frame (R56) and, with cross-coupling ON and
the cluster SCANNING, the instants predicted from the cluster's frames (R57). BUILD_COMPLETE at the
build's time: the plan becomes the ready plan with its length, its deferral count and its mark of a lent band, or is
discarded when its frame has started. Deferred in a plan are the due groups for which it holds no TOUCH slot, while the
snapshot's touch state is ENABLED (R46, R53). -/
def Obligations.PlansAreBuiltFromSnapshots : Prop :=
  (∀ (p : Panel) (s : State), s.inReset = false → s.planPointDue p = true →
      let x := s.panel p
      let n : Int := if x.frame.number.toNat % 2 = 0 then 1 else -1
      let d := x.dimmer
      let goal := if s.supply.hold = true then min d.settings.target d.settings.cap else d.settings.target
      let duty :=
        if d.applied ≤ goal then min goal (d.applied + d.settings.ramp) else max goal (d.applied - d.settings.ramp)
      ∃ (t : State) (b : Build) (T : Nat), exec (.planPoint p) s = .next t ∧
        (t.panel p).frame.next = some T ∧ (t.panel p).dimmer = { d with frameDuty := some duty } ∧
        (t.panel p).builder = { x.builder with build := some b } ∧ b.frameLate = false ∧
        b.snapshot.number = x.frame.number + 1 ∧ b.snapshot.length = T ∧ b.snapshot.timing = x.timing ∧
        b.snapshot.bMax = x.bands.bMax ∧ b.snapshot.bands.length = x.bands.records.length ∧
        b.snapshot.monitorFault = decide (s.monitor.state = .fault) ∧ b.snapshot.supplyHold = s.supply.hold ∧
        b.buildTime = 200 + 20 * x.bands.records.length +
          (if p = .centre then 40 * (s.touch.groups.countP fun g => g.enabled) else 0) ∧
        b.done = s.count.after b.buildTime ∧
        (∀ i (y : Band), x.bands.records[i]? = some y → ∃ z, b.snapshot.bands[i]? = some z ∧
          z.lines = y.lines ∧ z.cls = y.cls ∧ z.holdLimit = y.holdLimit ∧
          (z.covered = true ↔ s.granted p i) ∧ (z.mediaOwned = true ↔ s.mediaBand p i y) ∧
          ∀ e, x.seq = some e →
            (refreshesBand (e.plan.slots.drop e.position) i = true →
              z.dirty = false ∧ z.hold = 0 ∧ z.balance = y.balance + n) ∧
            (refreshesBand (e.plan.slots.drop e.position) i = false →
              refreshesBand (e.plan.slots.take e.position) i = true →
              z.dirty = y.dirty ∧ z.hold = y.hold ∧ z.balance = y.balance) ∧
            (refreshesBand e.plan.slots i = false →
              z.dirty = y.dirty ∧ z.hold = min (y.hold + 1) y.holdLimit ∧ z.balance = y.balance)) ∧
        (p = .cluster → b.snapshot.touch = none ∧
          t = { s with supervisor := t.supervisor,
                       cluster := { s.cluster with lock := t.cluster.lock, frame := t.cluster.frame,
                                                   dimmer := t.cluster.dimmer, builder := t.cluster.builder } }) ∧
        (p = .centre → ∃ y : SnapTouch, b.snapshot.touch = some y ∧ y.state = s.touch.state ∧ y.active = t.touch.active ∧
          y.groups.length = s.touch.groups.length ∧
          (∀ (i : Nat) (g : Group), s.touch.groups[i]? = some g → ∃ h : SnapGroup, y.groups[i]? = some h ∧
            h.id = g.id ∧ h.code = g.code ∧ h.interval = g.interval ∧ h.bursts = g.bursts ∧ h.enabled = g.enabled ∧
            h.age = if x.seq.any (fun e => e.plan.touchesGroup g.id) = true then 1 else min (g.age + 1) 255) ∧
          (∀ c, s.touch.candidates[t.touch.active]? = some c → y.period = c.period) ∧
          y.tGuard = s.touch.scan.tGuard ∧ y.edgeGuard = s.touch.scan.edgeGuard ∧
          y.listenBursts = s.touch.scan.listenBursts ∧
          y.edges = (edgeList T duty d.settings.periods).map Edge.time ∧
          (let k := s.cluster
           let coupled := s.touch.scan.crossCoupling = true ∧ k.power.state = .scanning
           (¬coupled → y.predicted = []) ∧
           (coupled → ∀ sc tC st len, k.frame.start = some sc → k.frame.length = some tC → 0 < tC →
              x.frame.start = some st → x.frame.length = some len →
              let begins := fun (j : Nat) => ((j * tC : Nat) : Int) - ((st.after len).since sc : Int)
              ∀ v : Int, v ∈ y.predicted ↔
                (∃ j, 1 ≤ j ∧ v = begins j ∧ 0 ≤ v ∧ v < T) ∨
                ∃ j, ∃ edge ∈ edgeList tC k.dimmer.applied k.dimmer.settings.periods,
                  (j = 0 ∨ (begins j < T ∧ 0 < begins j + tC)) ∧ v = begins j + (edge.time : Int))) ∧
          t = { s with supervisor := t.supervisor, media := t.media
                       touch := { s.touch with active := t.touch.active, sinceHop := t.touch.sinceHop }
                       centre := { s.centre with lock := t.centre.lock, frame := t.centre.frame,
                                                 dimmer := t.centre.dimmer, builder := t.centre.builder } })) ∧
  (∀ (p : Panel) (s : State) (b : Build), s.inReset = false → (s.panel p).builder.build = some b → b.done = s.count →
      ∃ t, exec (.buildComplete p) s = .next t ∧
        t = s.setPanel p { s.panel p with builder := (t.panel p).builder } ∧
        (t.panel p).builder = { (s.panel p).builder with build := none, ready := (t.panel p).builder.ready } ∧
        (b.frameLate = true → (t.panel p).builder.ready = (s.panel p).builder.ready) ∧
        (b.frameLate = false → ∃ r, (t.panel p).builder.ready = some r ∧ r.plan = b.snapshot.builtPlan ∧
          r.fixed = b.snapshot.length ∧
          r.stretched = decide (b.snapshot.length < b.snapshot.baseCost) ∧
          r.length = max b.snapshot.length b.snapshot.baseCost ∧ r.deferred = b.snapshot.deferredIn r.plan ∧
          (r.mediaOwned = true ↔ ∃ z ∈ b.snapshot.bands, z.mediaOwned = true))) ∧
  ∀ (sn : Snapshot) (plan : Plan),
    (sn.touch = none → sn.deferredIn plan = 0) ∧
    ∀ y : SnapTouch, sn.touch = some y →
      (y.state ≠ .enabled → sn.deferredIn plan = 0) ∧
      (y.state = .enabled → sn.deferredIn plan = y.groups.countP fun g =>
        g.enabled && decide (g.interval ≤ g.age) && !plan.slots.any fun x =>
          match x.kind with
          | .touch id _ _ _ _ => id == g.id
          | _ => false)

/-! ### The band table -/

/-- BAND_LAYOUT by the checks of R25 in order; an OK request replaces the whole table with fresh records (R26). -/
def Obligations.BandLayoutByTable : Prop :=
  ∀ (q : Port) (tag : Byte) (p : Panel) (bMax count : Nat) (entries : List BandEntry) (s : State), s.takes q →
    let x := s.panel p
    let cost := (entries.map fun e => e.lines * x.timing.tLine + x.timing.tSet).sum + x.timing.nVb * x.timing.tLine
    let records : List Band := entries.map fun e =>
      { lines := e.lines, cls := e.cls.getD .normal, holdLimit := e.holdLimit, dirty := false, hold := 0, balance := 0,
        expected := none, mismatches := 0 }
    AnswersBy q tag 0x03 (exec (.bandLayout q tag (panelNumber p) bMax count entries) s) s
      [(q = .media ∧ p = .cluster, .notPermitted),
       (x.power.state ≠ .off ∧ x.power.state ≠ .ready, .wrongState),
       (p = .cluster ∧ (∃ w, some w ∈ s.windows.slots) ∨ ∃ g ∈ s.grants.records, g.panel = p, .wrongState),
       (¬(1 ≤ count ∧ count ≤ 32) ∨ count ≠ entries.length ∨ ¬(1 ≤ bMax ∧ bMax ≤ 7), .badParam),
       (∃ e ∈ entries, ¬(1 ≤ e.holdLimit ∧ e.holdLimit ≤ 15) ∨ e.cls = none, .badParam),
       ((∃ e ∈ entries, e.lines < 8) ∨ (entries.map BandEntry.lines).sum ≠ x.timing.nAct, .badParam),
       ((∃ e ∈ entries, e.cls = some .guarded) ∧ p = .centre, .badParam),
       (x.timing.tMax < cost, .doesNotFit)]
      (s.setPanel p { x with bands := { bMax := bMax, records := records } })
      (.layout cost entries.length) fun o => if o = .doesNotFit then .cost cost else .none

/-- DAMAGE on a panel by the checks of R30 in order: exactly the bands that hold a line of a clipped range become dirty
and nothing else of them changes; the reply counts them and the ranges clipped away whole. -/
def Obligations.PanelDamageMarksBandsHit : Prop :=
  ∀ (q : Port) (tag : Byte) (p : Panel) (count : Nat) (ranges : List LineRange) (s : State), s.takes q →
    s.configLegal →
    let target : DamageTarget := match p with
      | .cluster => .cluster
      | .centre => .centre
    let x := s.panel p
    let hit := fun (i : Nat) => ∃ b line, x.bands.records[i]? = some b ∧ x.bands.holdsLine i b line ∧
      ∃ r ∈ ranges, r.first ≤ line ∧ line ≤ r.last ∧ line < x.timing.nAct
    AnswersWith q tag 0x04 (exec (.damage q tag (some target) count ranges) s) s
      [(q = .media ∧ p = .cluster, .notPermitted),
       (¬(1 ≤ count ∧ count ≤ 8) ∨ count ≠ ranges.length, .badParam),
       (∃ r ∈ ranges, r.last < r.first, .badParam)]
      fun t r => ∃ records marked,
        t = s.setPanel p { x with bands := { x.bands with records := records } } ∧
        records.length = x.bands.records.length ∧
        (∀ i (b : Band), x.bands.records[i]? = some b →
          (hit i → records[i]? = some { b with dirty := true }) ∧ (¬hit i → records[i]? = some b)) ∧
        CountsBands x.bands.records.length hit marked ∧
        r = .damage marked (ranges.countP fun y => decide (x.timing.nAct ≤ y.first))

/-- DAMAGE on the canvas, from the media port alone: a clipped range marks exactly the bands that an OPEN window lends
and to a line of which that window translates a line of the range; a range with a line that reaches no lent band counts
as missed, in the reply and in the canvas miss counter. A target that is none of the three is BAD_PARAM. -/
def Obligations.CanvasDamageGoesThroughWindows : Prop :=
  ∀ (q : Port) (tag : Byte) (count : Nat) (ranges : List LineRange) (s : State), s.takes q → s.configLegal →
    let table := s.cluster.bands
    let through := fun (w : Window) (line i : Nat) => ∃ b, table.records[i]? = some b ∧ b.cls = .normal ∧
      w.panelBase ≤ table.firstLine i ∧ table.firstLine i + b.lines ≤ w.panelEnd ∧
      w.canvasBase ≤ line ∧ line < w.canvasBase + (w.panelEnd - w.panelBase) ∧
      table.holdsLine i b (w.panelBase + (line - w.canvasBase))
    let reaches := fun (line i : Nat) => ∃ w, some w ∈ s.windows.slots ∧ through w line i
    let inRange := fun (r : LineRange) (line : Nat) => r.first ≤ line ∧ line ≤ r.last ∧ line < 4096
    let hit := fun (i : Nat) => ∃ r ∈ ranges, ∃ line, inRange r line ∧ reaches line i
    let missed := fun (k : Nat) => ∃ r, ranges[k]? = some r ∧ ∃ line, inRange r line ∧ ∀ i, ¬reaches line i
    exec (.damage q tag none count ranges) s = .next (placeReply q tag 0x04 (refuse .badParam) s) ∧
    AnswersWith q tag 0x04 (exec (.damage q tag (some .canvas) count ranges) s) s
      [(q = .supervisor, .notPermitted),
       (¬(1 ≤ count ∧ count ≤ 8) ∨ count ≠ ranges.length, .badParam),
       (∃ r ∈ ranges, r.last < r.first, .badParam)]
      fun t r => ∃ records marked misses,
        t = { s with
          cluster := { s.cluster with bands := { table with records := records } }
          windows := { s.windows with misses := s.windows.misses + BitVec.ofNat 16 misses } } ∧
        records.length = table.records.length ∧
        (∀ i (b : Band), table.records[i]? = some b →
          (hit i → records[i]? = some { b with dirty := true }) ∧ (¬hit i → records[i]? = some b)) ∧
        CountsBands table.records.length hit marked ∧ CountsBands ranges.length missed misses ∧
        r = .canvasDamage marked (ranges.countP fun y => decide (4096 ≤ y.first)) misses

/-- FULL_REFRESH marks every band of the panel dirty and replies with the band count; SUBSCRIBE sets the requesting
port's subscription and replies with the one before. Both name a panel 0 or 1, and the cluster is not the media port's
to refresh. -/
def Obligations.FullRefreshAndSubscribe : Prop :=
  ∀ (q : Port) (tag : Byte) (s : State), s.takes q →
    (∀ p,
      let x := s.panel p
      AnswersBy q tag 0x05 (exec (.fullRefresh q tag (panelNumber p)) s) s
        [(q = .media ∧ p = .cluster, .notPermitted)]
        (s.setPanel p
          { x with bands := { x.bands with records := x.bands.records.map fun b => { b with dirty := true } } })
        (.bandCount x.bands.records.length)) ∧
    (∀ p setting,
      let x := s.panel p
      AnswersBy q tag 0x06 (exec (.subscribe q tag (panelNumber p) setting) s) s
        [(setting = none, .badParam)]
        (s.setPanel p
          { x with
            builder := match q with
              | .supervisor => { x.builder with subSupervisor := setting.getD false }
              | .media => { x.builder with subMedia := setting.getD false } })
        (.subscription (match q with
          | .supervisor => x.builder.subSupervisor
          | .media => x.builder.subMedia))) ∧
    ∀ panel, 1 < panel →
      exec (.fullRefresh q tag panel) s = .next (placeReply q tag 0x05 (refuse .badParam) s) ∧
      ∀ setting, exec (.subscribe q tag panel setting) s = .next (placeReply q tag 0x06 (refuse .badParam) s)

/-! ### The frame plan -/

/-- No plan refreshes a band past its balance limit: every REFRESH slot of the built plan and of the fallback plan is at
the polarity of the frame planned, and of a band for which |b + s| does not exceed B_max. The fallback plan refreshes
every such band. The classes of R48 are taken in order. -/
def Obligations.ClassesKeepBalanceLimit : Prop :=
  (∀ sn : Snapshot,
      let n : Int := if sn.number.toNat % 2 = 0 then 1 else -1
      (∀ plan : Plan, plan = sn.builtPlan ∨ plan = sn.fallbackPlan →
        ∀ slot ∈ plan.slots, ∀ i polarity, slot.kind = .refresh i polarity →
          polarity = (if sn.number.toNat % 2 = 0 then .pos else .neg) ∧
          ∃ b, sn.bands[i]? = some b ∧ |b.balance + n| ≤ (sn.bMax : Int)) ∧
      ∀ i (b : SnapBand), sn.bands[i]? = some b →
        (|b.balance + n| ≤ (sn.bMax : Int) ↔ refreshesBand sn.fallbackPlan.slots i = true)) ∧
  ∀ (sn : Snapshot) (b : SnapBand),
    let n : Int := if sn.number.toNat % 2 = 0 then 1 else -1
    let disallowed := (sn.bMax : Int) < |b.balance + n|
    let mandatory := b.hold = b.holdLimit ∨ (|b.balance| = sn.bMax ∧ |b.balance + n| < |b.balance|) ∨
      (sn.monitorFault = true ∧ b.cls = .guarded)
    let deferrable := b.dirty = true ∧ b.covered = false ∧ sn.supplyHold = false
    (disallowed → sn.classify b = .disallowed) ∧
    (¬disallowed → mandatory → sn.classify b = .mandatory) ∧
    (¬disallowed → ¬mandatory → deferrable → sn.classify b = .deferrable) ∧
    (¬disallowed → ¬mandatory → ¬deferrable → sn.classify b = .skip)

/-- The built plan and the fallback plan hold one band slot for each band in band order, their slots do not overlap and
stand in order of start time, the tail starts after them and leaves room for the blank, and the costs of all slots plus the blank sum
to no more than the frame's length. The plan of frame 0 sums with the blank to the full-refresh
cost, which its length, T_nom or that cost, admits. -/
def Obligations.PlansFitTheirFrame : Prop :=
  (∀ (sn : Snapshot) (plan : Plan) (length : Nat),
      (plan = sn.builtPlan ∧ length = sn.builtLength) ∨ (plan = sn.fallbackPlan ∧ length = sn.fallbackLength) →
      let bandOf := fun (x : Slot) => match x.kind with
        | .refresh i _ => some i
        | .skip i => some i
        | _ => none
      plan.slots.filterMap bandOf = List.range sn.bands.length ∧
      plan.slots.Pairwise (fun x y => x.start + x.cost ≤ y.start) ∧
      (∀ x ∈ plan.slots, x.start + x.cost ≤ plan.tail) ∧
      plan.tail + sn.timing.nVb * sn.timing.tLine ≤ length ∧
      (plan.slots.map Slot.cost).sum + sn.timing.nVb * sn.timing.tLine ≤ length ∧
      sn.length ≤ length) ∧
  ∀ (timing : Timing) (lines : List Nat),
    let plan := fullPlan timing .pos lines
    let total := (plan.slots.map Slot.cost).sum + timing.nVb * timing.tLine
    let cost := (lines.map fun l => l * timing.tLine + timing.tSet).sum + timing.nVb * timing.tLine
    total = cost ∧ total ≤ max timing.tNom cost

/-- No TOUCH or LISTEN slot of a built plan meets a quiet interval: of an edge of the centre dimmer, or of a prediction
from the cluster panel. Each ends before the blank, and stretched and fallback plans hold none. -/
def Obligations.TouchSlotsAvoidQuietIntervals : Prop :=
  ∀ (sn : Snapshot) (t : SnapTouch), sn.touch = some t →
    let senses := fun (x : Slot) => match x.kind with
      | .touch _ _ _ _ _ => True
      | .listen _ _ _ => True
      | _ => False
    (∀ x ∈ sn.builtPlan.slots, senses x →
      (∀ e ∈ t.edges, (x.start : Int) + x.cost ≤ (e : Int) - t.edgeGuard ∨ (e : Int) + t.edgeGuard < x.start) ∧
      (∀ e ∈ t.predicted, (x.start : Int) + x.cost ≤ e - t.edgeGuard ∨ e + t.edgeGuard < x.start) ∧
      x.start + x.cost ≤ sn.length - sn.timing.nVb * sn.timing.tLine ∧ sn.stretches = false ∧
      t.state = .enabled ∧ sn.supplyHold = false) ∧
    ∀ x ∈ sn.fallbackPlan.slots, ¬senses x

/-- The fill of R51: overdue touch groups by age descending then id, DEFERRABLE bands by hold count descending then index,
on-time touch groups by id, the listen slot; each item is admitted exactly when the running total with it stays at or
below T. Groups stand in the snapshot in order of id. The costs are those of R49 and R50. The touch and listen slots
admitted are placed in admission order (R55, R58): at the boundary nearest the slot's target, no earlier than that of the
slot before, or at the first later one where the slot meets no quiet interval; in the tail at the first time that meets
none; dropped where it would run into the blank. -/
def Obligations.BudgetIsFirstFit : Prop :=
  (∀ sn : Snapshot,
    let whole := fun (lines : Nat) => lines * sn.timing.tLine + sn.timing.tSet
    let blank := sn.timing.nVb * sn.timing.tLine
    (sn.stretches = true ↔ sn.length < sn.baseCost) ∧
    (sn.stretches = true → sn.admitted = []) ∧
    (sn.stretches = false → ∀ before x after, sn.items = before ++ x :: after →
      let taken := fill sn.addedCost sn.length sn.baseCost before
      let total := sn.baseCost + (taken.map sn.addedCost).sum
      sn.admitted = taken ++
        (if total + sn.addedCost x ≤ sn.length then
          x :: fill sn.addedCost sn.length (total + sn.addedCost x) after
        else fill sn.addedCost sn.length total after)) ∧
    (∀ x ∈ sn.deferrables, sn.bands[x.1]? = some x.2 ∧ sn.classify x.2 = .deferrable) ∧
    (∀ i (b : SnapBand), sn.bands[i]? = some b → sn.classify b = .deferrable → (i, b) ∈ sn.deferrables) ∧
    sn.deferrables.Pairwise (fun x y => y.2.hold < x.2.hold ∨ (x.2.hold = y.2.hold ∧ x.1 < y.1)) ∧
    sn.baseCost =
      (sn.bands.map fun b => if sn.classify b = .mandatory then whole b.lines else sn.timing.tSkip).sum + blank ∧
    (∀ i lines, sn.addedCost (.band i lines) = whole lines - sn.timing.tSkip) ∧
    ∀ t, sn.touch = some t →
      (∀ g : SnapGroup, sn.addedCost (.touch g) = 2 * t.tGuard + g.bursts * t.period) ∧
      (∀ l : ListenItem, sn.addedCost (.listen l) = 2 * t.tGuard + t.listenBursts * l.period) ∧
      (t.groups.Pairwise (fun x y => x.id < y.id) →
        t.overdueGroups.Pairwise (fun x y => y.age < x.age ∨ (x.age = y.age ∧ x.id < y.id)) ∧
        (∀ g, g ∈ t.overdueGroups ↔ g ∈ t.groups ∧ g.enabled = true ∧ g.interval < g.age) ∧
        sn.items =
          if t.state = .enabled ∧ sn.supplyHold = false then
            t.overdueGroups.map FillItem.touch ++ sn.deferrables.map (fun x => FillItem.band x.1 x.2.lines) ++
              (t.groups.filter fun g => g.enabled && decide (g.age = g.interval)).map FillItem.touch ++
              (t.listen.map FillItem.listen).toList
          else sn.deferrables.map fun x => FillItem.band x.1 x.2.lines) ∧
      ∃ (times : List Nat) (quiet : List Quiet),
        times.length = sn.bands.length + 1 ∧ times[0]? = some 0 ∧
        (∀ i (b : SnapBand) a, sn.bands[i]? = some b → times[i]? = some a →
          times[i + 1]? = some (a +
            if refreshesBand sn.builtPlan.slots i = true then whole b.lines else sn.timing.tSkip)) ∧
        (∀ y : Quiet, y ∈ quiet ↔
          (∃ e ∈ t.edges, y = { lo := (e : Int) - t.edgeGuard, hi := (e : Int) + t.edgeGuard }) ∨
          ∃ e ∈ t.predicted, y = { lo := e - t.edgeGuard, hi := e + t.edgeGuard }) ∧
        sn.builtTouches = (placeFrom quiet times sn.bands.length (sn.length - blank)
          (sn.touchItems sn.admitted).length 0 { placed := [], before := 0, lastEnd := 0, boundary := 0 }
          (sn.touchItems sn.admitted)).placed) ∧
  ∀ (quiet : List Quiet) (times : List Nat) (B limit K k b0 : Nat) (st : Placing) (x : TouchItem),
    times.length = B + 1 → st.boundary ≤ B →
    let time := fun (j : Nat) => times.getD j 0
    let target := (k + 1) * time B / (K + 1)
    let far := fun (j : Nat) => |(time j : Int) - (target : Int)|
    let begins := fun (j : Nat) => max (time j + st.before) st.lastEnd
    let meets := fun (start : Nat) => ∃ y ∈ quiet, y.lo < (start : Int) + x.cost ∧ (start : Int) ≤ y.hi
    let at' := fun (j start : Nat) =>
      placeOne quiet times B limit K st k x =
        if start + x.cost ≤ limit then
          { placed := st.placed ++ [{ boundary := j, start := start, item := x }], before := st.before + x.cost
            lastEnd := start + x.cost, boundary := j }
        else { st with boundary := j }
    (∃ n ≤ B, b0 = max n st.boundary ∧ (∀ j ≤ B, far n ≤ far j) ∧ ∀ j, j < n → far n < far j) →
      (∀ j, b0 ≤ j → j ≤ B → ¬meets (begins j) → (∀ i, b0 ≤ i → i < j → meets (begins i)) → at' j (begins j)) ∧
      ((∀ i, b0 ≤ i → i ≤ B → meets (begins i)) → ∀ start, begins B ≤ start → ¬meets start →
        (∀ z, begins B ≤ z → z < start → meets z) → at' B start)

/-- FRAME_END while no stop is pending, the frame that starts: number n + 1, the ready plan with its length or else the
fallback plan of the build in progress, the FRAME command, the counts, the applied duty and the edge list. -/
def Obligations.FrameEndStartsNextFrame : Prop :=
  ∀ (p : Panel) (s : State) (start : Tick) (length : Nat), s.inReset = false →
    let x := s.panel p
    let number := x.frame.number + 1
    let blank := x.timing.nVb * x.timing.tLine
    let d := x.dimmer
    let duty := (d.frameDuty.getD d.applied)
    x.power.state = .scanning → x.power.stopPending = false → x.frame.start = some start →
    x.frame.length = some length → s.count = start.after length →
    ∀ plan T stretched late deferred,
      (∃ r, x.builder.ready = some r ∧ plan = r.plan ∧ T = r.length ∧ stretched = r.stretched ∧ late = false ∧
        deferred = r.deferred) ∨
      (x.builder.ready = none ∧ ∃ b, x.builder.build = some b ∧ plan = b.snapshot.fallbackPlan ∧
        T = max b.snapshot.length b.snapshot.fallbackCost ∧
        stretched = decide (b.snapshot.length < b.snapshot.fallbackCost) ∧ late = true ∧
        deferred = b.snapshot.deferredIn plan) →
    ∃ t, exec (.frameEnd p) s = .next t ∧
      (t.panel p).frame = { number := number, start := some s.count, length := some T, next := none } ∧
      (t.panel p).seq =
        some { plan := plan, position := 0, blankAt := T - blank, blankBegun := false, driving := [], refreshed := 0,
               touches := 0, deferred := deferred, stretched := stretched, late := late } ∧
      (t.panel p).builder =
        { x.builder with
          build := x.builder.build.map fun b => { b with frameLate := true }
          ready := none
          stretched := x.builder.stretched + (if stretched = true then 1 else 0)
          late := x.builder.late + (if late = true then 1 else 0) } ∧
      (t.panel p).link.lastCommand =
        some (.frame number (if number.toNat % 2 = 0 then .pos else .neg) T) ∧
      (t.panel p).dimmer.applied = (if d.darkNext = true then min duty d.settings.cap else duty) ∧
      (t.panel p).dimmer.edges = edgeList T (t.panel p).dimmer.applied d.settings.periods ∧
      (t.panel p).dimmer.frameDuty = none ∧ (t.panel p).dimmer.darkNow = d.darkNext ∧
      (t.panel p).dimmer.darkNext = false ∧
      (t.panel p).dimmer.enable = (d.enable || decide (x.frame.number = 0)) ∧
      (p = .centre → t.touch.deferred = s.touch.deferred + BitVec.ofNat 16 deferred) ∧
      (t.panel p).lock = x.lock ∧ (t.panel p).power = x.power ∧ (t.panel p).timing = x.timing ∧
      (t.panel (otherPanel p)).lock =
        (let o := (s.panel (otherPanel p))
         if o.power.state = .scanning ∧ o.lock.settings.source = .partner then
           { o.lock with inFlight := insertDue s.count (s.count.after o.lock.settings.partnerOffset) o.lock.inFlight }
         else o.lock)

/-- FRAME_END as a whole: the frame-end work of every block (`State.endsFrame`), with or without a stop pending, and then
the next frame's start or the end of the scan, each with its notices. Without a stop: FRAME_STRETCHED and PLAN_LATE of the
plan handed over, in the number of the frame that starts. With one: PANEL_STATE to READY, and with off pending the entry
into DRAIN; the lock keeps T_base (log entry 28). The order of notices that the spec leaves open is log entry 16: grants
and expectation entries in list order, GRANT_EXPIRED, INTEGRITY_FAULT, FRAME_REPORT, then FRAME_STRETCHED before
PLAN_LATE. -/
def Obligations.FrameEndWorkOfEveryBlock : Prop :=
  ∀ (p : Panel) (s : State) (e : Executing) (start : Tick) (length : Nat), s.inReset = false → s.grantsLegal →
    s.expectationsApart →
    let x := s.panel p
    let w := x.power
    let d := x.dimmer
    let number := x.frame.number + 1
    let run := exec (.frameEnd p) s
    w.state = .scanning → x.frame.start = some start → x.frame.length = some length → x.seq = some e →
    s.count = start.after length →
    ∃ u told, s.endsFrame u p e length told ∧
      (let y := u.panel p
       let o := u.panel (otherPanel p)
       (w.stopPending = false →
         ∀ plan T fixed stretched late deferred lent buildTime,
           (∃ r, x.builder.ready = some r ∧ plan = r.plan ∧ T = r.length ∧ fixed = r.fixed ∧
             stretched = r.stretched ∧ late = false ∧ deferred = r.deferred ∧ lent = r.mediaOwned) ∨
           (x.builder.ready = none ∧ ∃ b, x.builder.build = some b ∧ plan = b.snapshot.fallbackPlan ∧
             T = max b.snapshot.length b.snapshot.fallbackCost ∧ fixed = b.snapshot.length ∧
             stretched = decide (b.snapshot.length < b.snapshot.fallbackCost) ∧ late = true ∧
             deferred = b.snapshot.deferredIn plan ∧ buildTime = b.buildTime ∧
             (lent = true ↔ ∃ z ∈ b.snapshot.bands, z.mediaOwned = true)) →
           let duty := d.frameDuty.getD d.applied
           let applied := if d.darkNext = true then min duty d.settings.cap else duty
           let notice := fun (b : NoticeBody) => ({ panel := some p, frame := number, body := b } : Notice)
           let paired := o.power.state = .scanning ∧ o.lock.settings.source = .partner
           run = .next (postAll
             (told ++
               (if stretched = true then toPlan p lent (notice (.frameStretched fixed T late)) else []) ++
               (if late = true then
                 toPlan p lent (notice (.planLate buildTime (x.timing.planLead * x.timing.tLine) T)) else []))
             { (u.setPanel p { y with
                 frame := { number := number, start := some s.count, length := some T, next := none }
                 builder := { x.builder with
                   build := x.builder.build.map fun b => { b with frameLate := true }
                   ready := none
                   stretched := x.builder.stretched + (if stretched = true then 1 else 0)
                   late := x.builder.late + (if late = true then 1 else 0) }
                 seq := some
                   { plan := plan, position := 0, blankAt := T - x.timing.nVb * x.timing.tLine, blankBegun := false,
                     driving := [], refreshed := 0, touches := 0, deferred := deferred, stretched := stretched,
                     late := late }
                 link := { y.link with
                   lastCommand := some (.frame number (if number.toNat % 2 = 0 then .pos else .neg) T) }
                 dimmer := { d with
                   applied := applied, frameDuty := none, darkNow := d.darkNext, darkNext := false
                   enable := d.enable || decide (x.frame.number = 0)
                   edges := edgeList T applied d.settings.periods
                   active := d.active && !d.darkNext && decide (applied ≠ 0) } }).setPanel (otherPanel p)
                 { o with lock :=
                     if paired then
                       { o.lock with
                         inFlight := insertDue s.count (s.count.after o.lock.settings.partnerOffset) o.lock.inFlight }
                     else o.lock } with
               touch :=
                 if p = .centre then { u.touch with deferred := u.touch.deferred + BitVec.ofNat 16 deferred }
                 else u.touch })) ∧
       (w.stopPending = true →
         let stopped := { w with state := .ready, stopPending := false, offPending := false }
         let ended := fun (n : FrameNo) (power : Power) => postAll
           (told ++ toOwn p (s.noticeOf p (.panelState .scanning .ready .stopDone w.logicEn w.gateEn w.powerGood)))
           ((u.setPanel p { y with
               frame := { number := n, start := none, length := none, next := none }
               lock := x.lock.ended
               builder := { x.builder with build := none, ready := none }
               seq := none
               power := power }).setPanel (otherPanel p) { o with lock := { o.lock with inFlight := [] } })
         (w.offPending = false → run = .next (ended number stopped)) ∧
         (w.offPending = true → ∃ v, (ended x.frame.number stopped).drains v p .request ∧
           run = .next (v.setPanel p
             { v.panel p with frame := { (v.panel p).frame with number := number } }))))

/-- FRAME_END with stop pending ends the scan: READY, or DRAIN when off pending is set; no frame starts, the plan ready
or in build is discarded, the lock is FREE, partner markers for the other panel are discarded, the marks are clear. That
the lock keeps T_base is the model's choice, log entry 28. The notices are those of the frame-end work, then PANEL_STATE
to READY, and with off pending GRANT_REVOKED of the panel's grants and PANEL_STATE to DRAIN; the order that the spec leaves
open is log entry 16. -/
def Obligations.FrameEndAfterStopEndsScan : Prop :=
  ∀ (p : Panel) (s : State) (start : Tick) (length : Nat), s.inReset = false →
    let x := s.panel p
    x.power.state = .scanning → x.power.stopPending = true → x.frame.start = some start →
    x.frame.length = some length → s.count = start.after length →
    ∃ t, exec (.frameEnd p) s = .next t ∧
      (t.panel p).frame = { number := x.frame.number + 1, start := none, length := none, next := none } ∧
      (t.panel p).builder = { x.builder with build := none, ready := none } ∧ (t.panel p).seq = none ∧
      (t.panel p).lock =
        { x.lock with state := .free, correction := none, capture := none, previous := none, gapRef := none, good := 0,
                      miss := 0, inFlight := [] } ∧
      (t.panel (otherPanel p)).lock = { (s.panel (otherPanel p)).lock with inFlight := [] } ∧
      (t.panel p).dimmer = x.dimmer ∧
      (x.power.offPending = false →
        (t.panel p).power = { x.power with state := .ready, stopPending := false }) ∧
      (x.power.offPending = true →
        (t.panel p).power =
          { x.power with
            state := .drain, gateEn := false, stopPending := false, offPending := false, autostart := false
            step := some { step := .discharge, deadline := s.count.after (x.power.times.tC * 20000) } } ∧
        ∀ g ∈ t.grants.records, g.panel ≠ p) ∧
      ∀ e, x.seq = some e → s.grantsLegal → s.expectationsApart →
        ∃ u told gone, s.endsFrame u p e length told ∧ u.selects (fun g => g.panel = p) gone ∧
          (let w := x.power
           let all := told ++
             toOwn p (s.noticeOf p (.panelState .scanning .ready .stopDone w.logicEn w.gateEn w.powerGood)) ++
             (if w.offPending = true then u.revocations .drain gone ++
               toOwn p (s.noticeOf p (.panelState .ready .drain .request w.logicEn false w.powerGood)) else [])
           t.supervisor = (postAll all s).supervisor ∧ t.media = (postAll all s).media)

/-! ### Slot execution and the panel link -/

/-- LINE_WATCH by the checks of R84 in order: line 0xFFFF empties the position; the media port's watch on the cluster
needs a lent band. The reply carries the position's content before. -/
def Obligations.LineWatchByTable : Prop :=
  ∀ (q : Port) (tag : Byte) (p : Panel) (position line : Nat) (mode : Option WatchMode) (s : State), s.takes q →
    let x := s.panel p
    let put := fun (content : Option Watch) (w : WatchPair) =>
      if position = 0 then { w with pos0 := content } else { w with pos1 := content }
    let pair := match q with
      | .supervisor => x.supervisorWatch
      | .media => x.mediaWatch
    let before := if position = 0 then pair.pos0 else pair.pos1
    let done := fun (content : Option Watch) => match q with
      | .supervisor => s.setPanel p { x with supervisorWatch := put content pair }
      | .media => s.setPanel p { x with mediaWatch := put content pair }
    let run := exec (.lineWatch q tag (panelNumber p) position line mode) s
    (∀ panel, 1 < panel →
      exec (.lineWatch q tag panel position line mode) s = .next (placeReply q tag 0x07 (refuse .badParam) s)) ∧
    (1 < position → run = .next (placeReply q tag 0x07 (refuse .badParam) s)) ∧
    (position ≤ 1 → line = 0xFFFF → run = .next (placeReply q tag 0x07 (accept (.watch before)) (done none))) ∧
    (position ≤ 1 → line ≠ 0xFFFF →
      AnswersBy q tag 0x07 run s
        [(mode = none ∨ x.timing.nAct ≤ line, .badParam),
         (q = .media ∧ p = .cluster ∧
            ¬(∃ i b, s.cluster.bands.records[i]? = some b ∧ s.cluster.bands.holdsLine i b line ∧ s.lendsBand i b),
           .notPermitted)]
        (done (some { line := line, mode := mode.getD .oneShot })) (.watch before))

/-- CRC_SET by the checks of R81 in order: the band becomes CHECKED with the CRC given and count 0, its expectation is
dropped, and a limit field other than 0 replaces the mismatch limit and zeroes every count. -/
def Obligations.CrcSetByTable : Prop :=
  ∀ (q : Port) (tag : Byte) (band : Nat) (crc : Crc) (limit : Nat) (s : State), s.takes q →
    let x := s.cluster
    let inForce := if limit = 0 then s.mismatchLimit else limit
    let zeroed := x.bands.records.map fun y => if limit = 0 then y else { y with mismatches := 0 }
    AnswersWith q tag 0x08 (exec (.crcSet q tag band crc limit) s) s
      [(q = .media, .notPermitted),
       (x.bands.records.length ≤ band, .badParam),
       (∃ b, x.bands.records[band]? = some b ∧ b.cls = .normal, .badParam),
       (7 < limit, .badParam)]
      fun t r => ∃ b, x.bands.records[band]? = some b ∧ r = .crcSet b.expected inForce ∧
        t = { s with
          mismatchLimit := inForce
          cluster := { x with
            bands := { x.bands with records := zeroed.set band { b with expected := some crc, mismatches := 0 } }
            link := { x.link with expectations := x.link.expectations.filter fun e => e.band != band } } }

/-- REFRESH_SLOT_START in the order of R71: the record, the grant that covers the band, the expectation of a CHECKED
protected band that no grant covers, the BAND command, the line watches. REFRESH_SLOT_END: the band leaves
drive, and each PENDING grant that covers it becomes GRANTED with GRANT_READY to its port. Nothing else changes. That the
LINE_REACHED notices of one slot start come in order of port and position is the model's choice, log entry 16. -/
def Obligations.RefreshSlotsAct : Prop :=
  (∀ (p : Panel) (s : State) (e : Executing) (start : Tick) (slot : Slot) (i : Nat) (pol : FramePolarity) (b : Band),
      s.inReset = false → s.grantsLegal →
      let x := s.panel p
      x.seq = some e → x.frame.start = some start → e.plan.slots[e.position]? = some slot → slot.kind = .refresh i pol →
      s.count = start.after slot.start → x.bands.records[i]? = some b →
      let positive := x.frame.number.toNat % 2 = 0
      let lo := x.bands.firstLine i
      let hi := lo + b.lines
      ∃ report : Bool, (report = true ↔ p = .cluster ∧ b.cls = .guarded ∧ b.expected.isSome = true ∧ ¬s.granted p i) ∧
        let torn := (s.grants.records.filter fun g => g.covers p i && decide (g.state ≠ .torn)).map fun g =>
          (g.port, s.noticeOf p (.grantTorn g.id i g.state))
        let others := x.link.expectations.filter fun y => y.band != i
        let t := { s.setPanel p { x with
            bands := { x.bands with
              records := x.bands.records.set i
                { b with dirty := false, hold := 0, balance := if positive then b.balance + 1 else b.balance - 1 } }
            link :=
              { expectations :=
                  if report then others ++ [{ frame := x.frame.number, band := i, crc := b.expected.getD 0 }]
                  else x.link.expectations
                lastCommand := some (.band lo b.lines (if positive then .pos else .neg) report) }
            seq := some { e with
              position := e.position + 1
              refreshed := e.refreshed + 1
              driving := e.driving ++ [{ band := i, ends := s.count.after slot.cost }] }
            supervisorWatch := x.supervisorWatch.after lo hi
            mediaWatch := x.mediaWatch.after lo hi } with
          grants := { s.grants with
            records := s.grants.records.map fun g => if g.covers p i then { g with state := .torn } else g } }
        exec (.refreshSlotStart p) s = .next (postAll (torn ++ s.reached p lo hi i true) t)) ∧
  ∀ (p : Panel) (s : State) (e : Executing) (d : Drive) (rest : List Drive), s.inReset = false → s.grantsLegal →
    (s.panel p).seq = some e → e.driving = d :: rest → d.ends = s.count →
    let waiting := fun (g : Grant) => g.covers p d.band && decide (g.state = .pending)
    exec (.refreshSlotEnd p) s =
      .next (postAll
        ((s.grants.records.filter waiting).map fun g => (g.port, s.noticeOf p (.grantReady g.id g.first g.last)))
        { s.setPanel p { s.panel p with seq := some { e with driving := rest } } with
          grants := { s.grants with
            records := s.grants.records.map fun g => if waiting g then { g with state := .granted } else g } })

/-- SKIP_SLOT_START, TOUCH_SLOT_START, LISTEN_SLOT_START and BLANK_START: the link command of each; the line watches of a
skipped band; for a sensing slot the slot command with the next tag and a result wait up to the timeout after the slot's
end, the named group's age 0, or the listen pointer moved past the candidate. Nothing else changes. The blank begins after
every slot that starts at its instant (R70, R74). That the LINE_REACHED
notices of one slot start come in order of port and position is the model's choice, log entry 16. -/
def Obligations.OtherSlotStartsAct : Prop :=
  ∀ (p : Panel) (s : State) (e : Executing) (start : Tick), s.inReset = false →
    let x := s.panel p
    x.seq = some e → x.frame.start = some start →
    let sent := fun (e' : Executing) (c : LinkCommand) =>
      { x with seq := some e', link := { x.link with lastCommand := some c } }
    (e.blankBegun = false → s.count = start.after e.blankAt →
      (∀ slot, e.plan.slots[e.position]? = some slot → s.count ≠ start.after slot.start) →
      exec (.blankStart p) s =
        .next (s.setPanel p (sent { e with blankBegun := true } (.idleBlank (x.timing.nVb * x.timing.tLine))))) ∧
    (∀ slot, e.plan.slots[e.position]? = some slot → s.count = start.after slot.start →
      exec (.blankStart p) s = .next s) ∧
    ∀ slot, e.plan.slots[e.position]? = some slot → s.count = start.after slot.start →
      (∀ i b, slot.kind = .skip i → x.bands.records[i]? = some b →
        let lo := x.bands.firstLine i
        let hi := lo + b.lines
        let y := sent { e with position := e.position + 1 } (.idleSkip i x.timing.tSkip)
        exec (.skipSlotStart p) s =
          .next (postAll (s.reached p lo hi i false)
            (s.setPanel p
              { y with
                supervisorWatch := x.supervisorWatch.after lo hi, mediaWatch := x.mediaWatch.after lo hi }))) ∧
      (p = .centre →
        let y := sent { e with position := e.position + 1, touches := e.touches + 1 } (.pause slot.cost)
        let wait := fun (group : Option Nat) (candidate period : Nat) =>
          ({ tag := s.touch.nextTag, group := group, candidate := candidate, period := period,
             deadline := (s.count.after slot.cost).after s.touch.scan.timeout } : Wait)
        (∀ g code bursts candidate period, slot.kind = .touch g code bursts candidate period →
          exec .touchSlotStart s = .next { s with
            centre := y
            touch := { s.touch with
              groups := s.touch.groups.map fun z => if z.id = g then { z with age := 0 } else z
              lastCommand := some
                { tag := s.touch.nextTag, code := code, bursts := bursts, period := period, listen := false }
              nextTag := s.touch.nextTag + 1
              waits := s.touch.waits ++ [wait (some g) candidate period] } }) ∧
        ∀ candidate period bursts, slot.kind = .listen candidate period bursts → candidate ≤ 5 →
          exec .listenSlotStart s = .next { s with
            centre := y
            touch := { s.touch with
              listenPtr := (candidate + 1) % 6
              lastCommand := some
                { tag := s.touch.nextTag, code := 0, bursts := bursts, period := period, listen := true }
              nextTag := s.touch.nextTag + 1
              waits := s.touch.waits ++ [wait none candidate period] } })

/-- BAND_REPORT: discarded when its link check fails, on the centre link, and when it matches no entry; else the entry
leaves, an equal CRC zeroes the count, another raises it up to the limit, and at the limit INTEGRITY is set, with
INTEGRITY_FAULT when it was clear. -/
def Obligations.BandReportsAreCompared : Prop :=
  ∀ (frame : FrameNo) (band : Nat) (crc : Crc) (s : State), s.inReset = false →
    let x := s.cluster
    (∀ p, exec (.bandReport p frame band crc false) s = .next s) ∧
    (∀ ok, exec (.bandReport .centre frame band crc ok) s = .next s) ∧
    ((∀ e ∈ x.link.expectations, ¬(e.frame = frame ∧ e.band = band)) →
      exec (.bandReport .cluster frame band crc true) s = .next s) ∧
    ((x.link.expectations.map Expectation.band).Nodup → ∀ e ∈ x.link.expectations, e.frame = frame → e.band = band →
      ∀ b, x.bands.records[band]? = some b →
      let count := min (b.mismatches + 1) s.mismatchLimit
      let after := fun (n : Nat) => { s with cluster := { x with
        bands := { x.bands with records := x.bands.records.set band { b with mismatches := n } }
        link := { x.link with expectations := x.link.expectations.filter fun y => y.band != band } } }
      let faulted := { after count with faults := { s.faults with integrity := true } }
      let run := exec (.bandReport .cluster frame band crc true) s
      (crc = e.crc → run = .next (after 0)) ∧
      (crc ≠ e.crc → b.mismatches + 1 < s.mismatchLimit → run = .next (after count)) ∧
      (crc ≠ e.crc → s.mismatchLimit ≤ b.mismatches + 1 → s.faults.integrity = true → run = .next faulted) ∧
      (crc ≠ e.crc → s.mismatchLimit ≤ b.mismatches + 1 → s.faults.integrity = false →
        run = .next (post .supervisor (s.noticeOf .cluster (.integrityFault frame band e.crc (some crc) count)) faulted)))

/-! ### Touch scanning and frequency selection -/

/-- TOUCH_GROUPS by the checks of R89 in order: the list is replaced by the entries in order of id, each of age 255, and
the settings are replaced. -/
def Obligations.TouchGroupsByTable : Prop :=
  ∀ (q : Port) (tag : Byte) (scan : ScanRequest) (count : Nat) (entries : List GroupEntry) (s : State), s.takes q →
    AnswersWith q tag 0x09 (exec (.touchGroups q tag scan count entries) s) s
      [(s.touch.state ≠ .disabled, .wrongState),
       (¬(1 ≤ count ∧ count ≤ 16) ∨ count ≠ entries.length, .badParam),
       ((∃ e ∈ entries, 15 < e.id) ∨ ¬(entries.map GroupEntry.id).Nodup, .badParam),
       (∃ e ∈ entries, ¬(1 ≤ e.interval ∧ e.interval ≤ 8 ∧ 8 ≤ e.bursts ∧ e.bursts ≤ 255 ∧ e.enabled.isSome = true),
         .badParam),
       (¬(scan.tGuard ≤ 1023 ∧ 8 ≤ scan.listenBursts ∧ scan.listenBursts ≤ 64 ∧ scan.edgeGuard ≤ 4095 ∧
          scan.crossCoupling.isSome = true ∧ 50 ≤ scan.timeout ∧ scan.timeout ≤ 5000), .badParam)]
      fun t r => ∃ groups : List Group,
        t = { s with touch := { s.touch with
          groups := groups
          scan := { tGuard := scan.tGuard, listenBursts := scan.listenBursts, edgeGuard := scan.edgeGuard,
                    crossCoupling := scan.crossCoupling.getD false, timeout := scan.timeout } } } ∧
        groups.Pairwise (fun x y => x.id < y.id) ∧
        groups.Perm (entries.map fun e =>
          { id := e.id, code := e.code, interval := e.interval, bursts := e.bursts, enabled := e.enabled.getD false,
            age := 255 }) ∧
        r = .touchGroups entries.length (entries.countP fun e => decide (e.enabled = some true))

/-- FREQ_TABLE by the checks of R97 in order: periods, permissions, hysteresis and hop hold are replaced, and a candidate
whose period changes is unmeasured. Fewer or more than six candidates do not fit the kind (R166, check 3). -/
def Obligations.FreqTableByTable : Prop :=
  ∀ (q : Port) (tag : Byte) (entries : List FreqEntry) (hysteresis hopHold : Nat) (s : State), s.takes q →
    (entries.length ≠ 6 →
      exec (.freqTable q tag entries hysteresis hopHold) s = .next (placeReply q tag 0x0C (refuse .badParam) s)) ∧
    (entries.length = 6 → s.touch.candidates.length = 6 →
      AnswersBy q tag 0x0C (exec (.freqTable q tag entries hysteresis hopHold) s) s
        [((∃ e ∈ entries, ¬(40 ≤ e.period ∧ e.period ≤ 400 ∧ e.permission.isSome = true)) ∨ 8192 < hysteresis ∨
            ¬(1 ≤ hopHold ∧ hopHold ≤ 255), .badParam),
         (∀ e ∈ entries, e.permission = some .banned, .badParam)]
        { s with touch := { s.touch with
          candidates := List.zipWith
            (fun (old : Candidate) (e : FreqEntry) =>
              { period := e.period, permission := e.permission.getD .banned,
                average := if e.period = old.period then old.average else 65520 })
            s.touch.candidates entries
          hysteresis := hysteresis
          hopHold := hopHold } }
        (.freqTable s.touch.active (entries.countP fun e => decide (e.permission = some .allowed))))

/-- SENSE_RESULT: a failed link check discards; a tag of no outstanding wait counts as late; a match removes the wait,
zeroes the consecutive-missing count, and updates the average of the wait's candidate when its period is the recorded one;
that a period changed and changed back counts as the recorded one is the model's choice, log entry 37.
RESULT_DEADLINE: the wait leaves, both counts rise, and the third consecutive one suspends ENABLED touch with
TOUCH_FRONTEND_FAULT to the media port. -/
def Obligations.ResultsAndDeadlines : Prop :=
  ∀ (tag : Byte) (noise : Noise) (saturated : Bool) (s : State), s.inReset = false →
    let x := s.touch
    let run := exec (.senseResult tag noise saturated true) s
    let n := if saturated = true then 4095 else noise.toNat
    exec (.senseResult tag noise saturated false) s = .next s ∧
    ((∀ w ∈ x.waits, w.tag ≠ tag) → run = .next { s with touch := { x with lateResults := x.lateResults + 1 } }) ∧
    ∀ before w after, x.waits = before ++ w :: after → w.tag = tag →
      ((∀ v ∈ before, v.tag ≠ tag) →
        ∃ candidates,
          run = .next
            { s with touch := { x with waits := before ++ after, missing := 0, candidates := candidates } } ∧
          candidates.length = x.candidates.length ∧
          ∀ i (c : Candidate), x.candidates[i]? = some c → candidates[i]? = some { c with
            average :=
              if i = w.candidate ∧ c.period = w.period then
                if c.average = 65520 then 16 * n
                else ((c.average : Int) + ((16 * n : Nat) - (c.average : Int)).tdiv 8).toNat
              else c.average }) ∧
      ((∀ v ∈ before, ¬(v.tag = tag ∧ v.deadline = s.count)) → w.deadline = s.count →
        let suspends := x.state = .enabled ∧ 3 ≤ x.missing + 1
        let t := { s with touch := { x with
          waits := before ++ after
          missingResults := x.missingResults + 1
          missing := min (x.missing + 1) 3
          state := if suspends then .suspended else x.state } }
        (¬suspends → exec (.resultDeadline tag) s = .next t) ∧
        (suspends → exec (.resultDeadline tag) s =
          .next (post .media (s.noticeOf .centre (.touchFrontendFault tag (before ++ after).length)) t)))

/-- The frequency decision of a centre plan point: off a BANNED candidate at once; else, ENABLED and past the hop hold,
when the active average exceeds the lowest among the other ALLOWED candidates plus the hysteresis; always to the ALLOWED
candidate with the lowest average. The listen candidate is then the first ALLOWED one from the listen pointer on that is
not active. TOUCH_HOP goes to the media port, after the LOCK_STATE of the same plan point (R8, R20, R46). -/
def Obligations.FrequencyDecision : Prop :=
  ∀ (s : State) (a : Candidate), s.inReset = false → s.planPointDue .centre = true →
    let x := s.touch
    x.candidates[x.active]? = some a →
    let rival := ∃ j d, x.quietest (· ≠ x.active) j d ∧ d.average + x.hysteresis < a.average
    let noisy := x.state = .enabled ∧ x.hopHold ≤ x.sinceHop ∧ rival
    let left := s.centre.lock.state
    let told := fun (st : LockState) =>
      if (left = .seek ∧ st = .locked) ∨ ((left = .locked ∨ left = .hold) ∧ st = .seek) then
        toBoth (s.noticeOf .centre (.lockState left st s.centre.lock.tBase))
      else []
    ∃ t : State, exec (.planPoint .centre) s = .next t ∧
      t.touch = { x with active := t.touch.active, sinceHop := t.touch.sinceHop } ∧
      (∀ i c, x.quietest (fun _ => True) i c → (a.permission = .banned ∨ noisy) →
        t.touch.active = i ∧ t.touch.sinceHop = 0 ∧
        t.media = (postAll (told t.centre.lock.state ++ [(.media, s.noticeOf .centre
          (.touchHop (if a.permission = .banned then .ban else .noise) x.active a.average i c.average x.sinceHop))])
          s).media) ∧
      (a.permission = .allowed → ¬noisy → t.touch = x ∧ t.media = (postAll (told t.centre.lock.state) s).media) ∧
      ∃ b y, t.centre.builder.build = some b ∧ b.snapshot.touch = some y ∧
        (∀ k c, k < 6 → x.allows ((x.listenPtr + k) % 6) c → (x.listenPtr + k) % 6 ≠ t.touch.active →
          (∀ j d, j < k → ¬(x.allows ((x.listenPtr + j) % 6) d ∧ (x.listenPtr + j) % 6 ≠ t.touch.active)) →
          y.listen = some { candidate := (x.listenPtr + k) % 6, period := c.period }) ∧
        ((∀ k c, k < 6 → x.allows ((x.listenPtr + k) % 6) c → (x.listenPtr + k) % 6 = t.touch.active) →
          y.listen = none)

/-! ### Backlight dimming -/

/-- BACKLIGHT by the checks of R106 in order: the five settings are replaced, and periods and polarity only in OFF or
READY. The reply carries the applied duty, the frame duty fixed, and the enable. -/
def Obligations.BacklightByTable : Prop :=
  ∀ (q : Port) (tag : Byte) (p : Panel) (r : DimmerRequest) (s : State), s.takes q →
    let x := s.panel p
    let d := x.dimmer
    (∀ panel, 1 < panel →
      exec (.backlight q tag panel r) s = .next (placeReply q tag 0x0E (refuse .badParam) s)) ∧
    AnswersBy q tag 0x0E (exec (.backlight q tag (panelNumber p) r) s) s
      [(q = .media ∧ p = .cluster, .notPermitted),
       (q = .media ∧ p = .centre ∧ s.timingLock = true, .timingLocked),
       (¬(r.target ≤ 1024 ∧ 1 ≤ r.ramp ∧ r.ramp ≤ 1024 ∧ 1 ≤ r.periods ∧ r.periods ≤ 16 ∧ r.polarity.isSome = true ∧
          r.cap ≤ 1024), .badParam),
       ((r.periods ≠ d.settings.periods ∨ r.polarity ≠ some d.settings.polarity) ∧ x.power.state ≠ .off ∧
          x.power.state ≠ .ready, .wrongState)]
      (s.setPanel p { x with dimmer := { d with
        settings := { target := r.target, ramp := r.ramp, periods := r.periods,
                      polarity := r.polarity.getD .activeHigh, cap := r.cap } } })
      (.backlight d.applied d.frameDuty d.enable)

/-- The edge list of R108, in order of time; and PWM_EDGE drives its next edge: a fall to the off level, a rise to the
active level, a rise of a dark-capped frame withheld. The level after a withheld rise at an active output is a free value
(log entry 15). -/
def Obligations.EdgesAreFormedAndDriven : Prop :=
  (∀ T d m : Nat, 100000 ≤ T → 1 ≤ m → m ≤ 16 → d ≤ 1024 →
    (d = 0 → edgeList T d m = []) ∧
    (0 < d → ∀ x, x ∈ edgeList T d m ↔
      ∃ k, k < m ∧ (x = { time := k * (T / m), rising := true } ∨
        (d < 1024 ∧ x = { time := k * (T / m) + d * (T / m) / 1024, rising := false }))) ∧
    (edgeList T d m).Pairwise (fun x y => x.time < y.time) ∧ ∀ x ∈ edgeList T d m, x.time < T) ∧
  ∀ (p : Panel) (s : State) (start : Tick) (e : Edge) (rest : List Edge), s.inReset = false →
    let x := s.panel p
    let d := x.dimmer
    x.frame.start = some start → d.edges = e :: rest → s.count = start.after e.time →
    ∃ level, exec (.pwmEdge p) s = .next
        { s.setPanel p { x with dimmer := { d with edges := rest, active := level } } with free := s.free + 1 } ∧
      (e.rising = false → level = false) ∧ (e.rising = true → d.darkNow = false → level = true) ∧
      (e.rising = true → d.darkNow = true → d.active = false → level = false)

/-! ### Lend windows -/

/-- WINDOW_OPEN by the checks of R116 in order, with the limit normalised as R117 says: the window opens, the reply
carries the stored limit, the panel end and the number of bands lent, and WINDOW_OPENED goes to the media port, with 0xFF
as the first band lent when none is (R118). -/
def Obligations.WindowOpenByTable : Prop :=
  ∀ (q : Port) (tag : Byte) (i cb pb z limit : Nat) (s : State), s.takes q →
    let size := pb + 2 ^ z
    let aside := limit = 0 ∨ limit < pb ∨ size < limit
    let stored := if aside then 0 else limit
    let pe := if aside then size else limit
    let shares := fun (a b c d : Nat) => ∃ line, a ≤ line ∧ line < b ∧ c ≤ line ∧ line < d
    let lends := fun (j : Nat) => ∃ b, s.cluster.bands.records[j]? = some b ∧ b.cls = .normal ∧
      pb ≤ s.cluster.bands.firstLine j ∧ s.cluster.bands.firstLine j + b.lines ≤ pe
    AnswersWith q tag 0x0F (exec (.windowOpen q tag i cb pb z limit) s) s
      [(q = .media, .notPermitted),
       (3 < i ∨ 4095 < cb ∨ 2048 < pb ∨ ¬(4 ≤ z ∧ z ≤ 11), .badParam),
       (s.monitor.state = .fault, .faulted),
       (∃ v, s.windows.slots[i]? = some (some v), .wrongState),
       (s.cluster.timing.nAct < pe ∨ 4096 < cb + (pe - pb), .badParam),
       (∃ v, some v ∈ s.windows.slots ∧
          (shares v.panelBase v.panelEnd pb pe ∨
            shares v.canvasBase (v.canvasBase + (v.panelEnd - v.panelBase)) cb (cb + (pe - pb))), .overlap)]
      fun t r => ∃ lent first, CountsBands s.cluster.bands.records.length lends lent ∧
        (∀ j, lends j → (∀ k, k < j → ¬lends k) → first = j) ∧ ((∀ j, ¬lends j) → first = 0xFF) ∧
        r = .windowOpen stored pe lent ∧
        t = post .media (s.noticeOf .cluster (.windowOpened i cb pb pe first lent)) { s with
          windows := { s.windows with slots := s.windows.slots.set i (some
            { canvasBase := cb, panelBase := pb, sizeCode := z, storedLimit := stored, panelEnd := pe }) } }

/-- WINDOW_CLOSE by the checks of R122 in order: every media grant whose range includes a lent band is revoked, the window
becomes CLOSED, and GRANT_REVOKED and WINDOW_CLOSED go to the media port. That several GRANT_REVOKED come in the order of
the grant list is the model's choice, log entry 16. -/
def Obligations.WindowCloseByTable : Prop :=
  ∀ (q : Port) (tag : Byte) (i : Nat) (s : State), s.takes q → s.grantsLegal →
    AnswersWith q tag 0x10 (exec (.windowClose q tag i) s) s
      [(q = .media, .notPermitted),
       (3 < i, .badParam),
       (¬∃ v, s.windows.slots[i]? = some (some v), .wrongState)]
      fun t r => ∃ w gone returned u, s.windows.slots[i]? = some (some w) ∧
        (let lends := fun (j : Nat) => ∃ b, s.cluster.bands.records[j]? = some b ∧ b.cls = .normal ∧
          w.panelBase ≤ s.cluster.bands.firstLine j ∧ s.cluster.bands.firstLine j + b.lines ≤ w.panelEnd
         s.selects (fun g => g.port = .media ∧ g.panel = .cluster ∧ ∃ j, g.first ≤ j ∧ j ≤ g.last ∧ lends j) gone ∧
         CountsBands s.cluster.bands.records.length lends returned) ∧
        s.endsGrants u gone ∧ r = .windowClose returned gone.length ∧
        t = postAll (s.revocations .windowClose gone ++
            [(.media, s.noticeOf .cluster
              (.windowClosed i .request w.canvasBase w.panelBase w.panelEnd returned gone.length))])
          { u with windows := { s.windows with slots := s.windows.slots.set i none } }

/-! ### Write grants -/

/-- WRITE_OPEN by the checks of R129 in order: the grant joins the list with the next id, PENDING exactly when a band of
its range is in drive; the next id advances past every id held. -/
def Obligations.WriteOpenByTable : Prop :=
  ∀ (q : Port) (tag : Byte) (p : Panel) (first last lifetime : Nat) (s : State), s.takes q → s.grantsLegal →
    let x := s.panel p
    (∀ panel, 1 < panel →
      exec (.writeOpen q tag panel first last lifetime) s = .next (placeReply q tag 0x12 (refuse .badParam) s)) ∧
    AnswersWith q tag 0x12 (exec (.writeOpen q tag (panelNumber p) first last lifetime) s) s
      [(last < first ∨ x.bands.records.length ≤ last ∨ 63 < lifetime, .badParam),
       (x.power.state ≠ .ready ∧ x.power.state ≠ .scanning, .wrongState),
       (∃ i b, first ≤ i ∧ i ≤ last ∧ x.bands.records[i]? = some b ∧ ¬(s.mediaBand p i b ↔ q = .media), .notPermitted),
       (∃ i, first ≤ i ∧ i ≤ last ∧ s.granted p i, .overlap),
       (8 ≤ s.grants.records.length ∨ 4 ≤ s.grants.records.countP (fun g => decide (g.port = q)), .full)]
      fun t r => ∃ state next k,
        (state = .pending ↔ ∃ e d, x.seq = some e ∧ d ∈ e.driving ∧ first ≤ d.band ∧ d.band ≤ last) ∧
        (state = .pending ∨ state = .granted) ∧
        (let g : Grant :=
          { id := s.grants.nextId, port := q, panel := p, first := first, last := last, state := state, held := 0,
            lifetime := if lifetime = 0 then 8 else lifetime }
         let held := fun (n : Nat) => ∃ y ∈ s.grants.records ++ [g], y.id = n
         next = (s.grants.nextId + k) % 255 + 1 ∧ ¬held next ∧
           (∀ j, j < k → held ((s.grants.nextId + j) % 255 + 1)) ∧
           r = .writeOpen g.id state g.lifetime ∧
           t = { s with grants := { records := s.grants.records ++ [g], nextId := next } })

/-- WRITE_CLOSE by the checks of R134 in order: the grant leaves, its bands become dirty, and its PROTECTED bands take the
CRCs of the list in band order, or become UNCHECKED with an empty list; their expectations are dropped. -/
def Obligations.WriteCloseByTable : Prop :=
  ∀ (q : Port) (tag : Byte) (id : Nat) (crcs : List Crc) (s : State), s.takes q → s.grantsLegal →
    let guardedIn := fun (g : Grant) (stop : Nat) =>
      (((s.panel g.panel).bands.records.take stop).drop g.first).countP fun b => decide (b.cls = .guarded)
    AnswersWith q tag 0x13 (exec (.writeClose q tag id crcs) s) s
      [(¬∃ g ∈ s.grants.records, g.port = q ∧ g.id = id, .noGrant),
       (∃ g ∈ s.grants.records, g.port = q ∧ g.id = id ∧ crcs ≠ [] ∧ crcs.length ≠ guardedIn g (g.last + 1),
         .badParam)]
      fun t r => ∃ g records expectations, g ∈ s.grants.records ∧ g.port = q ∧ g.id = id ∧
        r = .writeClose g.state g.held (g.last + 1 - g.first) ∧
        (let x := s.panel g.panel
         records.length = x.bands.records.length ∧
         (∀ (i : Nat) (b : Band), x.bands.records[i]? = some b →
           (¬(g.first ≤ i ∧ i ≤ g.last) → records[i]? = some b) ∧
           (g.first ≤ i ∧ i ≤ g.last → b.cls = .normal → records[i]? = some { b with dirty := true }) ∧
           (g.first ≤ i ∧ i ≤ g.last → b.cls = .guarded →
             records[i]? = some { b with dirty := true, expected := crcs[guardedIn g i]?, mismatches := 0 })) ∧
         (∀ e, e ∈ expectations ↔ e ∈ x.link.expectations ∧
           ¬(g.panel = .cluster ∧ g.first ≤ e.band ∧ e.band ≤ g.last ∧
             ∃ b, x.bands.records[e.band]? = some b ∧ b.cls = .guarded)) ∧
         expectations.Sublist x.link.expectations ∧
         t = { s.setPanel g.panel
             { x with bands := { x.bands with records := records }, link := { x.link with expectations := expectations } }
           with grants := { s.grants with records := s.grants.records.filter fun y => decide (y ≠ g) } })

/-- GRANT_EXPIRY at the frame end at which the grant reaches its lifetime limit: the grant ends, and GRANT_EXPIRED goes to
its port with the frames held at the limit. That the row may be taken ahead of FRAME_END is the model's choice, log entry
17. -/
def Obligations.GrantExpiryEndsGrant : Prop :=
  ∀ (s : State) (g : Grant) (start : Tick) (length : Nat), s.inReset = false → s.grantsLegal →
    let x := s.panel g.panel
    g ∈ s.grants.records → g.lifetime ≤ g.held + 1 → x.power.state = .scanning → x.frame.start = some start →
    x.frame.length = some length → s.count = start.after length →
    ∃ u, s.endsGrants u [g] ∧
      exec (.grantExpiry g.id) s =
        .next (post g.port (s.noticeOf g.panel (.grantExpired g.id g.state (g.held + 1) (g.last + 1 - g.first))) u)

/-! ### Panel power sequencing -/

/-- PANEL_ON, PANEL_STOP and PANEL_OFF by the checks of R141 in order, each with its effect by power state: the ramp with
its step times, the pending stop with the backlight off, the drain or the pending off. Every OK reply carries the state
and the marks after the request. That several GRANT_REVOKED of a drain come in the order of the grant list is the model's
choice, log entry 16. -/
def Obligations.PanelOnStopOffByTable : Prop :=
  ∀ (q : Port) (tag : Byte) (s : State), s.takes q →
    (∀ panel tA tB tC, 1 < panel →
      exec (.panelOn q tag panel tA tB tC) s = .next (placeReply q tag 0x14 (refuse .badParam) s) ∧
      exec (.panelStop q tag panel) s = .next (placeReply q tag 0x16 (refuse .badParam) s) ∧
      exec (.panelOff q tag panel) s = .next (placeReply q tag 0x17 (refuse .badParam) s)) ∧
    ∀ p,
      let x := s.panel p
      let w := x.power
      let pick := fun (field present : Nat) => if field = 0 then present else field
      (∀ tA tB tC, tA ≤ 255 → tB ≤ 255 → tC ≤ 255 →
        let times : StepTimes := { tA := pick tA w.times.tA, tB := pick tB w.times.tB, tC := pick tC w.times.tC }
        AnswersBy q tag 0x14 (exec (.panelOn q tag (panelNumber p) tA tB tC) s) s
          [(q = .media ∧ p = .cluster, .notPermitted), (w.state ≠ .off, .wrongState)]
          (postAll (toOwn p (s.noticeOf p (.panelState .off .ramp .request true w.gateEn w.powerGood)))
            (s.setPanel p { x with power := { w with
              times := times, logicEn := true, state := .ramp
              step := some { step := .gateWait, deadline := s.count.after (times.tA * 20000) } } }))
          (.power { state := .ramp, stopPending := w.stopPending, offPending := w.offPending })) ∧
      AnswersBy q tag 0x16 (exec (.panelStop q tag (panelNumber p)) s) s
        [(q = .media ∧ p = .cluster, .notPermitted), (w.state ≠ .scanning, .wrongState)]
        (if w.stopPending = true then s
        else s.setPanel p { x with dimmer := x.dimmer.darkened, power := { w with stopPending := true } })
        (.power { state := .scanning, stopPending := true, offPending := w.offPending }) ∧
      AnswersWith q tag 0x17 (exec (.panelOff q tag (panelNumber p)) s) s
        [(q = .media ∧ p = .cluster, .notPermitted)]
        fun t r =>
          (w.state = .off ∨ w.state = .drain → t = s) ∧
          (w.state = .ramp ∨ w.state = .ready → s.grantsLegal → s.drains t p .request) ∧
          (w.state = .scanning → t = s.setPanel p { x with
            dimmer := if w.stopPending = true then x.dimmer else x.dimmer.darkened
            power := { w with stopPending := true, offPending := true } }) ∧
          r = .power { state := (t.panel p).power.state, stopPending := (t.panel p).power.stopPending,
                       offPending := (t.panel p).power.offPending }

/-- PANEL_START by the checks of R141: frame 0 starts at once with every band refreshed at POS, length T_nom or the
full-refresh cost when that is larger, the records cleared, the lock FREE or SEEK by its source; PANEL_STATE is posted,
and FRAME_STRETCHED when the cost is larger; the other panel may get a partner marker. That PANEL_STATE comes before
FRAME_STRETCHED is the model's choice, log entry 16. -/
def Obligations.PanelStartByTable : Prop :=
  ∀ (q : Port) (tag : Byte) (p : Panel) (s : State), s.takes q → s.scanLegal →
    let x := s.panel p
    (∀ panel, 1 < panel →
      exec (.panelStart q tag panel) s = .next (placeReply q tag 0x15 (refuse .badParam) s)) ∧
    AnswersWith q tag 0x15 (exec (.panelStart q tag (panelNumber p)) s) s
      [(q = .media ∧ p = .cluster, .notPermitted), (x.power.state ≠ .ready, .wrongState)]
      fun t r => ∃ length, s.beginsScan t p length ∧
        r = .panelStart { state := .scanning, stopPending := false, offPending := false } (some length)

/-- GATE_WAIT_EXPIRY raises GATE_EN and starts SETTLE; SETTLE_EXPIRY reaches READY with power-good high, with the autostart
mark set then starts the scan at once as PANEL_START does (R176), and drains with POWER when it is low; DISCHARGE_EXPIRY
lowers LOGIC_EN and reaches OFF. That several GRANT_REVOKED of a drain come in the order of the grant list, and
PANEL_STATE before FRAME_STRETCHED, is the model's choice, log entry 16. -/
def Obligations.PowerStepsExpire : Prop :=
  ∀ (p : Panel) (s : State), s.inReset = false →
    let x := s.panel p
    let w := x.power
    let now := fun (k : PowerStep) => w.step = some { step := k, deadline := s.count }
    let told := fun (left entered : PowerState) (logicEn powerGood : Bool) =>
      toOwn p (s.noticeOf p (.panelState left entered .stepDone logicEn w.gateEn powerGood))
    (now .gateWait → exec (.gateWaitExpiry p) s = .next (s.setPanel p { x with power := { w with
      gateEn := true, step := some { step := .settle, deadline := s.count.after (w.times.tB * 20000) } } })) ∧
    (now .settle → w.autostart = false → exec (.settleExpiry p true) s =
      .next (postAll (told .ramp .ready w.logicEn true)
        (s.setPanel p { x with power := { w with state := .ready, step := none, powerGood := true } }))) ∧
    (now .settle → w.autostart = true → w.state = .ramp → s.scanLegal → ∃ t length,
      exec (.settleExpiry p true) s = .next t ∧
      State.beginsScan
        (postAll (told .ramp .ready w.logicEn true)
          (s.setPanel p { x with power := { w with state := .ready, step := none, powerGood := true } }))
        t p length) ∧
    (now .settle → s.grantsLegal → ∃ t, exec (.settleExpiry p false) s = .next t ∧
      State.drains
        { s.setPanel p { x with power := { w with powerGood := false } } with faults := { s.faults with power := true } }
        t p .powerAbsent) ∧
    (now .discharge → exec (.dischargeExpiry p) s =
      .next (postAll (told .drain .off false w.powerGood)
        (s.setPanel p { x with power := { w with logicEn := false, state := .off, step := none } })))

/-- POWER_GOOD_LOSS: ignored but for the level in OFF, RAMP and DRAIN; in READY and SCANNING the POWER cause is set and
the panel drains with reason POWER_LOST; from SCANNING the scan ends at once, the partner markers of the other panel
with it, and the result waits when it is the centre panel's. That the lock keeps T_base is the model's choice, log entry 28,
and so is the order of several GRANT_REVOKED, that of the grant list, log entry 16. -/
def Obligations.PowerGoodLossDrains : Prop :=
  ∀ (p : Panel) (s : State), s.inReset = false → s.grantsLegal →
    let x := s.panel p
    let low := { x with power := { x.power with powerGood := false } }
    let o := s.panel (otherPanel p)
    (x.power.state ≠ .ready → x.power.state ≠ .scanning → exec (.powerGoodLoss p) s = .next (s.setPanel p low)) ∧
    (x.power.state = .ready → ∃ t, exec (.powerGoodLoss p) s = .next t ∧
      State.drains { s.setPanel p low with faults := { s.faults with power := true } } t p .powerLost) ∧
    (x.power.state = .scanning → ∃ t, exec (.powerGoodLoss p) s = .next t ∧
      State.drains
        { (s.setPanel p low.abandoned).setPanel (otherPanel p) { o with lock := { o.lock with inFlight := [] } } with
          faults := { s.faults with power := true }
          touch := { s.touch with waits := if p = .centre then [] else s.touch.waits } }
        t p .powerLost)

/-- SUPPLY_WARNING_ASSERT and SUPPLY_WARNING_RELEASE at an edge: the flag follows the input and both ports are told; at
the beginning the dimmer of each SCANNING panel is capped at once and marks its frames dark-capped. -/
def Obligations.SupplyWarningEdges : Prop :=
  ∀ s : State, s.inReset = false →
    let capped := fun (x : PanelState) =>
      if x.power.state = .scanning then
        { x with dimmer := { x.dimmer with
          applied := min x.dimmer.applied x.dimmer.settings.cap
          darkNow := x.dimmer.darkNow || decide (x.dimmer.settings.cap < x.dimmer.applied)
          darkNext := x.dimmer.darkNext || x.dimmer.frameDuty.any fun d => decide (x.dimmer.settings.cap < d) } }
      else x
    let n := fun (level : Bool) => deviceNotice (.supplyWarning level s.cluster.power.state s.cluster.frame.number
      s.centre.power.state s.centre.frame.number)
    (s.supply.hold = false → exec .supplyWarningAssert s = .next (postAll (toBoth (n true))
      { s with supply := { warningPin := true, hold := true }, cluster := capped s.cluster,
               centre := capped s.centre })) ∧
    (s.supply.hold = true → exec .supplyWarningAssert s =
      .next { s with supply := { s.supply with warningPin := true } }) ∧
    (s.supply.hold = true → exec .supplyWarningRelease s = .next (postAll (toBoth (n false))
      { s with supply := { warningPin := false, hold := false } })) ∧
    (s.supply.hold = false → exec .supplyWarningRelease s =
      .next { s with supply := { s.supply with warningPin := false } })

/-! ### Supervision and fault handling -/

/-- SUPERVISE_START by the checks of R153, KEEPALIVE by monitor state (R154), and SUPERVISION_PERIOD_EXPIRY (R155): a new
period, or the entry into FAULT, with every notice of R156 in the order of its steps and of the window table. That the
GRANT_REVOKED of one close come in the order of the grant list is the model's choice, log entry 16. -/
def Obligations.SupervisionStartsAndFails : Prop :=
  ∀ (q : Port) (tag : Byte) (s : State),
    let m := s.monitor
    let openStart := m.period * 200 * (100 - m.fraction)
    let elapsed := m.elapsed.toNat
    (s.takes q → ∀ period fraction,
      let w := if period = 0 then m.defPeriod else period
      let f := if fraction = 0 then m.defFraction else fraction
      AnswersBy q tag 0x18 (exec (.superviseStart q tag period fraction) s) s
        [(q = .media, .notPermitted),
         ((1 ≤ period ∧ period ≤ 9) ∨ 2000 < period ∨
            ¬(fraction = 0 ∨ fraction = 25 ∨ fraction = 50 ∨ fraction = 75 ∨ fraction = 100), .badParam),
         (m.state = .running ∨ m.state = .fault, .wrongState)]
        { s with monitor :=
          { state := .running, period := w, fraction := f, start := some s.count, elapsed := 0, defPeriod := w,
            defFraction := f, reason := m.reason } }
        (.supervise w f (w * 200 * (100 - f)))) ∧
    (s.takes q →
      let run := exec (.keepalive q tag) s
      let refused := fun (o : OutcomeCode) => run = .next (placeReply q tag 0x19 (refuse o) s)
      (q = .media → refused .notPermitted) ∧
      (q = .supervisor → m.state = .off → refused .wrongState) ∧
      (q = .supervisor → m.state = .fault → refused .faulted) ∧
      (q = .supervisor → m.state = .running → openStart ≤ elapsed →
        run = .next (placeReply q tag 0x19 (accept (.keepalive elapsed))
          { s with monitor := { m with start := some s.count, elapsed := 0 } })) ∧
      (q = .supervisor → m.state = .running → elapsed < openStart → s.grantsLegal → s.fallbackHolds →
        ∃ t, s.failsOver t .early elapsed ∧
          run = .next (placeReply q tag 0x19
            { outcome := .tooEarly, results := .tooEarly elapsed openStart } t))) ∧
    (s.inReset = false → s.grantsLegal → s.fallbackHolds → m.state = .running → m.period * 20000 ≤ elapsed →
      ∃ t, s.failsOver t .missed (m.period * 20000) ∧ exec .supervisionPeriodExpiry s = .next t)

/-- RECOVER returns the monitor from FAULT to RUNNING with a new period and clears nothing; CLEAR_FAULT clears each named
cause but SUPERVISION in FAULT and a set POWER while a panel is in DRAIN, and is WRONG_STATE when one was refused. The
fault line is high exactly while a cause is set. -/
def Obligations.RecoverAndClearFault : Prop :=
  ∀ (q : Port) (tag : Byte) (s : State), s.takes q →
    let m := s.monitor
    AnswersBy q tag 0x1A (exec (.recover q tag) s) s
      [(q = .media, .notPermitted), (m.state = .off ∨ m.state = .running, .wrongState)]
      { s with monitor := { m with state := .running, start := some s.count, elapsed := 0 } }
      (.recover m.period m.fraction (m.period * 200 * (100 - m.fraction)) m.reason) ∧
    (∀ causes : CauseMask,
      let named := causes.supervision = true ∨ causes.integrity = true ∨ causes.power = true
      let keepsSupervision := m.state = .fault
      let keepsPower := s.faults.power = true ∧ ∃ p, (s.panel p).power.state = .drain
      let after : Causes :=
        { supervision := if causes.supervision = true ∧ ¬keepsSupervision then false else s.faults.supervision
          integrity := if causes.integrity = true then false else s.faults.integrity
          power := if causes.power = true ∧ s.cluster.power.state ≠ .drain ∧ s.centre.power.state ≠ .drain then false
            else s.faults.power }
      let refused := (causes.supervision = true ∧ keepsSupervision) ∨ (causes.power = true ∧ keepsPower)
      let run := exec (.clearFault q tag causes) s
      let done := fun (o : OutcomeCode) => run = .next (placeReply q tag 0x1B
        { outcome := o, results := .causes s.faults after } { s with faults := after })
      (q = .media → run = .next (placeReply q tag 0x1B (refuse .notPermitted) s)) ∧
      (q = .supervisor → (¬named ∨ causes.other = true) →
        run = .next (placeReply q tag 0x1B (refuse .badParam) s)) ∧
      (q = .supervisor → named → causes.other = false → ¬refused → done .ok) ∧
      (q = .supervisor → named → causes.other = false → refused → done .wrongState)) ∧
    (s.faultLine = true ↔ s.faults.supervision = true ∨ s.faults.integrity = true ∨ s.faults.power = true)

/-! ### Notices -/

/-- A notice joins the tail of a queue that holds fewer than 32; at 32 it is lost, counted and marked; a DISABLED media
port discards it. A port's attention line is asserted exactly while a reply or a notice waits. -/
def Obligations.NoticesJoinOrAreLost : Prop :=
  ∀ (q : Port) (n : Notice) (s : State),
    let x := s.port q
    (q = .media → s.mediaEnabled = false → post q n s = s) ∧
    ((q = .media → s.mediaEnabled = true) →
      (x.queue.length < 32 → post q n s = s.setPort q { x with queue := x.queue ++ [n] }) ∧
      (32 ≤ x.queue.length → post q n s = s.setPort q { x with lost := x.lost + 1, lostMark := true })) ∧
    postBoth n s = post .media n (post .supervisor n s) ∧
    (x.attention = true ↔ x.reply ≠ none ∨ x.queue ≠ [])

/-! ### Reset, profile and identification -/

/-- A reset begins at once, for each of its four causes (a REQUESTED one only once the RESET_DEVICE reply is delivered):
operations in flight end, enables fall, the fault line goes low. It is cold when its cause is, or the sequence it
interrupts. The model's choices in what stands between the beginning and the release: monitor, causes and waits are cleared
at the beginning (log entry 29), the PWM output is at its off level (32), T_base is kept (28), the count goes on and the
elapsed time is 0 (4). While a reset is held or due, a write shifts out zeros and a read the idle frame, no transaction is
counted, and requests and the device's own events change nothing but the levels of input pins (log entries 8, 10, 11); one
RESET_RELEASE ends the hold (38). -/
def Obligations.ResetsBeginAtOnce : Prop :=
  (∀ s : State,
    let ended := fun (x : PanelState) => { x.abandoned with
      power := { x.power with state := .off, logicEn := false, gateEn := false, step := none, stopPending := false,
                              offPending := false, autostart := false } }
    let begun := fun (cause : ResetCause) (cold : Bool) => { s with
      resetLogic :=
        { held := some { cause := cause, cold := cold || s.resetLogic.held.any fun h => h.cold }, requested := false }
      cluster := ended s.cluster
      centre := ended s.centre
      touch := { s.touch with waits := [] }
      monitor := { s.monitor with state := .off, start := none, elapsed := 0 }
      faults := { supervision := false, integrity := false, power := false }
      profile := { s.profile with writing := none } }
    exec .powerOnReset s = .next (begun .powerOn true) ∧ exec .brownOutReset s = .next (begun .brownOut true) ∧
    exec .pinReset s = .next (begun .pin false) ∧
    (s.resetLogic.requested = true → exec .requestedReset s = .next (begun .requested false)) ∧
    (s.resetLogic.requested = false → exec .requestedReset s = .next s) ∧
    (s.resetLogic.held = none → exec .resetRelease s = .next s) ∧
    ∀ h, s.resetLogic.held = some h →
      ∃ t, exec .resetRelease s = .next t ∧ t.resetLogic = { held := none, requested := false } ∧ t.count = s.count) ∧
  ∀ s : State, s.inReset = true →
    (∀ i q tag r, requestOfInstr i = some (q, tag, r) → exec i s = .next s) ∧
    (∀ i ∈ [Instr.touchSlotStart, .listenSlotStart, .supervisionPeriodExpiry, .profileWriteDone], exec i s = .next s) ∧
    (∀ p, (∀ i ∈ [Instr.planPoint p, .buildComplete p, .frameEnd p, .refreshSlotStart p, .refreshSlotEnd p,
        .skipSlotStart p, .blankStart p, .pwmEdge p, .markerEdge p, .partnerMarker p, .gateWaitExpiry p,
        .dischargeExpiry p], exec i s = .next s) ∧
      (∀ level, exec (.settleExpiry p level) s = .next s) ∧
      (∀ frame band crc ok, exec (.bandReport p frame band crc ok) s = .next s) ∧
      exec (.powerGoodLoss p) s = .next (s.setPanel p
        { s.panel p with power := { (s.panel p).power with powerGood := false } })) ∧
    (∀ tag noise saturated ok, exec (.senseResult tag noise saturated ok) s = .next s) ∧
    (∀ tag, exec (.resultDeadline tag) s = .next s) ∧ (∀ id, exec (.grantExpiry id) s = .next s) ∧
    exec .supplyWarningAssert s = .next { s with supply := { s.supply with warningPin := true } } ∧
    exec .supplyWarningRelease s = .next { s with supply := { s.supply with warningPin := false } } ∧
    (∀ q, exec (.writeTransaction q []) s = .next s ∧ exec (.readTransaction q []) s = .next s) ∧
    ∀ (q : Port) (rest : List Byte),
      let n := rest.length
      let shifts := fun (out : List Byte) => s.setPort q { s.port q with shiftOut := out }
      exec (.writeTransaction q (0x01 :: rest)) s = .next (shifts (List.replicate n 0)) ∧
      exec (.readTransaction q (0x02 :: rest)) s =
        .next (shifts (([0xA0, 0x00, 0x00] ++ List.replicate n 0 : List Byte).take n)) ∧
      ∀ first : Byte, first ≠ 0x01 → first ≠ 0x02 → ∃ out : List Byte, out.length = n ∧
        exec (.writeTransaction q (first :: rest)) s = .next { shifts out with free := s.free + 1 } ∧
        exec (.readTransaction q (first :: rest)) s = .next { shifts out with free := s.free + 1 }

/-- RESET_RELEASE, the whole next state: the profile is loaded when its check passes and the factory defaults when it does
not; the retained area is kept by a warm reset and cleared by a cold one; every block stands at its after-reset value; BOOT
stands first in each queue, then SUPPLY_WARNING when the input is asserted; supply-hold takes the input's level; a panel
with its autostart flag set is in RAMP with its mark. The model's choices: the count is kept (log entry 4), the power-good
inputs keep their levels (12), the cluster panel's autostart comes first (16), and the outputs shown as state start empty
(24). -/
def Obligations.ResetReleaseLoadsProfile : Prop :=
  ∀ (s : State) (h : HeldReset) (items : Profile) (status : ProfileStatus), s.resetLogic.held = some h →
    ((∃ r, s.profile.stored = some r ∧ r.check = Config.profileCheck r.items ∧ items = r.items ∧ status = .valid) ∨
      ((∀ r, s.profile.stored = some r → r.check ≠ Config.profileCheck r.items) ∧ items = Config.factoryProfile ∧
        status = .defaulted)) →
    let base := if h.cold = true then { powerOn := 0, brownOut := 0, pin := 0, requested := 0 } else s.resetCounts
    let up := fun (c : ResetCause) (n : Nat) => if h.cause = c then min (n + 1) 255 else n
    let counts : ResetCounts :=
      { powerOn := up .powerOn base.powerOn, brownOut := up .brownOut base.brownOut, pin := up .pin base.pin,
        requested := up .requested base.requested }
    let boot : Notice :=
      { panel := none, frame := 0,
        body := .boot h.cause h.cold status counts items.general.autoCluster items.general.autoCentre }
    let warning : Notice :=
      { panel := none, frame := 0, body := .supplyWarning true .off 0 .off 0 }
    let starting := fun (p : Panel) (flag : Bool) =>
      if flag = true then
        [({ panel := some p, frame := 0,
            body := .panelState .off .ramp .request true false (s.panel p).power.powerGood } : Notice)]
      else []
    let warned := if s.supply.warningPin = true then [warning] else []
    let autostarts := starting .cluster items.general.autoCluster ++ starting .centre items.general.autoCentre
    let blank : PortState := { reply := none, queue := [], discards := 0, lost := 0, lostMark := false, shiftOut := [] }
    let after := fun (p : Panel) (w : PanelProfile) (flag : Bool) =>
      ({ timing := w.timing
         frame := { number := 0, start := none, length := none, next := none }
         lock := { settings := w.lock, state := .free, tBase := w.timing.tNom, correction := none, capture := none,
                   previous := none, gapRef := none, good := 0, miss := 0, inFlight := [], glitches := 0 }
         bands := { bMax := w.bMax, records := w.bands.map fun b =>
           { lines := b.lines, cls := b.cls, holdLimit := b.holdLimit, dirty := false, hold := 0, balance := 0,
             expected := none, mismatches := 0 } }
         builder := { build := none, ready := none, stretched := 0, late := 0, subSupervisor := false,
                      subMedia := false }
         seq := none
         link := { expectations := [], lastCommand := none }
         supervisorWatch := { pos0 := none, pos1 := none }
         mediaWatch := { pos0 := none, pos1 := none }
         dimmer := { settings := w.dimmer, applied := 0, frameDuty := none, darkNow := false, darkNext := false,
                     enable := false, edges := [], active := false }
         power :=
           { state := if flag = true then .ramp else .off
             logicEn := flag, gateEn := false
             step := if flag = true then
                 some { step := .gateWait, deadline := s.count.after (w.times.tA * 20000) }
               else none
             stopPending := false, offPending := false, times := w.times
             powerGood := (s.panel p).power.powerGood, autostart := flag } } : PanelState)
    ∃ (candidates : List Candidate) (active : Nat),
      candidates.length = items.touch.freqs.length ∧
      (∀ (i : Nat) (f : FreqSpec), items.touch.freqs[i]? = some f → candidates[i]? = some (
        { period := f.period, permission := f.permission,
          average := match s.touch.candidates[i]? with
            | none => 65520
            | some c => if h.cold = true ∨ c.period ≠ f.period then 65520 else c.average } : Candidate)) ∧
      (let kept := if h.cold = true then items.touch.active else s.touch.active
       let touch : Touch :=
         { groups := items.touch.groups.map fun g =>
             { id := g.id, code := g.code, interval := g.interval, bursts := g.bursts, enabled := g.enabled, age := 255 }
           scan := items.touch.scan, state := .disabled, missing := 0, candidates := candidates
           hysteresis := items.touch.hysteresis, hopHold := items.touch.hopHold, active := active
           listenPtr := if h.cold = true then 0 else s.touch.listenPtr
           sinceHop := 0, nextTag := 0, waits := [], lateResults := 0, missingResults := 0, deferred := 0
           lastCommand := none }
       (∀ c, touch.allows kept c → active = kept) ∧
       (∀ c i d, candidates[kept]? = some c → c.permission = .banned → touch.quietest (fun _ => True) i d →
         active = i) ∧
       exec .resetRelease s = .next { s with
         resetLogic := { held := none, requested := false }
         cluster := after .cluster items.cluster items.general.autoCluster
         centre := after .centre items.centre items.general.autoCentre
         touch := touch
         windows := { slots := [none, none, none, none], misses := if h.cold = true then 0 else s.windows.misses }
         grants := { records := [], nextId := 1 }
         mismatchLimit := items.general.mismatchLimit
         monitor := { state := .off, period := items.general.defPeriod, fraction := items.general.defFraction,
                      start := none, elapsed := 0, defPeriod := items.general.defPeriod,
                      defFraction := items.general.defFraction, reason := none }
         faults := { supervision := false, integrity := false, power := false }
         supply := { warningPin := s.supply.warningPin, hold := s.supply.warningPin }
         supervisor := { blank with queue := boot :: (warned ++ autostarts) }
         media := { blank with queue := [boot] }
         mediaEnabled := false
         timingLock := false
         profile := { stored := s.profile.stored, writing := none, lastLoad := status }
         resetCounts := counts })

/-- PROFILE_WRITE by the checks of R177 in order, with the copy taken at once; its end 800,000 tu later stores the copy
with a fresh check and posts PROFILE_DONE. RESET_DEVICE is answered OK from the supervisor port alone and changes nothing
until its reply is delivered. -/
def Obligations.ProfileWriteAndResetDevice : Prop :=
  (∀ (q : Port) (tag : Byte) (s : State), s.takes q →
    (∀ a b, AnswersWith q tag 0x22 (exec (.profileWrite q tag a b) s) s
      [(q = .media, .notPermitted), (a = none ∨ b = none, .badParam), (s.profile.writing ≠ none, .busy)]
      fun t r => ∃ copy : Profile, r = .none ∧
        t = { s with profile := { s.profile with
          stored := none, writing := some { copy := copy, done := s.count.after 800000 } } } ∧
        a = some copy.general.autoCluster ∧ b = some copy.general.autoCentre ∧
        copy.general.mismatchLimit = s.mismatchLimit ∧ copy.general.defPeriod = s.monitor.defPeriod ∧
        copy.general.defFraction = s.monitor.defFraction ∧
        (∀ p,
          let x := s.panel p
          (match p with
            | .cluster => copy.cluster
            | .centre => copy.centre) =
            { timing := x.timing, lock := x.lock.settings, bMax := x.bands.bMax
              bands := x.bands.records.map fun b => { lines := b.lines, cls := b.cls, holdLimit := b.holdLimit }
              dimmer := x.dimmer.settings, times := x.power.times }) ∧
        copy.touch.groups.length = s.touch.groups.length ∧
        (∀ (i : Nat) (g : Group), s.touch.groups[i]? = some g → copy.touch.groups[i]? = some
          ({ id := g.id, code := g.code, interval := g.interval, bursts := g.bursts, enabled := g.enabled } :
            GroupSpec)) ∧
        copy.touch.freqs =
          (s.touch.candidates.map fun c => { period := c.period, permission := c.permission }) ∧
        copy.touch.scan = s.touch.scan ∧ copy.touch.hysteresis = s.touch.hysteresis ∧
        copy.touch.hopHold = s.touch.hopHold ∧ copy.touch.active = s.touch.active) ∧
    AnswersBy q tag 0x21 (exec (.resetDevice q tag) s) s [(q = .media, .notPermitted)] s .none) ∧
  ∀ (s : State) (w : ProfileWriting), s.inReset = false → s.profile.writing = some w → w.done = s.count →
    let check := Config.profileCheck w.copy
    exec .profileWriteDone s =
      .next (post .supervisor { panel := none, frame := 0, body := .profileDone check }
        { s with profile := { s.profile with stored := some { items := w.copy, check := check }, writing := none } })

/-! ### What every step keeps -/

/-- Every step keeps the notice queues at 32 and every hold count within its band's hold limit, and the entries of the
cluster's expectation list of different bands; and every step keeps every polarity balance within −B_max..B_max of its
panel (R36), together with what upholds it: the slots to come of the executing plan, the ready plan and the plan in build
carry no balance out of its bound. -/
def Obligations.StepKeepsQueuesAndHolds : Prop :=
  ∀ s t : State, step s = .next t →
    (s.queuesBounded → s.holdsBounded → t.queuesBounded ∧ t.holdsBounded) ∧
    (s.expectationsApart → t.expectationsApart) ∧
    (s.powerLegal → s.scanLegal → s.framesLegal → s.plansLegal → s.balancesBounded →
      t.plansLegal ∧ t.balancesBounded)

/-- Every step keeps the grant list legal: its bounds, distinct ids, no band under two grants, frames held below the
lifetime limit, a next id that names no open grant. -/
def Obligations.StepKeepsGrantsLegal : Prop :=
  ∀ s t : State, s.grantsLegal → step s = .next t → t.grantsLegal

/-- Every step keeps a DISABLED media port without grants and watches, a monitor in FAULT with every window CLOSED and its
cause set, and every band under a media grant on the cluster lent. -/
def Obligations.StepKeepsOwnership : Prop :=
  ∀ s t : State, s.disabledHoldsNothing → s.fallbackHolds → s.mediaGrantsLent → step s = .next t →
    t.disabledHoldsNothing ∧ t.fallbackHolds ∧ t.mediaGrantsLent

/-- Every step keeps the enable outputs, the timed step and the marks in agreement with the power state, and the frame
timer, lock, builder, sequencer and backlight of a panel still while it does not scan. -/
def Obligations.StepKeepsPowerAndScan : Prop :=
  ∀ s t : State, s.powerLegal → s.scanLegal → step s = .next t → t.powerLegal ∧ t.scanLegal

/-- Every step keeps the live configuration, the stored record and the copy of a write in flight such as the requests'
own checks take: no panel's full-refresh cost exceeds its T_max, and the touch groups have different ids and stand in order
of id ascending. -/
def Obligations.StepKeepsConfigLegal : Prop :=
  ∀ s t : State, s.configLegal → step s = .next t → t.configLegal

/-- Every step keeps every frame length, the next length, T_base and the length of the ready plan within the panel's
[T_min, T_max]. -/
def Obligations.StepKeepsFrameLengths : Prop :=
  ∀ s t : State, s.powerLegal → s.scanLegal → s.framesLegal → step s = .next t → t.framesLegal

end
end

