-- ==== Sys2Proof/Laws/State.lean ====
section
/-!
SUPPORT. One lemma per field per update: what the operations of Machine/Ops.lean leave as it was, and what they put in
its place.
-/

namespace Sys2Proof.Machine

open Sys2Proof

variable (s : State) (p p' : Panel) (q q' : Port)

/-! ### Reading back -/

@[simp] theorem panel_setPanel (x : PanelState) : (s.setPanel p x).panel p = x := by cases p <;> rfl
@[simp] theorem panel_setPanel_other (x : PanelState) :
    (s.setPanel p x).panel (otherPanel p) = s.panel (otherPanel p) := by cases p <;> rfl
@[simp] theorem otherPanel_otherPanel : otherPanel (otherPanel p) = p := by cases p <;> rfl
@[simp] theorem port_setPort (x : PortState) : (s.setPort q x).port q = x := by cases q <;> rfl
@[simp] theorem port_setPanel (x : PanelState) : (s.setPanel p x).port q = s.port q := by cases p <;> cases q <;> rfl
@[simp] theorem panel_setPort (x : PortState) : (s.setPort q x).panel p = s.panel p := by cases p <;> cases q <;> rfl

theorem panel_setPanel_ite (x : PanelState) :
    (s.setPanel p x).panel p' = if p' = p then x else s.panel p' := by cases p <;> cases p' <;> rfl
theorem port_setPort_ite (x : PortState) :
    (s.setPort q x).port q' = if q' = q then x else s.port q' := by cases q <;> cases q' <;> rfl

@[simp] theorem panel_updPanel (f : PanelState → PanelState) : (s.updPanel p f).panel p = f (s.panel p) := by
  simp [State.updPanel]
@[simp] theorem panel_updPanel_other (f : PanelState → PanelState) :
    (s.updPanel p f).panel (otherPanel p) = s.panel (otherPanel p) := by simp [State.updPanel]
theorem panel_updPanel_ite (f : PanelState → PanelState) :
    (s.updPanel p f).panel p' = if p' = p then f (s.panel p') else s.panel p' := by
  cases p <;> cases p' <;> rfl
@[simp] theorem port_updPort (f : PortState → PortState) : (s.updPort q f).port q = f (s.port q) := by
  simp [State.updPort]
theorem port_updPort_ite (f : PortState → PortState) :
    (s.updPort q f).port q' = if q' = q then f (s.port q') else s.port q' := by cases q <;> cases q' <;> rfl
@[simp] theorem panel_updPort (f : PortState → PortState) : (s.updPort q f).panel p = s.panel p := by
  simp [State.updPort]
@[simp] theorem port_updPanel (f : PanelState → PanelState) : (s.updPanel p f).port q = s.port q := by
  simp [State.updPanel]


/-! ### setPanel -/

@[simp] theorem setPanel_supervisor (x : PanelState) : (s.setPanel p x).supervisor = s.supervisor := by cases p <;> rfl
@[simp] theorem setPanel_media (x : PanelState) : (s.setPanel p x).media = s.media := by cases p <;> rfl
@[simp] theorem setPanel_touch (x : PanelState) : (s.setPanel p x).touch = s.touch := by cases p <;> rfl
@[simp] theorem setPanel_count (x : PanelState) : (s.setPanel p x).count = s.count := by cases p <;> rfl
@[simp] theorem setPanel_free (x : PanelState) : (s.setPanel p x).free = s.free := by cases p <;> rfl
@[simp] theorem setPanel_resetLogic (x : PanelState) : (s.setPanel p x).resetLogic = s.resetLogic := by cases p <;> rfl
@[simp] theorem setPanel_windows (x : PanelState) : (s.setPanel p x).windows = s.windows := by cases p <;> rfl
@[simp] theorem setPanel_grants (x : PanelState) : (s.setPanel p x).grants = s.grants := by cases p <;> rfl
@[simp] theorem setPanel_mismatchLimit (x : PanelState) : (s.setPanel p x).mismatchLimit = s.mismatchLimit := by cases p <;> rfl
@[simp] theorem setPanel_monitor (x : PanelState) : (s.setPanel p x).monitor = s.monitor := by cases p <;> rfl
@[simp] theorem setPanel_faults (x : PanelState) : (s.setPanel p x).faults = s.faults := by cases p <;> rfl
@[simp] theorem setPanel_supply (x : PanelState) : (s.setPanel p x).supply = s.supply := by cases p <;> rfl
@[simp] theorem setPanel_mediaEnabled (x : PanelState) : (s.setPanel p x).mediaEnabled = s.mediaEnabled := by cases p <;> rfl
@[simp] theorem setPanel_timingLock (x : PanelState) : (s.setPanel p x).timingLock = s.timingLock := by cases p <;> rfl
@[simp] theorem setPanel_profile (x : PanelState) : (s.setPanel p x).profile = s.profile := by cases p <;> rfl
@[simp] theorem setPanel_resetCounts (x : PanelState) : (s.setPanel p x).resetCounts = s.resetCounts := by cases p <;> rfl
@[simp] theorem setPanel_pending (x : PanelState) : (s.setPanel p x).pending = s.pending := by cases p <;> rfl

/-! ### setPort -/

@[simp] theorem setPort_cluster (x : PortState) : (s.setPort q x).cluster = s.cluster := by cases q <;> rfl
@[simp] theorem setPort_centre (x : PortState) : (s.setPort q x).centre = s.centre := by cases q <;> rfl
@[simp] theorem setPort_touch (x : PortState) : (s.setPort q x).touch = s.touch := by cases q <;> rfl
@[simp] theorem setPort_count (x : PortState) : (s.setPort q x).count = s.count := by cases q <;> rfl
@[simp] theorem setPort_free (x : PortState) : (s.setPort q x).free = s.free := by cases q <;> rfl
@[simp] theorem setPort_resetLogic (x : PortState) : (s.setPort q x).resetLogic = s.resetLogic := by cases q <;> rfl
@[simp] theorem setPort_windows (x : PortState) : (s.setPort q x).windows = s.windows := by cases q <;> rfl
@[simp] theorem setPort_grants (x : PortState) : (s.setPort q x).grants = s.grants := by cases q <;> rfl
@[simp] theorem setPort_mismatchLimit (x : PortState) : (s.setPort q x).mismatchLimit = s.mismatchLimit := by cases q <;> rfl
@[simp] theorem setPort_monitor (x : PortState) : (s.setPort q x).monitor = s.monitor := by cases q <;> rfl
@[simp] theorem setPort_faults (x : PortState) : (s.setPort q x).faults = s.faults := by cases q <;> rfl
@[simp] theorem setPort_supply (x : PortState) : (s.setPort q x).supply = s.supply := by cases q <;> rfl
@[simp] theorem setPort_mediaEnabled (x : PortState) : (s.setPort q x).mediaEnabled = s.mediaEnabled := by cases q <;> rfl
@[simp] theorem setPort_timingLock (x : PortState) : (s.setPort q x).timingLock = s.timingLock := by cases q <;> rfl
@[simp] theorem setPort_profile (x : PortState) : (s.setPort q x).profile = s.profile := by cases q <;> rfl
@[simp] theorem setPort_resetCounts (x : PortState) : (s.setPort q x).resetCounts = s.resetCounts := by cases q <;> rfl
@[simp] theorem setPort_pending (x : PortState) : (s.setPort q x).pending = s.pending := by cases q <;> rfl

/-! ### updPanel -/

@[simp] theorem updPanel_supervisor (f : PanelState → PanelState) : (s.updPanel p f).supervisor = s.supervisor := by cases p <;> rfl
@[simp] theorem updPanel_media (f : PanelState → PanelState) : (s.updPanel p f).media = s.media := by cases p <;> rfl
@[simp] theorem updPanel_touch (f : PanelState → PanelState) : (s.updPanel p f).touch = s.touch := by cases p <;> rfl
@[simp] theorem updPanel_count (f : PanelState → PanelState) : (s.updPanel p f).count = s.count := by cases p <;> rfl
@[simp] theorem updPanel_free (f : PanelState → PanelState) : (s.updPanel p f).free = s.free := by cases p <;> rfl
@[simp] theorem updPanel_resetLogic (f : PanelState → PanelState) : (s.updPanel p f).resetLogic = s.resetLogic := by cases p <;> rfl
@[simp] theorem updPanel_windows (f : PanelState → PanelState) : (s.updPanel p f).windows = s.windows := by cases p <;> rfl
@[simp] theorem updPanel_grants (f : PanelState → PanelState) : (s.updPanel p f).grants = s.grants := by cases p <;> rfl
@[simp] theorem updPanel_mismatchLimit (f : PanelState → PanelState) : (s.updPanel p f).mismatchLimit = s.mismatchLimit := by cases p <;> rfl
@[simp] theorem updPanel_monitor (f : PanelState → PanelState) : (s.updPanel p f).monitor = s.monitor := by cases p <;> rfl
@[simp] theorem updPanel_faults (f : PanelState → PanelState) : (s.updPanel p f).faults = s.faults := by cases p <;> rfl
@[simp] theorem updPanel_supply (f : PanelState → PanelState) : (s.updPanel p f).supply = s.supply := by cases p <;> rfl
@[simp] theorem updPanel_mediaEnabled (f : PanelState → PanelState) : (s.updPanel p f).mediaEnabled = s.mediaEnabled := by cases p <;> rfl
@[simp] theorem updPanel_timingLock (f : PanelState → PanelState) : (s.updPanel p f).timingLock = s.timingLock := by cases p <;> rfl
@[simp] theorem updPanel_profile (f : PanelState → PanelState) : (s.updPanel p f).profile = s.profile := by cases p <;> rfl
@[simp] theorem updPanel_resetCounts (f : PanelState → PanelState) : (s.updPanel p f).resetCounts = s.resetCounts := by cases p <;> rfl
@[simp] theorem updPanel_pending (f : PanelState → PanelState) : (s.updPanel p f).pending = s.pending := by cases p <;> rfl

/-! ### updPort -/

@[simp] theorem updPort_cluster (f : PortState → PortState) : (s.updPort q f).cluster = s.cluster := by cases q <;> rfl
@[simp] theorem updPort_centre (f : PortState → PortState) : (s.updPort q f).centre = s.centre := by cases q <;> rfl
@[simp] theorem updPort_touch (f : PortState → PortState) : (s.updPort q f).touch = s.touch := by cases q <;> rfl
@[simp] theorem updPort_count (f : PortState → PortState) : (s.updPort q f).count = s.count := by cases q <;> rfl
@[simp] theorem updPort_free (f : PortState → PortState) : (s.updPort q f).free = s.free := by cases q <;> rfl
@[simp] theorem updPort_resetLogic (f : PortState → PortState) : (s.updPort q f).resetLogic = s.resetLogic := by cases q <;> rfl
@[simp] theorem updPort_windows (f : PortState → PortState) : (s.updPort q f).windows = s.windows := by cases q <;> rfl
@[simp] theorem updPort_grants (f : PortState → PortState) : (s.updPort q f).grants = s.grants := by cases q <;> rfl
@[simp] theorem updPort_mismatchLimit (f : PortState → PortState) : (s.updPort q f).mismatchLimit = s.mismatchLimit := by cases q <;> rfl
@[simp] theorem updPort_monitor (f : PortState → PortState) : (s.updPort q f).monitor = s.monitor := by cases q <;> rfl
@[simp] theorem updPort_faults (f : PortState → PortState) : (s.updPort q f).faults = s.faults := by cases q <;> rfl
@[simp] theorem updPort_supply (f : PortState → PortState) : (s.updPort q f).supply = s.supply := by cases q <;> rfl
@[simp] theorem updPort_mediaEnabled (f : PortState → PortState) : (s.updPort q f).mediaEnabled = s.mediaEnabled := by cases q <;> rfl
@[simp] theorem updPort_timingLock (f : PortState → PortState) : (s.updPort q f).timingLock = s.timingLock := by cases q <;> rfl
@[simp] theorem updPort_profile (f : PortState → PortState) : (s.updPort q f).profile = s.profile := by cases q <;> rfl
@[simp] theorem updPort_resetCounts (f : PortState → PortState) : (s.updPort q f).resetCounts = s.resetCounts := by cases q <;> rfl
@[simp] theorem updPort_pending (f : PortState → PortState) : (s.updPort q f).pending = s.pending := by cases q <;> rfl

/-! ### updPower -/

@[simp] theorem updPower_supervisor (f : Power → Power) : (s.updPower p f).supervisor = s.supervisor := by cases p <;> rfl
@[simp] theorem updPower_media (f : Power → Power) : (s.updPower p f).media = s.media := by cases p <;> rfl
@[simp] theorem updPower_touch (f : Power → Power) : (s.updPower p f).touch = s.touch := by cases p <;> rfl
@[simp] theorem updPower_count (f : Power → Power) : (s.updPower p f).count = s.count := by cases p <;> rfl
@[simp] theorem updPower_free (f : Power → Power) : (s.updPower p f).free = s.free := by cases p <;> rfl
@[simp] theorem updPower_resetLogic (f : Power → Power) : (s.updPower p f).resetLogic = s.resetLogic := by cases p <;> rfl
@[simp] theorem updPower_windows (f : Power → Power) : (s.updPower p f).windows = s.windows := by cases p <;> rfl
@[simp] theorem updPower_grants (f : Power → Power) : (s.updPower p f).grants = s.grants := by cases p <;> rfl
@[simp] theorem updPower_mismatchLimit (f : Power → Power) : (s.updPower p f).mismatchLimit = s.mismatchLimit := by cases p <;> rfl
@[simp] theorem updPower_monitor (f : Power → Power) : (s.updPower p f).monitor = s.monitor := by cases p <;> rfl
@[simp] theorem updPower_faults (f : Power → Power) : (s.updPower p f).faults = s.faults := by cases p <;> rfl
@[simp] theorem updPower_supply (f : Power → Power) : (s.updPower p f).supply = s.supply := by cases p <;> rfl
@[simp] theorem updPower_mediaEnabled (f : Power → Power) : (s.updPower p f).mediaEnabled = s.mediaEnabled := by cases p <;> rfl
@[simp] theorem updPower_timingLock (f : Power → Power) : (s.updPower p f).timingLock = s.timingLock := by cases p <;> rfl
@[simp] theorem updPower_profile (f : Power → Power) : (s.updPower p f).profile = s.profile := by cases p <;> rfl
@[simp] theorem updPower_resetCounts (f : Power → Power) : (s.updPower p f).resetCounts = s.resetCounts := by cases p <;> rfl
@[simp] theorem updPower_pending (f : Power → Power) : (s.updPower p f).pending = s.pending := by cases p <;> rfl

/-! ### updLock -/

@[simp] theorem updLock_supervisor (f : FrameLock → FrameLock) : (s.updLock p f).supervisor = s.supervisor := by cases p <;> rfl
@[simp] theorem updLock_media (f : FrameLock → FrameLock) : (s.updLock p f).media = s.media := by cases p <;> rfl
@[simp] theorem updLock_touch (f : FrameLock → FrameLock) : (s.updLock p f).touch = s.touch := by cases p <;> rfl
@[simp] theorem updLock_count (f : FrameLock → FrameLock) : (s.updLock p f).count = s.count := by cases p <;> rfl
@[simp] theorem updLock_free (f : FrameLock → FrameLock) : (s.updLock p f).free = s.free := by cases p <;> rfl
@[simp] theorem updLock_resetLogic (f : FrameLock → FrameLock) : (s.updLock p f).resetLogic = s.resetLogic := by cases p <;> rfl
@[simp] theorem updLock_windows (f : FrameLock → FrameLock) : (s.updLock p f).windows = s.windows := by cases p <;> rfl
@[simp] theorem updLock_grants (f : FrameLock → FrameLock) : (s.updLock p f).grants = s.grants := by cases p <;> rfl
@[simp] theorem updLock_mismatchLimit (f : FrameLock → FrameLock) : (s.updLock p f).mismatchLimit = s.mismatchLimit := by cases p <;> rfl
@[simp] theorem updLock_monitor (f : FrameLock → FrameLock) : (s.updLock p f).monitor = s.monitor := by cases p <;> rfl
@[simp] theorem updLock_faults (f : FrameLock → FrameLock) : (s.updLock p f).faults = s.faults := by cases p <;> rfl
@[simp] theorem updLock_supply (f : FrameLock → FrameLock) : (s.updLock p f).supply = s.supply := by cases p <;> rfl
@[simp] theorem updLock_mediaEnabled (f : FrameLock → FrameLock) : (s.updLock p f).mediaEnabled = s.mediaEnabled := by cases p <;> rfl
@[simp] theorem updLock_timingLock (f : FrameLock → FrameLock) : (s.updLock p f).timingLock = s.timingLock := by cases p <;> rfl
@[simp] theorem updLock_profile (f : FrameLock → FrameLock) : (s.updLock p f).profile = s.profile := by cases p <;> rfl
@[simp] theorem updLock_resetCounts (f : FrameLock → FrameLock) : (s.updLock p f).resetCounts = s.resetCounts := by cases p <;> rfl
@[simp] theorem updLock_pending (f : FrameLock → FrameLock) : (s.updLock p f).pending = s.pending := by cases p <;> rfl

/-! ### updDimmer -/

@[simp] theorem updDimmer_supervisor (f : Dimmer → Dimmer) : (s.updDimmer p f).supervisor = s.supervisor := by cases p <;> rfl
@[simp] theorem updDimmer_media (f : Dimmer → Dimmer) : (s.updDimmer p f).media = s.media := by cases p <;> rfl
@[simp] theorem updDimmer_touch (f : Dimmer → Dimmer) : (s.updDimmer p f).touch = s.touch := by cases p <;> rfl
@[simp] theorem updDimmer_count (f : Dimmer → Dimmer) : (s.updDimmer p f).count = s.count := by cases p <;> rfl
@[simp] theorem updDimmer_free (f : Dimmer → Dimmer) : (s.updDimmer p f).free = s.free := by cases p <;> rfl
@[simp] theorem updDimmer_resetLogic (f : Dimmer → Dimmer) : (s.updDimmer p f).resetLogic = s.resetLogic := by cases p <;> rfl
@[simp] theorem updDimmer_windows (f : Dimmer → Dimmer) : (s.updDimmer p f).windows = s.windows := by cases p <;> rfl
@[simp] theorem updDimmer_grants (f : Dimmer → Dimmer) : (s.updDimmer p f).grants = s.grants := by cases p <;> rfl
@[simp] theorem updDimmer_mismatchLimit (f : Dimmer → Dimmer) : (s.updDimmer p f).mismatchLimit = s.mismatchLimit := by cases p <;> rfl
@[simp] theorem updDimmer_monitor (f : Dimmer → Dimmer) : (s.updDimmer p f).monitor = s.monitor := by cases p <;> rfl
@[simp] theorem updDimmer_faults (f : Dimmer → Dimmer) : (s.updDimmer p f).faults = s.faults := by cases p <;> rfl
@[simp] theorem updDimmer_supply (f : Dimmer → Dimmer) : (s.updDimmer p f).supply = s.supply := by cases p <;> rfl
@[simp] theorem updDimmer_mediaEnabled (f : Dimmer → Dimmer) : (s.updDimmer p f).mediaEnabled = s.mediaEnabled := by cases p <;> rfl
@[simp] theorem updDimmer_timingLock (f : Dimmer → Dimmer) : (s.updDimmer p f).timingLock = s.timingLock := by cases p <;> rfl
@[simp] theorem updDimmer_profile (f : Dimmer → Dimmer) : (s.updDimmer p f).profile = s.profile := by cases p <;> rfl
@[simp] theorem updDimmer_resetCounts (f : Dimmer → Dimmer) : (s.updDimmer p f).resetCounts = s.resetCounts := by cases p <;> rfl
@[simp] theorem updDimmer_pending (f : Dimmer → Dimmer) : (s.updDimmer p f).pending = s.pending := by cases p <;> rfl

/-! ### updBands -/

@[simp] theorem updBands_supervisor (f : List Band → List Band) : (s.updBands p f).supervisor = s.supervisor := by cases p <;> rfl
@[simp] theorem updBands_media (f : List Band → List Band) : (s.updBands p f).media = s.media := by cases p <;> rfl
@[simp] theorem updBands_touch (f : List Band → List Band) : (s.updBands p f).touch = s.touch := by cases p <;> rfl
@[simp] theorem updBands_count (f : List Band → List Band) : (s.updBands p f).count = s.count := by cases p <;> rfl
@[simp] theorem updBands_free (f : List Band → List Band) : (s.updBands p f).free = s.free := by cases p <;> rfl
@[simp] theorem updBands_resetLogic (f : List Band → List Band) : (s.updBands p f).resetLogic = s.resetLogic := by cases p <;> rfl
@[simp] theorem updBands_windows (f : List Band → List Band) : (s.updBands p f).windows = s.windows := by cases p <;> rfl
@[simp] theorem updBands_grants (f : List Band → List Band) : (s.updBands p f).grants = s.grants := by cases p <;> rfl
@[simp] theorem updBands_mismatchLimit (f : List Band → List Band) : (s.updBands p f).mismatchLimit = s.mismatchLimit := by cases p <;> rfl
@[simp] theorem updBands_monitor (f : List Band → List Band) : (s.updBands p f).monitor = s.monitor := by cases p <;> rfl
@[simp] theorem updBands_faults (f : List Band → List Band) : (s.updBands p f).faults = s.faults := by cases p <;> rfl
@[simp] theorem updBands_supply (f : List Band → List Band) : (s.updBands p f).supply = s.supply := by cases p <;> rfl
@[simp] theorem updBands_mediaEnabled (f : List Band → List Band) : (s.updBands p f).mediaEnabled = s.mediaEnabled := by cases p <;> rfl
@[simp] theorem updBands_timingLock (f : List Band → List Band) : (s.updBands p f).timingLock = s.timingLock := by cases p <;> rfl
@[simp] theorem updBands_profile (f : List Band → List Band) : (s.updBands p f).profile = s.profile := by cases p <;> rfl
@[simp] theorem updBands_resetCounts (f : List Band → List Band) : (s.updBands p f).resetCounts = s.resetCounts := by cases p <;> rfl
@[simp] theorem updBands_pending (f : List Band → List Band) : (s.updBands p f).pending = s.pending := by cases p <;> rfl

/-! ### updSeq -/

@[simp] theorem updSeq_supervisor (f : Executing → Executing) : (s.updSeq p f).supervisor = s.supervisor := by cases p <;> rfl
@[simp] theorem updSeq_media (f : Executing → Executing) : (s.updSeq p f).media = s.media := by cases p <;> rfl
@[simp] theorem updSeq_touch (f : Executing → Executing) : (s.updSeq p f).touch = s.touch := by cases p <;> rfl
@[simp] theorem updSeq_count (f : Executing → Executing) : (s.updSeq p f).count = s.count := by cases p <;> rfl
@[simp] theorem updSeq_free (f : Executing → Executing) : (s.updSeq p f).free = s.free := by cases p <;> rfl
@[simp] theorem updSeq_resetLogic (f : Executing → Executing) : (s.updSeq p f).resetLogic = s.resetLogic := by cases p <;> rfl
@[simp] theorem updSeq_windows (f : Executing → Executing) : (s.updSeq p f).windows = s.windows := by cases p <;> rfl
@[simp] theorem updSeq_grants (f : Executing → Executing) : (s.updSeq p f).grants = s.grants := by cases p <;> rfl
@[simp] theorem updSeq_mismatchLimit (f : Executing → Executing) : (s.updSeq p f).mismatchLimit = s.mismatchLimit := by cases p <;> rfl
@[simp] theorem updSeq_monitor (f : Executing → Executing) : (s.updSeq p f).monitor = s.monitor := by cases p <;> rfl
@[simp] theorem updSeq_faults (f : Executing → Executing) : (s.updSeq p f).faults = s.faults := by cases p <;> rfl
@[simp] theorem updSeq_supply (f : Executing → Executing) : (s.updSeq p f).supply = s.supply := by cases p <;> rfl
@[simp] theorem updSeq_mediaEnabled (f : Executing → Executing) : (s.updSeq p f).mediaEnabled = s.mediaEnabled := by cases p <;> rfl
@[simp] theorem updSeq_timingLock (f : Executing → Executing) : (s.updSeq p f).timingLock = s.timingLock := by cases p <;> rfl
@[simp] theorem updSeq_profile (f : Executing → Executing) : (s.updSeq p f).profile = s.profile := by cases p <;> rfl
@[simp] theorem updSeq_resetCounts (f : Executing → Executing) : (s.updSeq p f).resetCounts = s.resetCounts := by cases p <;> rfl
@[simp] theorem updSeq_pending (f : Executing → Executing) : (s.updSeq p f).pending = s.pending := by cases p <;> rfl

/-! ### sendLink -/

@[simp] theorem sendLink_supervisor (c : LinkCommand) : (sendLink p c s).supervisor = s.supervisor := by cases p <;> rfl
@[simp] theorem sendLink_media (c : LinkCommand) : (sendLink p c s).media = s.media := by cases p <;> rfl
@[simp] theorem sendLink_touch (c : LinkCommand) : (sendLink p c s).touch = s.touch := by cases p <;> rfl
@[simp] theorem sendLink_count (c : LinkCommand) : (sendLink p c s).count = s.count := by cases p <;> rfl
@[simp] theorem sendLink_free (c : LinkCommand) : (sendLink p c s).free = s.free := by cases p <;> rfl
@[simp] theorem sendLink_resetLogic (c : LinkCommand) : (sendLink p c s).resetLogic = s.resetLogic := by cases p <;> rfl
@[simp] theorem sendLink_windows (c : LinkCommand) : (sendLink p c s).windows = s.windows := by cases p <;> rfl
@[simp] theorem sendLink_grants (c : LinkCommand) : (sendLink p c s).grants = s.grants := by cases p <;> rfl
@[simp] theorem sendLink_mismatchLimit (c : LinkCommand) : (sendLink p c s).mismatchLimit = s.mismatchLimit := by cases p <;> rfl
@[simp] theorem sendLink_monitor (c : LinkCommand) : (sendLink p c s).monitor = s.monitor := by cases p <;> rfl
@[simp] theorem sendLink_faults (c : LinkCommand) : (sendLink p c s).faults = s.faults := by cases p <;> rfl
@[simp] theorem sendLink_supply (c : LinkCommand) : (sendLink p c s).supply = s.supply := by cases p <;> rfl
@[simp] theorem sendLink_mediaEnabled (c : LinkCommand) : (sendLink p c s).mediaEnabled = s.mediaEnabled := by cases p <;> rfl
@[simp] theorem sendLink_timingLock (c : LinkCommand) : (sendLink p c s).timingLock = s.timingLock := by cases p <;> rfl
@[simp] theorem sendLink_profile (c : LinkCommand) : (sendLink p c s).profile = s.profile := by cases p <;> rfl
@[simp] theorem sendLink_resetCounts (c : LinkCommand) : (sendLink p c s).resetCounts = s.resetCounts := by cases p <;> rfl
@[simp] theorem sendLink_pending (c : LinkCommand) : (sendLink p c s).pending = s.pending := by cases p <;> rfl

/-! ### updTouch -/

@[simp] theorem updTouch_cluster (f : Touch → Touch) : (s.updTouch f).cluster = s.cluster := rfl
@[simp] theorem updTouch_centre (f : Touch → Touch) : (s.updTouch f).centre = s.centre := rfl
@[simp] theorem updTouch_supervisor (f : Touch → Touch) : (s.updTouch f).supervisor = s.supervisor := rfl
@[simp] theorem updTouch_media (f : Touch → Touch) : (s.updTouch f).media = s.media := rfl
@[simp] theorem updTouch_count (f : Touch → Touch) : (s.updTouch f).count = s.count := rfl
@[simp] theorem updTouch_free (f : Touch → Touch) : (s.updTouch f).free = s.free := rfl
@[simp] theorem updTouch_resetLogic (f : Touch → Touch) : (s.updTouch f).resetLogic = s.resetLogic := rfl
@[simp] theorem updTouch_windows (f : Touch → Touch) : (s.updTouch f).windows = s.windows := rfl
@[simp] theorem updTouch_grants (f : Touch → Touch) : (s.updTouch f).grants = s.grants := rfl
@[simp] theorem updTouch_mismatchLimit (f : Touch → Touch) : (s.updTouch f).mismatchLimit = s.mismatchLimit := rfl
@[simp] theorem updTouch_monitor (f : Touch → Touch) : (s.updTouch f).monitor = s.monitor := rfl
@[simp] theorem updTouch_faults (f : Touch → Touch) : (s.updTouch f).faults = s.faults := rfl
@[simp] theorem updTouch_supply (f : Touch → Touch) : (s.updTouch f).supply = s.supply := rfl
@[simp] theorem updTouch_mediaEnabled (f : Touch → Touch) : (s.updTouch f).mediaEnabled = s.mediaEnabled := rfl
@[simp] theorem updTouch_timingLock (f : Touch → Touch) : (s.updTouch f).timingLock = s.timingLock := rfl
@[simp] theorem updTouch_profile (f : Touch → Touch) : (s.updTouch f).profile = s.profile := rfl
@[simp] theorem updTouch_resetCounts (f : Touch → Touch) : (s.updTouch f).resetCounts = s.resetCounts := rfl
@[simp] theorem updTouch_pending (f : Touch → Touch) : (s.updTouch f).pending = s.pending := rfl

/-! ### placeReply -/

@[simp] theorem placeReply_cluster (t k : Byte) (a : Answer) : (placeReply q t k a s).cluster = s.cluster := by cases q <;> rfl
@[simp] theorem placeReply_centre (t k : Byte) (a : Answer) : (placeReply q t k a s).centre = s.centre := by cases q <;> rfl
@[simp] theorem placeReply_touch (t k : Byte) (a : Answer) : (placeReply q t k a s).touch = s.touch := by cases q <;> rfl
@[simp] theorem placeReply_count (t k : Byte) (a : Answer) : (placeReply q t k a s).count = s.count := by cases q <;> rfl
@[simp] theorem placeReply_free (t k : Byte) (a : Answer) : (placeReply q t k a s).free = s.free := by cases q <;> rfl
@[simp] theorem placeReply_resetLogic (t k : Byte) (a : Answer) : (placeReply q t k a s).resetLogic = s.resetLogic := by cases q <;> rfl
@[simp] theorem placeReply_windows (t k : Byte) (a : Answer) : (placeReply q t k a s).windows = s.windows := by cases q <;> rfl
@[simp] theorem placeReply_grants (t k : Byte) (a : Answer) : (placeReply q t k a s).grants = s.grants := by cases q <;> rfl
@[simp] theorem placeReply_mismatchLimit (t k : Byte) (a : Answer) : (placeReply q t k a s).mismatchLimit = s.mismatchLimit := by cases q <;> rfl
@[simp] theorem placeReply_monitor (t k : Byte) (a : Answer) : (placeReply q t k a s).monitor = s.monitor := by cases q <;> rfl
@[simp] theorem placeReply_faults (t k : Byte) (a : Answer) : (placeReply q t k a s).faults = s.faults := by cases q <;> rfl
@[simp] theorem placeReply_supply (t k : Byte) (a : Answer) : (placeReply q t k a s).supply = s.supply := by cases q <;> rfl
@[simp] theorem placeReply_mediaEnabled (t k : Byte) (a : Answer) : (placeReply q t k a s).mediaEnabled = s.mediaEnabled := by cases q <;> rfl
@[simp] theorem placeReply_timingLock (t k : Byte) (a : Answer) : (placeReply q t k a s).timingLock = s.timingLock := by cases q <;> rfl
@[simp] theorem placeReply_profile (t k : Byte) (a : Answer) : (placeReply q t k a s).profile = s.profile := by cases q <;> rfl
@[simp] theorem placeReply_resetCounts (t k : Byte) (a : Answer) : (placeReply q t k a s).resetCounts = s.resetCounts := by cases q <;> rfl
@[simp] theorem placeReply_pending (t k : Byte) (a : Answer) : (placeReply q t k a s).pending = s.pending := by cases q <;> rfl

/-! ### Posting a notice -/

/-- What posting to a port changes: that port's queue, lost counter and lost mark, and nothing else (R167). -/
theorem post_eq (n : Notice) :
    post q n s = s ∨ post q n s = s.updPort q (PortState.offer n) := by
  cases q
  · exact .inr rfl
  · by_cases h : s.mediaEnabled <;> simp [post, h]

@[simp] theorem post_panel (n : Notice) : (post q n s).panel p = s.panel p := by
  rcases post_eq s q n with h | h <;> simp [h]

@[simp] theorem post_cluster (n : Notice) : (post q n s).cluster = s.cluster := by
  rcases post_eq s q n with h | h <;> simp [h]
@[simp] theorem post_centre (n : Notice) : (post q n s).centre = s.centre := by
  rcases post_eq s q n with h | h <;> simp [h]
@[simp] theorem post_touch (n : Notice) : (post q n s).touch = s.touch := by
  rcases post_eq s q n with h | h <;> simp [h]
@[simp] theorem post_count (n : Notice) : (post q n s).count = s.count := by
  rcases post_eq s q n with h | h <;> simp [h]
@[simp] theorem post_free (n : Notice) : (post q n s).free = s.free := by
  rcases post_eq s q n with h | h <;> simp [h]
@[simp] theorem post_resetLogic (n : Notice) : (post q n s).resetLogic = s.resetLogic := by
  rcases post_eq s q n with h | h <;> simp [h]
@[simp] theorem post_windows (n : Notice) : (post q n s).windows = s.windows := by
  rcases post_eq s q n with h | h <;> simp [h]
@[simp] theorem post_grants (n : Notice) : (post q n s).grants = s.grants := by
  rcases post_eq s q n with h | h <;> simp [h]
@[simp] theorem post_mismatchLimit (n : Notice) : (post q n s).mismatchLimit = s.mismatchLimit := by
  rcases post_eq s q n with h | h <;> simp [h]
@[simp] theorem post_monitor (n : Notice) : (post q n s).monitor = s.monitor := by
  rcases post_eq s q n with h | h <;> simp [h]
@[simp] theorem post_faults (n : Notice) : (post q n s).faults = s.faults := by
  rcases post_eq s q n with h | h <;> simp [h]
@[simp] theorem post_supply (n : Notice) : (post q n s).supply = s.supply := by
  rcases post_eq s q n with h | h <;> simp [h]
@[simp] theorem post_mediaEnabled (n : Notice) : (post q n s).mediaEnabled = s.mediaEnabled := by
  rcases post_eq s q n with h | h <;> simp [h]
@[simp] theorem post_timingLock (n : Notice) : (post q n s).timingLock = s.timingLock := by
  rcases post_eq s q n with h | h <;> simp [h]
@[simp] theorem post_profile (n : Notice) : (post q n s).profile = s.profile := by
  rcases post_eq s q n with h | h <;> simp [h]
@[simp] theorem post_resetCounts (n : Notice) : (post q n s).resetCounts = s.resetCounts := by
  rcases post_eq s q n with h | h <;> simp [h]
@[simp] theorem post_pending (n : Notice) : (post q n s).pending = s.pending := by
  rcases post_eq s q n with h | h <;> simp [h]

@[simp] theorem postBoth_panel (n : Notice) : (postBoth n s).panel p = s.panel p := by simp [postBoth]
@[simp] theorem postBoth_cluster (n : Notice) : (postBoth n s).cluster = s.cluster := by simp [postBoth]
@[simp] theorem postBoth_centre (n : Notice) : (postBoth n s).centre = s.centre := by simp [postBoth]
@[simp] theorem postBoth_touch (n : Notice) : (postBoth n s).touch = s.touch := by simp [postBoth]
@[simp] theorem postBoth_count (n : Notice) : (postBoth n s).count = s.count := by simp [postBoth]
@[simp] theorem postBoth_free (n : Notice) : (postBoth n s).free = s.free := by simp [postBoth]
@[simp] theorem postBoth_resetLogic (n : Notice) : (postBoth n s).resetLogic = s.resetLogic := by simp [postBoth]
@[simp] theorem postBoth_windows (n : Notice) : (postBoth n s).windows = s.windows := by simp [postBoth]
@[simp] theorem postBoth_grants (n : Notice) : (postBoth n s).grants = s.grants := by simp [postBoth]
@[simp] theorem postBoth_mismatchLimit (n : Notice) : (postBoth n s).mismatchLimit = s.mismatchLimit := by simp [postBoth]
@[simp] theorem postBoth_monitor (n : Notice) : (postBoth n s).monitor = s.monitor := by simp [postBoth]
@[simp] theorem postBoth_faults (n : Notice) : (postBoth n s).faults = s.faults := by simp [postBoth]
@[simp] theorem postBoth_supply (n : Notice) : (postBoth n s).supply = s.supply := by simp [postBoth]
@[simp] theorem postBoth_mediaEnabled (n : Notice) : (postBoth n s).mediaEnabled = s.mediaEnabled := by simp [postBoth]
@[simp] theorem postBoth_timingLock (n : Notice) : (postBoth n s).timingLock = s.timingLock := by simp [postBoth]
@[simp] theorem postBoth_profile (n : Notice) : (postBoth n s).profile = s.profile := by simp [postBoth]
@[simp] theorem postBoth_resetCounts (n : Notice) : (postBoth n s).resetCounts = s.resetCounts := by simp [postBoth]
@[simp] theorem postBoth_pending (n : Notice) : (postBoth n s).pending = s.pending := by simp [postBoth]

@[simp] theorem postOwn_panel (n : Notice) : (postOwn p' n s).panel p = s.panel p := by
  cases p' <;> simp [postOwn]
@[simp] theorem postOwn_cluster (n : Notice) : (postOwn p n s).cluster = s.cluster := by cases p <;> simp [postOwn]
@[simp] theorem postOwn_centre (n : Notice) : (postOwn p n s).centre = s.centre := by cases p <;> simp [postOwn]
@[simp] theorem postOwn_touch (n : Notice) : (postOwn p n s).touch = s.touch := by cases p <;> simp [postOwn]
@[simp] theorem postOwn_count (n : Notice) : (postOwn p n s).count = s.count := by cases p <;> simp [postOwn]
@[simp] theorem postOwn_free (n : Notice) : (postOwn p n s).free = s.free := by cases p <;> simp [postOwn]
@[simp] theorem postOwn_resetLogic (n : Notice) : (postOwn p n s).resetLogic = s.resetLogic := by cases p <;> simp [postOwn]
@[simp] theorem postOwn_windows (n : Notice) : (postOwn p n s).windows = s.windows := by cases p <;> simp [postOwn]
@[simp] theorem postOwn_grants (n : Notice) : (postOwn p n s).grants = s.grants := by cases p <;> simp [postOwn]
@[simp] theorem postOwn_mismatchLimit (n : Notice) : (postOwn p n s).mismatchLimit = s.mismatchLimit := by cases p <;> simp [postOwn]
@[simp] theorem postOwn_monitor (n : Notice) : (postOwn p n s).monitor = s.monitor := by cases p <;> simp [postOwn]
@[simp] theorem postOwn_faults (n : Notice) : (postOwn p n s).faults = s.faults := by cases p <;> simp [postOwn]
@[simp] theorem postOwn_supply (n : Notice) : (postOwn p n s).supply = s.supply := by cases p <;> simp [postOwn]
@[simp] theorem postOwn_mediaEnabled (n : Notice) : (postOwn p n s).mediaEnabled = s.mediaEnabled := by cases p <;> simp [postOwn]
@[simp] theorem postOwn_timingLock (n : Notice) : (postOwn p n s).timingLock = s.timingLock := by cases p <;> simp [postOwn]
@[simp] theorem postOwn_profile (n : Notice) : (postOwn p n s).profile = s.profile := by cases p <;> simp [postOwn]
@[simp] theorem postOwn_resetCounts (n : Notice) : (postOwn p n s).resetCounts = s.resetCounts := by cases p <;> simp [postOwn]
@[simp] theorem postOwn_pending (n : Notice) : (postOwn p n s).pending = s.pending := by cases p <;> simp [postOwn]

end Sys2Proof.Machine
end

