-- ==== Sys2Proof/Laws/Ops.lean ====
section
/-!
SUPPORT. One lemma per shared operation (Machine/Ops.lean, and the lists of Machine/Params.lean) that says what it can do,
and what the longer operations (ending grants, closing windows, entering DRAIN, ending a scan) leave as it was.
-/

namespace Sys2Proof.Machine

open Sys2Proof

/-! ### Lists that a request carries -/

@[simp] theorem Carried.all_entries {α : Type} (xs : List α) : (Carried.all xs).entries = xs := rfl
@[simp] theorem Carried.all_whole {α : Type} (xs : List α) : (Carried.all xs).whole = true := rfl
@[simp] theorem Carried.map_entries {α β : Type} (f : α → β) (c : Carried α) : (c.map f).entries = c.entries.map f := rfl
@[simp] theorem Carried.map_whole {α β : Type} (f : α → β) (c : Carried α) : (c.map f).whole = c.whole := rfl

/-- The check of a count passes for a whole list of that many entries, and for no other. -/
theorem Carried.counts_iff {α : Type} (c : Carried α) (n : Nat) :
    c.counts n = true ↔ c.whole = true ∧ n = c.entries.length := by
  simp [Carried.counts]

theorem pieces_length (size k : Nat) (bytes : List Byte) : (pieces size k bytes).length = k := by
  induction k generalizing bytes with
  | zero => rfl
  | succ k ih => simp [pieces, ih]

/-- A list is carried whole exactly when the bytes are the fixed ones and those of its entries. -/
theorem listOf_whole_iff (kind : Byte) (params : List Byte) :
    (listOf kind params).whole = true ↔
      params.length = fixedBytes kind + (listOf kind params).entries.length * listEntryBytes kind := by
  simp only [listOf, endsWhole, List.length_map, pieces_length, List.length_drop, Bool.and_eq_true, decide_eq_true_eq,
    beq_iff_eq]
  constructor
  · rintro ⟨_, h⟩
    have := Nat.div_mul_cancel (Nat.dvd_of_mod_eq_zero h)
    omega
  · intro h
    have hle : fixedBytes kind ≤ params.length := by omega
    have hmul : params.length - fixedBytes kind =
        (params.length - fixedBytes kind) / listEntryBytes kind * listEntryBytes kind := by omega
    exact ⟨hle, by rw [hmul]; exact Nat.mul_mod_left _ _⟩

/-! ### The blank -/

/-- The blank is due with no slot due beside it (R74). -/
theorem blankDue_slotDue {s : State} {p : Panel} (h : s.blankDue p = true) : s.slotDue p = none := by
  unfold State.blankDue at h
  split at h
  · cases h
  · simp only [Bool.and_eq_true, Option.isNone_iff_eq_none] at h
    exact h.2

/-! ### Taking a request -/

/-- A port takes a request of this kind: no reset, no pending reply, and not locked (R164, R165, R166). -/
theorem takeRequest_taken {s : State} {q : Port} {tag kind : Byte} {serve : State → State × Answer}
    (hr : s.inReset = false) (hp : (s.port q).reply = none) (hl : s.portLocks q kind = false) :
    takeRequest q tag kind serve s = placeReply q tag kind (serve s).2 (serve s).1 := by
  simp [takeRequest, hr, hp, hl]

/-- Everything the taking of a request can do. -/
theorem takeRequest_cases (s : State) (q : Port) (tag kind : Byte) (serve : State → State × Answer) :
    (s.inReset = true ∧ takeRequest q tag kind serve s = s) ∨
    (s.inReset = false ∧ (s.port q).reply.isSome = true ∧
      takeRequest q tag kind serve s = s.updPort q PortState.discardRequest) ∨
    (s.inReset = false ∧ (s.port q).reply = none ∧ s.portLocks q kind = true ∧
      takeRequest q tag kind serve s = placeReply q tag kind (refuse .portLocked) s) ∨
    (s.inReset = false ∧ (s.port q).reply = none ∧ s.portLocks q kind = false ∧
      takeRequest q tag kind serve s = placeReply q tag kind (serve s).2 (serve s).1) := by
  unfold takeRequest
  cases h1 : s.inReset <;> cases h2 : (s.port q).reply <;> cases h3 : s.portLocks q kind <;> simp

/-- Outside a reset a meaning has its effect; in one it has none. -/
theorem unlessReset_run {s : State} {f : State → State} (h : s.inReset = false) : unlessReset s f = f s := by
  simp [unlessReset, h]

theorem unlessReset_reset {s : State} {f : State → State} (h : s.inReset = true) : unlessReset s f = s := by
  simp [unlessReset, h]

theorem unlessReset_cases (s : State) (f : State → State) :
    (s.inReset = true ∧ unlessReset s f = s) ∨ (s.inReset = false ∧ unlessReset s f = f s) := by
  cases h : s.inReset <;> simp [unlessReset, h]

/-! ### Ports -/

@[simp] theorem offer_reply (n : Notice) (x : PortState) : (x.offer n).reply = x.reply := by
  unfold PortState.offer; split <;> rfl
@[simp] theorem offer_discards (n : Notice) (x : PortState) : (x.offer n).discards = x.discards := by
  unfold PortState.offer; split <;> rfl
@[simp] theorem offer_shiftOut (n : Notice) (x : PortState) : (x.offer n).shiftOut = x.shiftOut := by
  unfold PortState.offer; split <;> rfl

/-- A queue within its limit stays within it (R167). -/
theorem offer_bounded {n : Notice} {x : PortState} (h : x.queue.length ≤ Config.queueLimit) :
    (x.offer n).queue.length ≤ Config.queueLimit := by
  unfold PortState.offer
  split
  · simpa using ‹_›
  · exact h

@[simp] theorem discardRequest_queue (x : PortState) : x.discardRequest.queue = x.queue := rfl
@[simp] theorem discardRequest_lost (x : PortState) : x.discardRequest.lost = x.lost := rfl
@[simp] theorem discardRequest_lostMark (x : PortState) : x.discardRequest.lostMark = x.lostMark := rfl

/-- The reply a port holds after one is placed (R165). -/
@[simp] theorem placeReply_reply (q : Port) (t k : Byte) (a : Answer) (s : State) :
    ((placeReply q t k a s).port q).reply =
      some { tag := t, kind := k, outcome := a.outcome, results := a.results, discardMark := false } := by
  cases q <;> rfl
@[simp] theorem placeReply_queue (q q' : Port) (t k : Byte) (a : Answer) (s : State) :
    ((placeReply q t k a s).port q').queue = (s.port q').queue := by
  cases q <;> cases q' <;> rfl
@[simp] theorem placeReply_panel (q : Port) (t k : Byte) (a : Answer) (s : State) (p : Panel) :
    (placeReply q t k a s).panel p = s.panel p := by
  cases q <;> cases p <;> rfl

/-! ### Band lists -/

@[simp] theorem mapBands_length (f : Placed → Band) (i l : Nat) (bs : List Band) :
    (mapBands f i l bs).length = bs.length := by
  induction bs generalizing i l with
  | nil => rfl
  | cons b bs ih => simp [mapBands, ih]

@[simp] theorem placeBands_length (i l : Nat) (bs : List Band) : (placeBands i l bs).length = bs.length := by
  induction bs generalizing i l with
  | nil => rfl
  | cons b bs ih => simp [placeBands, ih]

@[simp] theorem modifyBand_length (i : Nat) (f : Band → Band) (bs : List Band) :
    (modifyBand i f bs).length = bs.length := by
  induction bs generalizing i with
  | nil => simp [modifyBand]
  | cons b bs ih => cases i <;> simp [modifyBand, ih]

/-- A property of every band that each change keeps holds of every changed band. -/
theorem mapBands_all {P : Band → Prop} {f : Placed → Band} (hf : ∀ x : Placed, P x.band → P (f x)) :
    ∀ (i l : Nat) (bs : List Band), (∀ b ∈ bs, P b) → ∀ b ∈ mapBands f i l bs, P b := by
  intro i l bs
  induction bs generalizing i l with
  | nil => intro _ b hb; cases hb
  | cons b bs ih =>
    intro h c hc
    simp only [mapBands, List.mem_cons] at hc
    rcases hc with rfl | hc
    · exact hf _ (h b (by simp))
    · exact ih _ _ (fun b hb => h b (by simp [hb])) c hc

theorem modifyBand_all {P : Band → Prop} {f : Band → Band} (hf : ∀ b, P b → P (f b)) :
    ∀ (i : Nat) (bs : List Band), (∀ b ∈ bs, P b) → ∀ b ∈ modifyBand i f bs, P b := by
  intro i bs
  induction bs generalizing i with
  | nil => intro _ b hb; simp [modifyBand] at hb
  | cons b bs ih =>
    intro h c hc
    cases i with
    | zero =>
      simp only [modifyBand, List.mem_cons] at hc
      rcases hc with rfl | hc
      · exact hf _ (h b (by simp))
      · exact h c (by simp [hc])
    | succ i =>
      simp only [modifyBand, List.mem_cons] at hc
      rcases hc with rfl | hc
      · exact h _ (by simp)
      · exact ih i (fun b hb => h b (by simp [hb])) c hc

/-- Marking sets dirty flags and nothing else (R31, R40). -/
theorem markWhere_other (hit : Placed → Bool) (bs : List Band) :
    (markWhere hit bs).map (fun b => { b with dirty := false }) = bs.map fun b => { b with dirty := false } := by
  suffices h : ∀ (i l : Nat) (bs : List Band),
      (mapBands (fun x => if hit x then { x.band with dirty := true } else x.band) i l bs).map
        (fun b => { b with dirty := false }) = bs.map fun b => { b with dirty := false } from h 0 0 bs
  intro i l bs
  induction bs generalizing i l with
  | nil => rfl
  | cons b bs ih =>
    simp only [mapBands, List.map_cons, ih]
    congr 1
    split <;> rfl

/-! ### Ending grants -/

@[simp] theorem endGrant_count (g : Grant) (s : State) : (endGrant g s).count = s.count := by
  simp [endGrant]
@[simp] theorem endGrant_free (g : Grant) (s : State) : (endGrant g s).free = s.free := by
  simp [endGrant]
@[simp] theorem endGrant_resetLogic (g : Grant) (s : State) : (endGrant g s).resetLogic = s.resetLogic := by
  simp [endGrant]
@[simp] theorem endGrant_mismatchLimit (g : Grant) (s : State) : (endGrant g s).mismatchLimit = s.mismatchLimit := by
  simp [endGrant]
@[simp] theorem endGrant_monitor (g : Grant) (s : State) : (endGrant g s).monitor = s.monitor := by
  simp [endGrant]
@[simp] theorem endGrant_supply (g : Grant) (s : State) : (endGrant g s).supply = s.supply := by
  simp [endGrant]
@[simp] theorem endGrant_mediaEnabled (g : Grant) (s : State) : (endGrant g s).mediaEnabled = s.mediaEnabled := by
  simp [endGrant]
@[simp] theorem endGrant_timingLock (g : Grant) (s : State) : (endGrant g s).timingLock = s.timingLock := by
  simp [endGrant]
@[simp] theorem endGrant_profile (g : Grant) (s : State) : (endGrant g s).profile = s.profile := by
  simp [endGrant]
@[simp] theorem endGrant_resetCounts (g : Grant) (s : State) : (endGrant g s).resetCounts = s.resetCounts := by
  simp [endGrant]
@[simp] theorem endGrant_pending (g : Grant) (s : State) : (endGrant g s).pending = s.pending := by
  simp [endGrant]
@[simp] theorem endGrant_touch (g : Grant) (s : State) : (endGrant g s).touch = s.touch := by
  simp [endGrant]
@[simp] theorem endGrant_windows (g : Grant) (s : State) : (endGrant g s).windows = s.windows := by
  simp [endGrant]
@[simp] theorem endGrant_faults (g : Grant) (s : State) : (endGrant g s).faults = s.faults := by
  simp [endGrant]
@[simp] theorem endGrant_supervisor (g : Grant) (s : State) : (endGrant g s).supervisor = s.supervisor := by
  simp [endGrant]
@[simp] theorem endGrant_media (g : Grant) (s : State) : (endGrant g s).media = s.media := by
  simp [endGrant]

@[simp] theorem revokeGrant_count (r : RevokeReason) (s : State) (g : Grant) : (revokeGrant r s g).count = s.count := by
  simp [revokeGrant]
@[simp] theorem revokeGrant_free (r : RevokeReason) (s : State) (g : Grant) : (revokeGrant r s g).free = s.free := by
  simp [revokeGrant]
@[simp] theorem revokeGrant_resetLogic (r : RevokeReason) (s : State) (g : Grant) : (revokeGrant r s g).resetLogic = s.resetLogic := by
  simp [revokeGrant]
@[simp] theorem revokeGrant_mismatchLimit (r : RevokeReason) (s : State) (g : Grant) : (revokeGrant r s g).mismatchLimit = s.mismatchLimit := by
  simp [revokeGrant]
@[simp] theorem revokeGrant_monitor (r : RevokeReason) (s : State) (g : Grant) : (revokeGrant r s g).monitor = s.monitor := by
  simp [revokeGrant]
@[simp] theorem revokeGrant_supply (r : RevokeReason) (s : State) (g : Grant) : (revokeGrant r s g).supply = s.supply := by
  simp [revokeGrant]
@[simp] theorem revokeGrant_mediaEnabled (r : RevokeReason) (s : State) (g : Grant) : (revokeGrant r s g).mediaEnabled = s.mediaEnabled := by
  simp [revokeGrant]
@[simp] theorem revokeGrant_timingLock (r : RevokeReason) (s : State) (g : Grant) : (revokeGrant r s g).timingLock = s.timingLock := by
  simp [revokeGrant]
@[simp] theorem revokeGrant_profile (r : RevokeReason) (s : State) (g : Grant) : (revokeGrant r s g).profile = s.profile := by
  simp [revokeGrant]
@[simp] theorem revokeGrant_resetCounts (r : RevokeReason) (s : State) (g : Grant) : (revokeGrant r s g).resetCounts = s.resetCounts := by
  simp [revokeGrant]
@[simp] theorem revokeGrant_pending (r : RevokeReason) (s : State) (g : Grant) : (revokeGrant r s g).pending = s.pending := by
  simp [revokeGrant]
@[simp] theorem revokeGrant_touch (r : RevokeReason) (s : State) (g : Grant) : (revokeGrant r s g).touch = s.touch := by
  simp [revokeGrant]
@[simp] theorem revokeGrant_windows (r : RevokeReason) (s : State) (g : Grant) : (revokeGrant r s g).windows = s.windows := by
  simp [revokeGrant]
@[simp] theorem revokeGrant_faults (r : RevokeReason) (s : State) (g : Grant) : (revokeGrant r s g).faults = s.faults := by
  simp [revokeGrant]

@[simp] theorem revokeAll_count (r : RevokeReason) (gs : List Grant) (s : State) :
    (revokeAll r gs s).count = s.count := by
  induction gs generalizing s with
  | nil => rfl
  | cons g gs ih => exact (ih (revokeGrant r s g)).trans (by simp)
@[simp] theorem revokeAll_free (r : RevokeReason) (gs : List Grant) (s : State) :
    (revokeAll r gs s).free = s.free := by
  induction gs generalizing s with
  | nil => rfl
  | cons g gs ih => exact (ih (revokeGrant r s g)).trans (by simp)
@[simp] theorem revokeAll_resetLogic (r : RevokeReason) (gs : List Grant) (s : State) :
    (revokeAll r gs s).resetLogic = s.resetLogic := by
  induction gs generalizing s with
  | nil => rfl
  | cons g gs ih => exact (ih (revokeGrant r s g)).trans (by simp)
@[simp] theorem revokeAll_mismatchLimit (r : RevokeReason) (gs : List Grant) (s : State) :
    (revokeAll r gs s).mismatchLimit = s.mismatchLimit := by
  induction gs generalizing s with
  | nil => rfl
  | cons g gs ih => exact (ih (revokeGrant r s g)).trans (by simp)
@[simp] theorem revokeAll_monitor (r : RevokeReason) (gs : List Grant) (s : State) :
    (revokeAll r gs s).monitor = s.monitor := by
  induction gs generalizing s with
  | nil => rfl
  | cons g gs ih => exact (ih (revokeGrant r s g)).trans (by simp)
@[simp] theorem revokeAll_supply (r : RevokeReason) (gs : List Grant) (s : State) :
    (revokeAll r gs s).supply = s.supply := by
  induction gs generalizing s with
  | nil => rfl
  | cons g gs ih => exact (ih (revokeGrant r s g)).trans (by simp)
@[simp] theorem revokeAll_mediaEnabled (r : RevokeReason) (gs : List Grant) (s : State) :
    (revokeAll r gs s).mediaEnabled = s.mediaEnabled := by
  induction gs generalizing s with
  | nil => rfl
  | cons g gs ih => exact (ih (revokeGrant r s g)).trans (by simp)
@[simp] theorem revokeAll_timingLock (r : RevokeReason) (gs : List Grant) (s : State) :
    (revokeAll r gs s).timingLock = s.timingLock := by
  induction gs generalizing s with
  | nil => rfl
  | cons g gs ih => exact (ih (revokeGrant r s g)).trans (by simp)
@[simp] theorem revokeAll_profile (r : RevokeReason) (gs : List Grant) (s : State) :
    (revokeAll r gs s).profile = s.profile := by
  induction gs generalizing s with
  | nil => rfl
  | cons g gs ih => exact (ih (revokeGrant r s g)).trans (by simp)
@[simp] theorem revokeAll_resetCounts (r : RevokeReason) (gs : List Grant) (s : State) :
    (revokeAll r gs s).resetCounts = s.resetCounts := by
  induction gs generalizing s with
  | nil => rfl
  | cons g gs ih => exact (ih (revokeGrant r s g)).trans (by simp)
@[simp] theorem revokeAll_pending (r : RevokeReason) (gs : List Grant) (s : State) :
    (revokeAll r gs s).pending = s.pending := by
  induction gs generalizing s with
  | nil => rfl
  | cons g gs ih => exact (ih (revokeGrant r s g)).trans (by simp)
@[simp] theorem revokeAll_touch (r : RevokeReason) (gs : List Grant) (s : State) :
    (revokeAll r gs s).touch = s.touch := by
  induction gs generalizing s with
  | nil => rfl
  | cons g gs ih => exact (ih (revokeGrant r s g)).trans (by simp)
@[simp] theorem revokeAll_windows (r : RevokeReason) (gs : List Grant) (s : State) :
    (revokeAll r gs s).windows = s.windows := by
  induction gs generalizing s with
  | nil => rfl
  | cons g gs ih => exact (ih (revokeGrant r s g)).trans (by simp)
@[simp] theorem revokeAll_faults (r : RevokeReason) (gs : List Grant) (s : State) :
    (revokeAll r gs s).faults = s.faults := by
  induction gs generalizing s with
  | nil => rfl
  | cons g gs ih => exact (ih (revokeGrant r s g)).trans (by simp)

/-- The grants left when one ends. -/
@[simp] theorem endGrant_grants (g : Grant) (s : State) :
    (endGrant g s).grants = { s.grants with records := s.grants.records.filter fun x => x.id != g.id } := by
  simp [endGrant]
@[simp] theorem revokeGrant_grants (r : RevokeReason) (s : State) (g : Grant) :
    (revokeGrant r s g).grants = { s.grants with records := s.grants.records.filter fun x => x.id != g.id } := by
  simp [revokeGrant]

/-- The panel of a grant that ends has the bands of its range marked; the other panel stays (8.4). -/
theorem endGrant_panel (g : Grant) (s : State) (p : Panel) :
    (endGrant g s).panel p =
      if p = g.panel then
        { s.panel p with bands :=
          { (s.panel p).bands with
            records := markWhere (inIndexRange g.first g.last) (s.panel p).bands.records } }
      else s.panel p := by
  cases p <;> cases h : g.panel <;> simp [endGrant, State.updBands, State.updPanel, State.setPanel, State.panel, h]
@[simp] theorem revokeGrant_panel (r : RevokeReason) (s : State) (g : Grant) (p : Panel) :
    (revokeGrant r s g).panel p = (endGrant g s).panel p := by
  simp [revokeGrant]

/-- Revoking some grants leaves the grants whose ids none of them has (R136). -/
theorem revokeAll_grants (r : RevokeReason) (gs : List Grant) (s : State) :
    (revokeAll r gs s).grants =
      { s.grants with records := s.grants.records.filter fun x => gs.all fun g => x.id != g.id } := by
  induction gs generalizing s with
  | nil => simp [revokeAll]
  | cons g gs ih =>
    have := ih (revokeGrant r s g)
    simp only [revokeAll, List.foldl_cons] at this ⊢
    rw [this]
    simp [List.filter_filter, Bool.and_comm]

/-! ### Closing windows -/

@[simp] theorem closeWindow_count (i : Nat) (w : Window) (r : CloseReason) (s : State) : (closeWindow i w r s).count = s.count := by
  simp [closeWindow]
@[simp] theorem closeWindow_free (i : Nat) (w : Window) (r : CloseReason) (s : State) : (closeWindow i w r s).free = s.free := by
  simp [closeWindow]
@[simp] theorem closeWindow_resetLogic (i : Nat) (w : Window) (r : CloseReason) (s : State) : (closeWindow i w r s).resetLogic = s.resetLogic := by
  simp [closeWindow]
@[simp] theorem closeWindow_mismatchLimit (i : Nat) (w : Window) (r : CloseReason) (s : State) : (closeWindow i w r s).mismatchLimit = s.mismatchLimit := by
  simp [closeWindow]
@[simp] theorem closeWindow_monitor (i : Nat) (w : Window) (r : CloseReason) (s : State) : (closeWindow i w r s).monitor = s.monitor := by
  simp [closeWindow]
@[simp] theorem closeWindow_supply (i : Nat) (w : Window) (r : CloseReason) (s : State) : (closeWindow i w r s).supply = s.supply := by
  simp [closeWindow]
@[simp] theorem closeWindow_mediaEnabled (i : Nat) (w : Window) (r : CloseReason) (s : State) : (closeWindow i w r s).mediaEnabled = s.mediaEnabled := by
  simp [closeWindow]
@[simp] theorem closeWindow_timingLock (i : Nat) (w : Window) (r : CloseReason) (s : State) : (closeWindow i w r s).timingLock = s.timingLock := by
  simp [closeWindow]
@[simp] theorem closeWindow_profile (i : Nat) (w : Window) (r : CloseReason) (s : State) : (closeWindow i w r s).profile = s.profile := by
  simp [closeWindow]
@[simp] theorem closeWindow_resetCounts (i : Nat) (w : Window) (r : CloseReason) (s : State) : (closeWindow i w r s).resetCounts = s.resetCounts := by
  simp [closeWindow]
@[simp] theorem closeWindow_pending (i : Nat) (w : Window) (r : CloseReason) (s : State) : (closeWindow i w r s).pending = s.pending := by
  simp [closeWindow]
@[simp] theorem closeWindow_touch (i : Nat) (w : Window) (r : CloseReason) (s : State) : (closeWindow i w r s).touch = s.touch := by
  simp [closeWindow]
@[simp] theorem closeWindow_faults (i : Nat) (w : Window) (r : CloseReason) (s : State) : (closeWindow i w r s).faults = s.faults := by
  simp [closeWindow]

/-- A window closed is CLOSED, and the others stay (R122). -/
@[simp] theorem closeWindow_windows (i : Nat) (w : Window) (r : CloseReason) (s : State) :
    (closeWindow i w r s).windows = { s.windows with slots := s.windows.slots.set i none } := by
  simp [closeWindow]

@[simp] theorem closeIfOpen_count (r : CloseReason) (s : State) (i : Nat) : (closeIfOpen r s i).count = s.count := by
  unfold closeIfOpen; split <;> simp
@[simp] theorem closeIfOpen_free (r : CloseReason) (s : State) (i : Nat) : (closeIfOpen r s i).free = s.free := by
  unfold closeIfOpen; split <;> simp
@[simp] theorem closeIfOpen_resetLogic (r : CloseReason) (s : State) (i : Nat) : (closeIfOpen r s i).resetLogic = s.resetLogic := by
  unfold closeIfOpen; split <;> simp
@[simp] theorem closeIfOpen_mismatchLimit (r : CloseReason) (s : State) (i : Nat) : (closeIfOpen r s i).mismatchLimit = s.mismatchLimit := by
  unfold closeIfOpen; split <;> simp
@[simp] theorem closeIfOpen_monitor (r : CloseReason) (s : State) (i : Nat) : (closeIfOpen r s i).monitor = s.monitor := by
  unfold closeIfOpen; split <;> simp
@[simp] theorem closeIfOpen_supply (r : CloseReason) (s : State) (i : Nat) : (closeIfOpen r s i).supply = s.supply := by
  unfold closeIfOpen; split <;> simp
@[simp] theorem closeIfOpen_mediaEnabled (r : CloseReason) (s : State) (i : Nat) : (closeIfOpen r s i).mediaEnabled = s.mediaEnabled := by
  unfold closeIfOpen; split <;> simp
@[simp] theorem closeIfOpen_timingLock (r : CloseReason) (s : State) (i : Nat) : (closeIfOpen r s i).timingLock = s.timingLock := by
  unfold closeIfOpen; split <;> simp
@[simp] theorem closeIfOpen_profile (r : CloseReason) (s : State) (i : Nat) : (closeIfOpen r s i).profile = s.profile := by
  unfold closeIfOpen; split <;> simp
@[simp] theorem closeIfOpen_resetCounts (r : CloseReason) (s : State) (i : Nat) : (closeIfOpen r s i).resetCounts = s.resetCounts := by
  unfold closeIfOpen; split <;> simp
@[simp] theorem closeIfOpen_pending (r : CloseReason) (s : State) (i : Nat) : (closeIfOpen r s i).pending = s.pending := by
  unfold closeIfOpen; split <;> simp
@[simp] theorem closeIfOpen_touch (r : CloseReason) (s : State) (i : Nat) : (closeIfOpen r s i).touch = s.touch := by
  unfold closeIfOpen; split <;> simp
@[simp] theorem closeIfOpen_faults (r : CloseReason) (s : State) (i : Nat) : (closeIfOpen r s i).faults = s.faults := by
  unfold closeIfOpen; split <;> simp

@[simp] theorem closeAllWindows_count (r : CloseReason) (s : State) : (closeAllWindows r s).count = s.count := by
  simp [closeAllWindows]
@[simp] theorem closeAllWindows_free (r : CloseReason) (s : State) : (closeAllWindows r s).free = s.free := by
  simp [closeAllWindows]
@[simp] theorem closeAllWindows_resetLogic (r : CloseReason) (s : State) : (closeAllWindows r s).resetLogic = s.resetLogic := by
  simp [closeAllWindows]
@[simp] theorem closeAllWindows_mismatchLimit (r : CloseReason) (s : State) : (closeAllWindows r s).mismatchLimit = s.mismatchLimit := by
  simp [closeAllWindows]
@[simp] theorem closeAllWindows_monitor (r : CloseReason) (s : State) : (closeAllWindows r s).monitor = s.monitor := by
  simp [closeAllWindows]
@[simp] theorem closeAllWindows_supply (r : CloseReason) (s : State) : (closeAllWindows r s).supply = s.supply := by
  simp [closeAllWindows]
@[simp] theorem closeAllWindows_mediaEnabled (r : CloseReason) (s : State) : (closeAllWindows r s).mediaEnabled = s.mediaEnabled := by
  simp [closeAllWindows]
@[simp] theorem closeAllWindows_timingLock (r : CloseReason) (s : State) : (closeAllWindows r s).timingLock = s.timingLock := by
  simp [closeAllWindows]
@[simp] theorem closeAllWindows_profile (r : CloseReason) (s : State) : (closeAllWindows r s).profile = s.profile := by
  simp [closeAllWindows]
@[simp] theorem closeAllWindows_resetCounts (r : CloseReason) (s : State) : (closeAllWindows r s).resetCounts = s.resetCounts := by
  simp [closeAllWindows]
@[simp] theorem closeAllWindows_pending (r : CloseReason) (s : State) : (closeAllWindows r s).pending = s.pending := by
  simp [closeAllWindows]
@[simp] theorem closeAllWindows_touch (r : CloseReason) (s : State) : (closeAllWindows r s).touch = s.touch := by
  simp [closeAllWindows]
@[simp] theorem closeAllWindows_faults (r : CloseReason) (s : State) : (closeAllWindows r s).faults = s.faults := by
  simp [closeAllWindows]

/-! ### Power states -/

@[simp] theorem postPanelState_count (p : Panel) (l : PowerState) (r : PanelReason) (s : State) : (postPanelState p l r s).count = s.count := by
  simp [postPanelState]
@[simp] theorem postPanelState_free (p : Panel) (l : PowerState) (r : PanelReason) (s : State) : (postPanelState p l r s).free = s.free := by
  simp [postPanelState]
@[simp] theorem postPanelState_resetLogic (p : Panel) (l : PowerState) (r : PanelReason) (s : State) : (postPanelState p l r s).resetLogic = s.resetLogic := by
  simp [postPanelState]
@[simp] theorem postPanelState_mismatchLimit (p : Panel) (l : PowerState) (r : PanelReason) (s : State) : (postPanelState p l r s).mismatchLimit = s.mismatchLimit := by
  simp [postPanelState]
@[simp] theorem postPanelState_monitor (p : Panel) (l : PowerState) (r : PanelReason) (s : State) : (postPanelState p l r s).monitor = s.monitor := by
  simp [postPanelState]
@[simp] theorem postPanelState_supply (p : Panel) (l : PowerState) (r : PanelReason) (s : State) : (postPanelState p l r s).supply = s.supply := by
  simp [postPanelState]
@[simp] theorem postPanelState_mediaEnabled (p : Panel) (l : PowerState) (r : PanelReason) (s : State) : (postPanelState p l r s).mediaEnabled = s.mediaEnabled := by
  simp [postPanelState]
@[simp] theorem postPanelState_timingLock (p : Panel) (l : PowerState) (r : PanelReason) (s : State) : (postPanelState p l r s).timingLock = s.timingLock := by
  simp [postPanelState]
@[simp] theorem postPanelState_profile (p : Panel) (l : PowerState) (r : PanelReason) (s : State) : (postPanelState p l r s).profile = s.profile := by
  simp [postPanelState]
@[simp] theorem postPanelState_resetCounts (p : Panel) (l : PowerState) (r : PanelReason) (s : State) : (postPanelState p l r s).resetCounts = s.resetCounts := by
  simp [postPanelState]
@[simp] theorem postPanelState_pending (p : Panel) (l : PowerState) (r : PanelReason) (s : State) : (postPanelState p l r s).pending = s.pending := by
  simp [postPanelState]
@[simp] theorem postPanelState_touch (p : Panel) (l : PowerState) (r : PanelReason) (s : State) : (postPanelState p l r s).touch = s.touch := by
  simp [postPanelState]
@[simp] theorem postPanelState_windows (p : Panel) (l : PowerState) (r : PanelReason) (s : State) : (postPanelState p l r s).windows = s.windows := by
  simp [postPanelState]
@[simp] theorem postPanelState_faults (p : Panel) (l : PowerState) (r : PanelReason) (s : State) : (postPanelState p l r s).faults = s.faults := by
  simp [postPanelState]
@[simp] theorem postPanelState_cluster (p : Panel) (l : PowerState) (r : PanelReason) (s : State) : (postPanelState p l r s).cluster = s.cluster := by
  simp [postPanelState]
@[simp] theorem postPanelState_centre (p : Panel) (l : PowerState) (r : PanelReason) (s : State) : (postPanelState p l r s).centre = s.centre := by
  simp [postPanelState]
@[simp] theorem postPanelState_grants (p : Panel) (l : PowerState) (r : PanelReason) (s : State) : (postPanelState p l r s).grants = s.grants := by
  simp [postPanelState]

@[simp] theorem postPanelState_panel (p p' : Panel) (l : PowerState) (r : PanelReason) (s : State) :
    (postPanelState p l r s).panel p' = s.panel p' := by
  simp [postPanelState]

@[simp] theorem stopScan_count (p : Panel) (s : State) : (stopScan p s).count = s.count := by
  simp [stopScan]
@[simp] theorem stopScan_free (p : Panel) (s : State) : (stopScan p s).free = s.free := by
  simp [stopScan]
@[simp] theorem stopScan_resetLogic (p : Panel) (s : State) : (stopScan p s).resetLogic = s.resetLogic := by
  simp [stopScan]
@[simp] theorem stopScan_mismatchLimit (p : Panel) (s : State) : (stopScan p s).mismatchLimit = s.mismatchLimit := by
  simp [stopScan]
@[simp] theorem stopScan_monitor (p : Panel) (s : State) : (stopScan p s).monitor = s.monitor := by
  simp [stopScan]
@[simp] theorem stopScan_supply (p : Panel) (s : State) : (stopScan p s).supply = s.supply := by
  simp [stopScan]
@[simp] theorem stopScan_mediaEnabled (p : Panel) (s : State) : (stopScan p s).mediaEnabled = s.mediaEnabled := by
  simp [stopScan]
@[simp] theorem stopScan_timingLock (p : Panel) (s : State) : (stopScan p s).timingLock = s.timingLock := by
  simp [stopScan]
@[simp] theorem stopScan_profile (p : Panel) (s : State) : (stopScan p s).profile = s.profile := by
  simp [stopScan]
@[simp] theorem stopScan_resetCounts (p : Panel) (s : State) : (stopScan p s).resetCounts = s.resetCounts := by
  simp [stopScan]
@[simp] theorem stopScan_pending (p : Panel) (s : State) : (stopScan p s).pending = s.pending := by
  simp [stopScan]
@[simp] theorem stopScan_touch (p : Panel) (s : State) : (stopScan p s).touch = s.touch := by
  simp [stopScan]
@[simp] theorem stopScan_windows (p : Panel) (s : State) : (stopScan p s).windows = s.windows := by
  simp [stopScan]
@[simp] theorem stopScan_faults (p : Panel) (s : State) : (stopScan p s).faults = s.faults := by
  simp [stopScan]
@[simp] theorem stopScan_grants (p : Panel) (s : State) : (stopScan p s).grants = s.grants := by
  simp [stopScan]
@[simp] theorem stopScan_supervisor (p : Panel) (s : State) : (stopScan p s).supervisor = s.supervisor := by
  simp [stopScan]
@[simp] theorem stopScan_media (p : Panel) (s : State) : (stopScan p s).media = s.media := by
  simp [stopScan]

@[simp] theorem enterDrain_count (p : Panel) (r : PanelReason) (s : State) : (enterDrain p r s).count = s.count := by
  simp [enterDrain]
@[simp] theorem enterDrain_free (p : Panel) (r : PanelReason) (s : State) : (enterDrain p r s).free = s.free := by
  simp [enterDrain]
@[simp] theorem enterDrain_resetLogic (p : Panel) (r : PanelReason) (s : State) : (enterDrain p r s).resetLogic = s.resetLogic := by
  simp [enterDrain]
@[simp] theorem enterDrain_mismatchLimit (p : Panel) (r : PanelReason) (s : State) : (enterDrain p r s).mismatchLimit = s.mismatchLimit := by
  simp [enterDrain]
@[simp] theorem enterDrain_monitor (p : Panel) (r : PanelReason) (s : State) : (enterDrain p r s).monitor = s.monitor := by
  simp [enterDrain]
@[simp] theorem enterDrain_supply (p : Panel) (r : PanelReason) (s : State) : (enterDrain p r s).supply = s.supply := by
  simp [enterDrain]
@[simp] theorem enterDrain_mediaEnabled (p : Panel) (r : PanelReason) (s : State) : (enterDrain p r s).mediaEnabled = s.mediaEnabled := by
  simp [enterDrain]
@[simp] theorem enterDrain_timingLock (p : Panel) (r : PanelReason) (s : State) : (enterDrain p r s).timingLock = s.timingLock := by
  simp [enterDrain]
@[simp] theorem enterDrain_profile (p : Panel) (r : PanelReason) (s : State) : (enterDrain p r s).profile = s.profile := by
  simp [enterDrain]
@[simp] theorem enterDrain_resetCounts (p : Panel) (r : PanelReason) (s : State) : (enterDrain p r s).resetCounts = s.resetCounts := by
  simp [enterDrain]
@[simp] theorem enterDrain_pending (p : Panel) (r : PanelReason) (s : State) : (enterDrain p r s).pending = s.pending := by
  simp [enterDrain]
@[simp] theorem enterDrain_touch (p : Panel) (r : PanelReason) (s : State) : (enterDrain p r s).touch = s.touch := by
  simp [enterDrain]
@[simp] theorem enterDrain_windows (p : Panel) (r : PanelReason) (s : State) : (enterDrain p r s).windows = s.windows := by
  simp [enterDrain]
@[simp] theorem enterDrain_faults (p : Panel) (r : PanelReason) (s : State) : (enterDrain p r s).faults = s.faults := by
  simp [enterDrain]

end Sys2Proof.Machine
end

