-- ==== Sys2Proof/Laws/PerInstr.lean ====
section
/-!
SUPPORT. The family Requests: a command is a request row exactly when its request has a code of R166, and then the
request of the row is that code's. One lemma per command.
-/

namespace Sys2Proof.Laws.Requests

open Sys2Proof Sys2Proof.Machine

/-- The request of a request row has a code that the dispatch knows (R166, check 1; 11.2). -/
def Statement (i : Instr) : Prop :=
  ∀ q tag r, requestOfInstr i = some (q, tag, r) → knownKind r.code = true

theorem writeTransaction (port : Port) (bytes : List Byte) : Statement (.writeTransaction port bytes) := by
  intro q t r h; cases h

theorem readTransaction (port : Port) (bytes : List Byte) : Statement (.readTransaction port bytes) := by
  intro q t r h; cases h

theorem panelConfig (port : Port) (tag : Byte) (panel : Nat) (timing : Timing) : Statement (.panelConfig port tag panel timing) := by
  intro q t r h; cases h; rfl

theorem lockMode (port : Port) (tag : Byte) (panel : Nat) (settings : LockRequest) : Statement (.lockMode port tag panel settings) := by
  intro q t r h; cases h; rfl

theorem bandLayout (port : Port) (tag : Byte) (panel bMax bandCount : Nat) (entries : List BandEntry) : Statement (.bandLayout port tag panel bMax bandCount entries) := by
  intro q t r h; cases h; rfl

theorem damage (port : Port) (tag : Byte) (target : Option DamageTarget) (rangeCount : Nat) (ranges : List LineRange) : Statement (.damage port tag target rangeCount ranges) := by
  intro q t r h; cases h; rfl

theorem fullRefresh (port : Port) (tag : Byte) (panel : Nat) : Statement (.fullRefresh port tag panel) := by
  intro q t r h; cases h; rfl

theorem subscribe (port : Port) (tag : Byte) (panel : Nat) (setting : Option Bool) : Statement (.subscribe port tag panel setting) := by
  intro q t r h; cases h; rfl

theorem lineWatch (port : Port) (tag : Byte) (panel position line : Nat) (mode : Option WatchMode) : Statement (.lineWatch port tag panel position line mode) := by
  intro q t r h; cases h; rfl

theorem crcSet (port : Port) (tag : Byte) (band : Nat) (crc : Crc) (limit : Nat) : Statement (.crcSet port tag band crc limit) := by
  intro q t r h; cases h; rfl

theorem touchGroups (port : Port) (tag : Byte) (scan : ScanRequest) (groupCount : Nat) (entries : List GroupEntry) : Statement (.touchGroups port tag scan groupCount entries) := by
  intro q t r h; cases h; rfl

theorem touchEnable (port : Port) (tag : Byte) : Statement (.touchEnable port tag) := by
  intro q t r h; cases h; rfl

theorem touchDisable (port : Port) (tag : Byte) : Statement (.touchDisable port tag) := by
  intro q t r h; cases h; rfl

theorem freqTable (port : Port) (tag : Byte) (candidates : List FreqEntry) (hysteresis hopHold : Nat) : Statement (.freqTable port tag candidates hysteresis hopHold) := by
  intro q t r h; cases h; rfl

theorem touchRead (port : Port) (tag : Byte) : Statement (.touchRead port tag) := by
  intro q t r h; cases h; rfl

theorem backlight (port : Port) (tag : Byte) (panel : Nat) (settings : DimmerRequest) : Statement (.backlight port tag panel settings) := by
  intro q t r h; cases h; rfl

theorem windowOpen (port : Port) (tag : Byte) (window canvasBase panelBase sizeCode limit : Nat) : Statement (.windowOpen port tag window canvasBase panelBase sizeCode limit) := by
  intro q t r h; cases h; rfl

theorem windowClose (port : Port) (tag : Byte) (window : Nat) : Statement (.windowClose port tag window) := by
  intro q t r h; cases h; rfl

theorem windowRead (port : Port) (tag : Byte) : Statement (.windowRead port tag) := by
  intro q t r h; cases h; rfl

theorem writeOpen (port : Port) (tag : Byte) (panel first last lifetime : Nat) : Statement (.writeOpen port tag panel first last lifetime) := by
  intro q t r h; cases h; rfl

theorem writeClose (port : Port) (tag : Byte) (grant : Nat) (crcs : List Crc) : Statement (.writeClose port tag grant crcs) := by
  intro q t r h; cases h; rfl

theorem panelOn (port : Port) (tag : Byte) (panel tA tB tC : Nat) : Statement (.panelOn port tag panel tA tB tC) := by
  intro q t r h; cases h; rfl

theorem panelStart (port : Port) (tag : Byte) (panel : Nat) : Statement (.panelStart port tag panel) := by
  intro q t r h; cases h; rfl

theorem panelStop (port : Port) (tag : Byte) (panel : Nat) : Statement (.panelStop port tag panel) := by
  intro q t r h; cases h; rfl

theorem panelOff (port : Port) (tag : Byte) (panel : Nat) : Statement (.panelOff port tag panel) := by
  intro q t r h; cases h; rfl

theorem superviseStart (port : Port) (tag : Byte) (period fraction : Nat) : Statement (.superviseStart port tag period fraction) := by
  intro q t r h; cases h; rfl

theorem keepalive (port : Port) (tag : Byte) : Statement (.keepalive port tag) := by
  intro q t r h; cases h; rfl

theorem recover (port : Port) (tag : Byte) : Statement (.recover port tag) := by
  intro q t r h; cases h; rfl

theorem clearFault (port : Port) (tag : Byte) (causes : CauseMask) : Statement (.clearFault port tag causes) := by
  intro q t r h; cases h; rfl

theorem mediaEnable (port : Port) (tag : Byte) : Statement (.mediaEnable port tag) := by
  intro q t r h; cases h; rfl

theorem mediaDisable (port : Port) (tag : Byte) : Statement (.mediaDisable port tag) := by
  intro q t r h; cases h; rfl

theorem setTimingLock (port : Port) (tag : Byte) (setting : Option Bool) : Statement (.setTimingLock port tag setting) := by
  intro q t r h; cases h; rfl

theorem status (port : Port) (tag : Byte) (portion : Nat) : Statement (.status port tag portion) := by
  intro q t r h; cases h; rfl

theorem identify (port : Port) (tag : Byte) : Statement (.identify port tag) := by
  intro q t r h; cases h; rfl

theorem resetDevice (port : Port) (tag : Byte) : Statement (.resetDevice port tag) := by
  intro q t r h; cases h; rfl

theorem profileWrite (port : Port) (tag : Byte) (autoCluster autoCentre : Option Bool) : Statement (.profileWrite port tag autoCluster autoCentre) := by
  intro q t r h; cases h; rfl

theorem profileRead (port : Port) (tag : Byte) (portion : Nat) : Statement (.profileRead port tag portion) := by
  intro q t r h; cases h; rfl

theorem profileWriteDone : Statement (.profileWriteDone) := by
  intro q t r h; cases h

theorem planPoint (panel : Panel) : Statement (.planPoint panel) := by
  intro q t r h; cases h

theorem buildComplete (panel : Panel) : Statement (.buildComplete panel) := by
  intro q t r h; cases h

theorem frameEnd (panel : Panel) : Statement (.frameEnd panel) := by
  intro q t r h; cases h

theorem grantExpiry (grant : Nat) : Statement (.grantExpiry grant) := by
  intro q t r h; cases h

theorem refreshSlotStart (panel : Panel) : Statement (.refreshSlotStart panel) := by
  intro q t r h; cases h

theorem refreshSlotEnd (panel : Panel) : Statement (.refreshSlotEnd panel) := by
  intro q t r h; cases h

theorem skipSlotStart (panel : Panel) : Statement (.skipSlotStart panel) := by
  intro q t r h; cases h

theorem touchSlotStart : Statement (.touchSlotStart) := by
  intro q t r h; cases h

theorem listenSlotStart : Statement (.listenSlotStart) := by
  intro q t r h; cases h

theorem blankStart (panel : Panel) : Statement (.blankStart panel) := by
  intro q t r h; cases h

theorem pwmEdge (panel : Panel) : Statement (.pwmEdge panel) := by
  intro q t r h; cases h

theorem markerEdge (panel : Panel) : Statement (.markerEdge panel) := by
  intro q t r h; cases h

theorem partnerMarker (panel : Panel) : Statement (.partnerMarker panel) := by
  intro q t r h; cases h

theorem bandReport (panel : Panel) (frame : FrameNo) (band : Nat) (crc : Crc) (linkOk : Bool) : Statement (.bandReport panel frame band crc linkOk) := by
  intro q t r h; cases h

theorem senseResult (tag : Byte) (noise : Noise) (saturated linkOk : Bool) : Statement (.senseResult tag noise saturated linkOk) := by
  intro q t r h; cases h

theorem resultDeadline (tag : Byte) : Statement (.resultDeadline tag) := by
  intro q t r h; cases h

theorem gateWaitExpiry (panel : Panel) : Statement (.gateWaitExpiry panel) := by
  intro q t r h; cases h

theorem settleExpiry (panel : Panel) (powerGood : Bool) : Statement (.settleExpiry panel powerGood) := by
  intro q t r h; cases h

theorem dischargeExpiry (panel : Panel) : Statement (.dischargeExpiry panel) := by
  intro q t r h; cases h

theorem powerGoodLoss (panel : Panel) : Statement (.powerGoodLoss panel) := by
  intro q t r h; cases h

theorem supplyWarningAssert : Statement (.supplyWarningAssert) := by
  intro q t r h; cases h

theorem supplyWarningRelease : Statement (.supplyWarningRelease) := by
  intro q t r h; cases h

theorem supervisionPeriodExpiry : Statement (.supervisionPeriodExpiry) := by
  intro q t r h; cases h

theorem powerOnReset : Statement (.powerOnReset) := by
  intro q t r h; cases h

theorem brownOutReset : Statement (.brownOutReset) := by
  intro q t r h; cases h

theorem pinReset : Statement (.pinReset) := by
  intro q t r h; cases h

theorem requestedReset : Statement (.requestedReset) := by
  intro q t r h; cases h

theorem resetRelease : Statement (.resetRelease) := by
  intro q t r h; cases h

end Sys2Proof.Laws.Requests
end

