-- ==== Sys2Proof/WellFormed.lean ====
section
/-!
DEFINITION. Which commands can be written at all: the ranges that a field's own width or a fixed count of fields
imposes. Everything else a request carries is judged by the request's own checks, which answer an outcome.
-/

namespace Sys2Proof

/-- Both lines of a DAMAGE range are 0..65,535 (R30). -/
def LineRange.wf (r : LineRange) : Bool :=
  decide (r.first ≤ 65535) && decide (r.last ≤ 65535)

/-- A command that a port, a link, a pin or the device itself can give. -/
def Instr.wf : Instr → Bool
  | .damage _ _ _ _ ranges => ranges.all LineRange.wf
  | .lineWatch _ _ _ _ line _ => decide (line ≤ 0xFFFF)
  | .freqTable _ _ candidates _ _ => candidates.length == 6
  | .panelOn _ _ _ tA tB tC => decide (tA ≤ 255) && decide (tB ≤ 255) && decide (tC ≤ 255)
  | .grantExpiry grant => decide (1 ≤ grant) && decide (grant ≤ 255)
  | _ => true

end Sys2Proof
end

