-- ==== Sys2Proof/Tests/Slice0.lean ====
section
/-!
SUPPORT. The model's own tests: ill-formed commands refused, values of the spec's worked cases, outcomes at the ends of
the operand ranges, and for each statement with hypotheses a witness that meets them.
-/

namespace Sys2Proof.Tests

open Sys2Proof Sys2Proof.Machine

/-! ### Helpers -/

/-- The state after a command. -/
def after (i : Instr) (s : State) : State :=
  match exec i s with
  | .next t => t
  | _ => s

/-- The outcome a request is answered with. -/
def outcomeOf (q : Port) (s : State) (i : Instr) : Option OutcomeCode := ((after i s).port q).reply.map Reply.outcome

/-- The results a request is answered with. -/
def resultsOf (q : Port) (s : State) (i : Instr) : Option Results := ((after i s).port q).reply.map Reply.results

/-- The outcomes of each of these requests, taken in the same state. -/
def outcomes (q : Port) (s : State) (is : List Instr) : List (Option OutcomeCode) := is.map (outcomeOf q s)

/-- The state after reset with the media port ENABLED. -/
def opened : State := { State.reset with mediaEnabled := true }

/-- The same with a panel READY. -/
def ready (p : Panel) (s : State) : State :=
  s.updPower p fun w => { w with state := .ready, logicEn := true, gateEn := true, powerGood := true }

/-- A panel SCANNING in a frame that began at `start`, with this plan. -/
def scanning (p : Panel) (start : Tick) (length : Nat) (plan : Plan) (s : State) : State :=
  (ready p s).updPanel p fun x =>
    { x with
      power := { x.power with state := .scanning }
      frame := { number := 0, start := some start, length := some length, next := none }
      seq := some
        { plan := plan, position := 0, blankAt := length - 4800, blankBegun := false, driving := [], refreshed := 0,
          touches := 0, deferred := 0, stretched := false, late := false } }

/-- The plan of frame 0 under the factory defaults: 480 lines at 600 tu, and t_set 40 (R43). -/
def frame0 : Plan := { slots := [{ start := 0, cost := 288040, kind := .refresh 0 .pos }], tail := 288040 }

/-- A panel in its frame 0, begun when the count read 0. -/
def running (p : Panel) : State := scanning p 0 333333 frame0 opened

/-- The count reads `n`. -/
def atCount (n : Tick) (s : State) : State := { s with count := n }

/-- A reply waits in the supervisor port. -/
def waiting : State := placeReply .supervisor 7 0x1B (refuse .badParam) opened

/-! ### Well-formed commands -/

theorem test_wf_damage_line : (Instr.damage .media 0 (some .canvas) 1 [{ first := 0, last := 65536 }]).wf = false := by
  decide

theorem test_wf_watch_line : (Instr.lineWatch .media 0 1 0 65536 (some .oneShot)).wf = false := by decide

theorem test_wf_freq_count : (Instr.freqTable .media 0 [] 800 30).wf = false := by decide

theorem test_wf_step_time : (Instr.panelOn .supervisor 0 0 256 0 0).wf = false := by decide

theorem test_wf_grant_id : (Instr.grantExpiry 0).wf = false ∧ (Instr.grantExpiry 256).wf = false := by decide

theorem test_wf_accepts :
    (Instr.damage .media 0 (some .canvas) 1 [{ first := 0, last := 65535 }]).wf = true ∧
      (Instr.lineWatch .media 0 1 0 65535 none).wf = true ∧ (Instr.panelOn .supervisor 0 0 255 0 0).wf = true ∧
      (Instr.grantExpiry 255).wf = true := by
  decide

/-! ### Port frames (11.2) -/

/-- The check of the ASCII digits 1 to 9 under the generator and initial value of 11.2. -/
theorem test_check_digits : frameCheck [0x31, 0x32, 0x33, 0x34, 0x35, 0x36, 0x37, 0x38, 0x39] = 0x29B1 := by
  decide +kernel

/-- No word spells a command: the opcode table gives no bits. -/
theorem test_no_word_spells : decodeTableWord 16 0x1234 = none := rfl

/-! ### The lock case of 1.5 -/

/-- The centre panel's timing configuration in the worked cases. -/
def caseTiming : Timing :=
  { nAct := 1600, tLine := 180, nVb := 12, tSet := 40, tSkip := 20, tMin := 300000, tNom := 333333, tMax := 350000,
    planLead := 8 }

/-- The lock of the case with T_base 333,333, before marker M2. -/
def caseLock : FrameLock :=
  { FrameLock.afterReset { source := .external, slewLimit := 2000, lockWindow := 1000, missLimit := 4, partnerOffset := 0 }
      333333 with
    state := .seek, previous := some 2333133, gapRef := some 2333133, good := 1 }

/-- The centre panel in frame 1, which started at 2,333,333. -/
def caseFrame1 : State :=
  (scanning .centre 2333333 333333 frame0 opened).updPanel .centre fun x => { x with timing := caseTiming, lock := caseLock }

/-- M2 at 2,666,333: e = −333, c = −83, period 333,200. -/
theorem test_markerEdge_m2 :
    ((after (.markerEdge .centre) (atCount 2666333 caseFrame1)).centre.lock.capture =
      some { time := 2666333, error := -333, correction := -83 }) ∧
      (after (.markerEdge .centre) (atCount 2666333 caseFrame1)).centre.lock.tBase = 333200 := by
  decide

/-- T_next after M2 is 333,200 − 83. -/
theorem test_next_length_m2 :
    FrameLock.nextLength caseTiming { caseLock with tBase := 333200, correction := some (-83) } = 333117 := by
  decide

/-- The edge 100,467 tu after M3 is a glitch; the gap reference stays. -/
theorem test_markerEdge_glitch :
    let s := (atCount 3100000 caseFrame1).updLock .centre fun l => { l with gapRef := some 2999533 }
    (after (.markerEdge .centre) s).centre.lock.glitches = 1 ∧
      (after (.markerEdge .centre) s).centre.lock.gapRef = some 2999533 := by
  decide

/-! ### The outcomes of the requests, at the ends of their operand ranges -/

/-- The factory timing configuration (R1). -/
def timing0 : Timing := Config.factoryTiming

/-- A window is open on the cluster. -/
def lent : State :=
  { opened with windows := { opened.windows with slots :=
    [some { canvasBase := 1000, panelBase := 0, sizeCode := 9, storedLimit := 480, panelEnd := 480 }, none, none, none] } }

/-- The monitor is in FAULT, with its cause set. -/
def faulted : State :=
  { opened with
    monitor := { opened.monitor with state := .fault, reason := some .early }
    faults := { opened.faults with supervision := true } }

/-- A media grant on the centre panel's one band. -/
def grant1 : Grant :=
  { id := 1, port := .media, panel := .centre, first := 0, last := 0, state := .granted, held := 0, lifetime := 8 }

/-- The centre panel READY with that grant open. -/
def writing : State := { ready .centre opened with grants := { records := [grant1], nextId := 2 } }

/-- PANEL_CONFIG: the ends of the ranges of R1, the relations of R3, and the cost of R4 (480 × 600 + 40 + 4,800 =
292,840). -/
theorem test_panelConfig_checks :
    outcomes .supervisor opened
        [.panelConfig .supervisor 1 0 timing0,
         .panelConfig .supervisor 1 0 { timing0 with nAct := 240, tLine := 2000 },
         .panelConfig .supervisor 1 0 { timing0 with nAct := 239 },
         .panelConfig .supervisor 1 0 { timing0 with tLine := 60 },
         .panelConfig .supervisor 1 0 { timing0 with tLine := 59 },
         .panelConfig .supervisor 1 0 { timing0 with nVb := 255, tLine := 60 },
         .panelConfig .supervisor 1 0 { timing0 with nVb := 256, tLine := 60 },
         .panelConfig .supervisor 1 0 { timing0 with tSkip := 40 },
         .panelConfig .supervisor 1 0 { timing0 with tSkip := 41 },
         .panelConfig .supervisor 1 0 { timing0 with planLead := 65 },
         .panelConfig .supervisor 1 0 { timing0 with tMin := 333333, tMax := 333333 },
         .panelConfig .supervisor 1 0 { timing0 with tMin := 333334 },
         .panelConfig .supervisor 1 0 { timing0 with tMin := 100000, tNom := 292840, tMax := 292840 },
         .panelConfig .supervisor 1 0 { timing0 with tMin := 100000, tNom := 292839, tMax := 292839 },
         .panelConfig .supervisor 1 0 { timing0 with nAct := 2048, tLine := 1800, tMin := 115200, tMax := 2000000 },
         .panelConfig .supervisor 1 2 timing0] =
      [some .ok, some .doesNotFit, some .badParam, some .ok, some .badParam, some .ok, some .badParam, some .ok,
        some .badParam, some .badParam, some .ok, some .badParam, some .ok, some .doesNotFit, some .doesNotFit,
        some .badParam] := by
  decide

/-- PANEL_CONFIG: the checks of the port and of the state come first (R2). -/
theorem test_panelConfig_state :
    outcomes .media opened [.panelConfig .media 1 0 { timing0 with nAct := 0 }, .panelConfig .media 1 1 timing0] =
        [some .notPermitted, some .ok] ∧
      outcomeOf .media { opened with timingLock := true } (.panelConfig .media 1 1 { timing0 with nAct := 0 }) =
        some .timingLocked ∧
      outcomeOf .media (running .centre) (.panelConfig .media 1 1 { timing0 with nAct := 0 }) = some .wrongState ∧
      outcomes .supervisor lent
          [.panelConfig .supervisor 1 0 timing0, .panelConfig .supervisor 1 0 { timing0 with nAct := 0 }] =
        [some .ok, some .wrongState] ∧
      outcomeOf .media writing (.panelConfig .media 1 1 { timing0 with nAct := 0 }) = some .wrongState := by
  decide

/-- Lock settings with each field at the end of its range. -/
def lockTop : LockRequest :=
  { source := some .external, slewLimit := 65535, lockWindow := 65535, missLimit := 15, partnerOffset := 366665 }

/-- LOCK_MODE (R13). -/
theorem test_lockMode_checks :
    outcomes .supervisor opened
        [.lockMode .supervisor 1 1 lockTop, .lockMode .supervisor 1 1 { lockTop with slewLimit := 65536 },
         .lockMode .supervisor 1 1 { lockTop with lockWindow := 65536 },
         .lockMode .supervisor 1 1 { lockTop with missLimit := 0 },
         .lockMode .supervisor 1 1 { lockTop with missLimit := 16 },
         .lockMode .supervisor 1 1 { lockTop with source := none },
         .lockMode .supervisor 1 1 { lockTop with partnerOffset := 366666 },
         .lockMode .supervisor 1 1 { lockTop with source := some .partner },
         .lockMode .supervisor 1 2 lockTop] =
      [some .ok, some .badParam, some .badParam, some .badParam, some .badParam, some .badParam, some .badParam,
        some .ok, some .badParam] ∧
      outcomeOf .supervisor (opened.updLock .cluster fun l => { l with settings := { l.settings with source := .partner } })
          (.lockMode .supervisor 1 1 { lockTop with source := some .partner }) = some .badParam ∧
      outcomes .media { opened with timingLock := true } [.lockMode .media 1 0 lockTop, .lockMode .media 1 1 lockTop] =
        [some .notPermitted, some .timingLocked] := by
  decide

/-- A change of source leaves LOCKED and posts LOCK_STATE (R14, R20). -/
theorem test_lockMode_leaves_locked :
    let s := (running .centre).updLock .centre fun l =>
      { l with settings := { l.settings with source := .partner }, state := .locked }
    (after (.lockMode .supervisor 1 1 lockTop) s).media.queue.getLast? =
      some { panel := some .centre, frame := 0, body := .lockState .locked .seek 333333 } := by
  decide

/-- The centre panel of 2.9. -/
def caseCentre : State := (ready .centre opened).updPanel .centre fun x => { x with timing := caseTiming }

/-- The eight bands of 2.9. -/
def caseBands : List BandEntry := List.replicate 8 { lines := 200, cls := some .normal, holdLimit := 4 }

/-- BAND_LAYOUT: the case of 2.9, whose cost is 290,480. -/
theorem test_bandLayout_case :
    resultsOf .media caseCentre (.bandLayout .media 1 1 3 8 caseBands) = some (.layout 290480 8) ∧
      resultsOf .media (caseCentre.updPanel .centre fun x => { x with timing := { caseTiming with tLine := 200, tSet := 4000 } })
          (.bandLayout .media 1 1 3 8 caseBands) = some (.cost 354400) := by
  decide

/-- BAND_LAYOUT: the checks of R25 at the ends of their ranges. -/
theorem test_bandLayout_checks :
    outcomes .supervisor opened
        [.bandLayout .supervisor 1 0 1 1 [{ lines := 480, cls := some .guarded, holdLimit := 15 }],
         .bandLayout .supervisor 1 0 7 2 [{ lines := 472, cls := some .normal, holdLimit := 1 }, { lines := 8, cls := some .normal, holdLimit := 1 }],
         .bandLayout .supervisor 1 0 7 2 [{ lines := 473, cls := some .normal, holdLimit := 1 }, { lines := 7, cls := some .normal, holdLimit := 1 }],
         .bandLayout .supervisor 1 0 0 1 [{ lines := 480, cls := some .normal, holdLimit := 1 }],
         .bandLayout .supervisor 1 0 8 1 [{ lines := 480, cls := some .normal, holdLimit := 1 }],
         .bandLayout .supervisor 1 0 3 0 [],
         .bandLayout .supervisor 1 0 3 2 [{ lines := 480, cls := some .normal, holdLimit := 1 }],
         .bandLayout .supervisor 1 0 3 1 [{ lines := 480, cls := some .normal, holdLimit := 0 }],
         .bandLayout .supervisor 1 0 3 1 [{ lines := 480, cls := some .normal, holdLimit := 16 }],
         .bandLayout .supervisor 1 0 3 1 [{ lines := 480, cls := none, holdLimit := 1 }],
         .bandLayout .supervisor 1 0 3 1 [{ lines := 479, cls := some .normal, holdLimit := 1 }],
         .bandLayout .supervisor 1 1 3 1 [{ lines := 480, cls := some .guarded, holdLimit := 1 }],
         .bandLayout .supervisor 1 0 3 33 (List.replicate 33 { lines := 8, cls := some .normal, holdLimit := 1 })] =
      [some .ok, some .ok, some .badParam, some .badParam, some .badParam, some .badParam, some .badParam,
        some .badParam, some .badParam, some .badParam, some .badParam, some .badParam, some .badParam] ∧
      outcomeOf .media opened (.bandLayout .media 1 0 3 8 caseBands) = some .notPermitted ∧
      outcomeOf .media (running .centre) (.bandLayout .media 1 1 3 0 []) = some .wrongState ∧
      outcomeOf .supervisor lent (.bandLayout .supervisor 1 0 3 0 []) = some .wrongState ∧
      outcomeOf .media writing (.bandLayout .media 1 1 3 0 []) = some .wrongState := by
  decide

/-- The bands of 2.9 laid out. -/
def laidOut : State := after (.bandLayout .media 1 1 3 8 caseBands) caseCentre

/-- The ranges of 2.10. -/
def caseDamage : List LineRange :=
  [{ first := 150, last := 210 }, { first := 1590, last := 1700 }, { first := 2000, last := 2100 }]

/-- DAMAGE: the case of 2.10 marks bands 0, 1 and 7 and clips one range away. -/
theorem test_damage_case :
    let s := { laidOut with media := { laidOut.media with reply := none } }
    let t := after (.damage .media 2 (some .centre) 3 caseDamage) s
    t.centre.bands.records.map Band.dirty = [true, true, false, false, false, false, false, true] ∧
      t.media.reply.map Reply.results = some (.damage 3 1) ∧
      outcomes .media s
          [.damage .media 2 (some .centre) 4 (caseDamage ++ [{ first := 500, last := 400 }]),
           .damage .media 2 (some .centre) 2 caseDamage, .damage .media 2 (some .centre) 0 [],
           .damage .media 2 (some .centre) 9 (List.replicate 9 { first := 0, last := 0 }),
           .damage .media 2 (some .centre) 8 (List.replicate 8 { first := 0, last := 0 }),
           .damage .media 2 none 1 [{ first := 0, last := 0 }], .damage .media 2 (some .cluster) 0 []] =
        [some .badParam, some .badParam, some .badParam, some .badParam, some .ok, some .badParam,
          some .notPermitted] := by
  decide

/-- The six bands of 7.6. -/
def clusterBands : List BandSpec :=
  [{ lines := 64, cls := .guarded, holdLimit := 4 }, { lines := 128, cls := .normal, holdLimit := 4 },
    { lines := 64, cls := .normal, holdLimit := 4 }, { lines := 64, cls := .guarded, holdLimit := 4 },
    { lines := 96, cls := .normal, holdLimit := 4 }, { lines := 64, cls := .normal, holdLimit := 4 }]

/-- The cluster of 7.6. -/
def caseCluster : State := opened.updPanel .cluster fun x => { x with bands := .fresh 3 clusterBands }

/-- Window 0 of 7.6. -/
def window0 : Window := { canvasBase := 1000, panelBase := 64, sizeCode := 8, storedLimit := 0, panelEnd := 320 }

/-- Window 1 of 7.6. -/
def window1 : Window := { canvasBase := 2000, panelBase := 320, sizeCode := 7, storedLimit := 416, panelEnd := 416 }

/-- The same with windows 0 and 1 OPEN, and the canvas miss counter at 17. -/
def caseWindows : State :=
  { caseCluster with windows := { slots := [some window0, some window1, none, none], misses := 17 } }

/-- DAMAGE on the canvas: the first two ranges of 7.6 mark bands 1 and 2 and miss once. -/
theorem test_damage_canvas :
    let t := after (.damage .media 1 (some .canvas) 2 [{ first := 1100, last := 1150 }, { first := 1240, last := 1270 }])
      caseWindows
    t.cluster.bands.records.map Band.dirty = [false, true, true, false, false, false] ∧ t.windows.misses = 18 ∧
      t.media.reply.map Reply.results = some (.canvasDamage 2 0 1) ∧
      outcomeOf .supervisor caseWindows (.damage .supervisor 1 (some .canvas) 0 []) = some .notPermitted := by
  decide

/-- WINDOW_OPEN: the five requests of 7.6. -/
theorem test_windowOpen_case :
    resultsOf .supervisor caseCluster (.windowOpen .supervisor 1 0 1000 64 8 0) = some (.windowOpen 0 320 2) ∧
      resultsOf .supervisor { caseCluster with windows := { slots := [some window0, none, none, none], misses := 17 } }
          (.windowOpen .supervisor 1 1 2000 320 7 416) = some (.windowOpen 416 416 1) ∧
      outcomes .supervisor caseWindows
          [.windowOpen .supervisor 1 2 1200 416 6 500, .windowOpen .supervisor 1 2 3000 416 4 416,
           .windowOpen .supervisor 1 3 3500 400 5 0] =
        [some .overlap, some .ok, some .overlap] ∧
      resultsOf .supervisor caseWindows (.windowOpen .supervisor 1 2 3000 416 4 416) = some (.windowOpen 416 416 0) := by
  decide

/-- WINDOW_OPEN: the checks of R116 at the ends of their ranges. -/
theorem test_windowOpen_checks :
    outcomes .supervisor opened
        [.windowOpen .supervisor 1 3 4080 464 4 0, .windowOpen .supervisor 1 4 4080 464 4 0,
         .windowOpen .supervisor 1 3 4081 464 4 0, .windowOpen .supervisor 1 3 4095 465 4 465,
         .windowOpen .supervisor 1 3 4096 465 4 465, .windowOpen .supervisor 1 3 0 465 4 0,
         .windowOpen .supervisor 1 3 0 480 4 480, .windowOpen .supervisor 1 3 0 2049 4 2049,
         .windowOpen .supervisor 1 3 0 0 3 0, .windowOpen .supervisor 1 3 0 0 12 0,
         .windowOpen .supervisor 1 3 0 0 11 480] =
      [some .ok, some .badParam, some .badParam, some .ok, some .badParam, some .badParam, some .ok, some .badParam,
        some .badParam, some .badParam, some .ok] ∧
      outcomeOf .media opened (.windowOpen .media 1 4 0 0 0 0) = some .notPermitted ∧
      outcomeOf .supervisor faulted (.windowOpen .supervisor 1 0 0 0 4 0) = some .faulted ∧
      outcomeOf .supervisor lent (.windowOpen .supervisor 1 0 0 2048 4 0) = some .wrongState := by
  decide

/-- FULL_REFRESH and SUBSCRIBE (R33, R66). -/
theorem test_fullRefresh_subscribe :
    (after (.fullRefresh .supervisor 1 0) caseCluster).cluster.bands.records.all Band.dirty = true ∧
      outcomes .media opened
          [.fullRefresh .media 1 0, .fullRefresh .media 1 1, .fullRefresh .media 1 2, .subscribe .media 1 0 (some true),
           .subscribe .media 1 1 none, .subscribe .media 1 2 (some true)] =
        [some .notPermitted, some .ok, some .badParam, some .ok, some .badParam, some .badParam] ∧
      (after (.subscribe .media 1 0 (some true)) opened).cluster.builder.subMedia = true := by
  decide

/-- LINE_WATCH (R84): the media port watches a lent cluster line only. -/
theorem test_lineWatch_checks :
    outcomes .media caseWindows
        [.lineWatch .media 1 0 0 64 (some .oneShot), .lineWatch .media 1 0 1 255 (some .repeating),
         .lineWatch .media 1 0 0 63 (some .oneShot), .lineWatch .media 1 0 0 256 (some .oneShot),
         .lineWatch .media 1 1 0 479 (some .oneShot), .lineWatch .media 1 1 0 480 (some .oneShot),
         .lineWatch .media 1 1 2 0 (some .oneShot), .lineWatch .media 1 2 0 0 (some .oneShot),
         .lineWatch .media 1 1 0 0 none, .lineWatch .media 1 0 0 0xFFFF none] =
      [some .ok, some .ok, some .notPermitted, some .notPermitted, some .ok, some .badParam, some .badParam,
        some .badParam, some .badParam, some .ok] := by
  decide

/-- CRC_SET (R81): bands 0 and 3 of the case are PROTECTED. -/
theorem test_crcSet_checks :
    outcomes .supervisor caseCluster
        [.crcSet .supervisor 1 0 0x1234 0, .crcSet .supervisor 1 3 0x1234 7, .crcSet .supervisor 1 3 0x1234 8,
         .crcSet .supervisor 1 1 0x1234 0, .crcSet .supervisor 1 6 0x1234 0] =
      [some .ok, some .ok, some .badParam, some .badParam, some .badParam] ∧
      outcomeOf .media caseCluster (.crcSet .media 1 6 0 8) = some .notPermitted ∧
      resultsOf .supervisor caseCluster (.crcSet .supervisor 1 3 0x1234 0) = some (.crcSet none 2) := by
  decide

/-- Scan settings at the tops of their ranges (R88). -/
def scanTop : ScanRequest :=
  { tGuard := 1023, listenBursts := 64, edgeGuard := 4095, crossCoupling := some true, timeout := 5000 }

/-- A group entry at the tops of its ranges (R87). -/
def groupTop : GroupEntry := { id := 15, code := 9, interval := 8, bursts := 255, enabled := some true }

/-- TOUCH_GROUPS (R89). -/
theorem test_touchGroups_checks :
    outcomes .media opened
        [.touchGroups .media 1 scanTop 1 [groupTop],
         .touchGroups .media 1 scanTop 2 [groupTop, { groupTop with id := 0, interval := 1, bursts := 8 }],
         .touchGroups .media 1 scanTop 2 [groupTop, groupTop],
         .touchGroups .media 1 scanTop 1 [{ groupTop with id := 16 }],
         .touchGroups .media 1 scanTop 1 [{ groupTop with interval := 9 }],
         .touchGroups .media 1 scanTop 1 [{ groupTop with interval := 0 }],
         .touchGroups .media 1 scanTop 1 [{ groupTop with bursts := 7 }],
         .touchGroups .media 1 scanTop 1 [{ groupTop with bursts := 256 }],
         .touchGroups .media 1 scanTop 1 [{ groupTop with enabled := none }],
         .touchGroups .media 1 { scanTop with tGuard := 1024 } 1 [groupTop],
         .touchGroups .media 1 { scanTop with listenBursts := 8 } 1 [groupTop],
         .touchGroups .media 1 { scanTop with listenBursts := 7 } 1 [groupTop],
         .touchGroups .media 1 { scanTop with edgeGuard := 4096 } 1 [groupTop],
         .touchGroups .media 1 { scanTop with timeout := 49 } 1 [groupTop],
         .touchGroups .media 1 { scanTop with timeout := 5001 } 1 [groupTop],
         .touchGroups .media 1 scanTop 0 [], .touchGroups .media 1 scanTop 17 []] =
      [some .ok, some .ok, some .badParam, some .badParam, some .badParam, some .badParam, some .badParam,
        some .badParam, some .badParam, some .badParam, some .ok, some .badParam, some .badParam, some .badParam,
        some .badParam, some .badParam, some .badParam] ∧
      outcomeOf .media (after (.touchEnable .supervisor 1) opened) (.touchGroups .media 1 scanTop 0 []) =
        some .wrongState := by
  decide

/-- TOUCH_GROUPS places the groups in order of id, each of age 255 (R87). -/
theorem test_touchGroups_order :
    (after (.touchGroups .media 1 scanTop 2 [groupTop, { groupTop with id := 3 }]) opened).touch.groups.map
        (fun g => (g.id, g.age)) = [(3, 255), (15, 255)] := by
  decide

/-- Six candidates, all ALLOWED, with one period changed. -/
def freqs : List FreqEntry :=
  [40, 125, 150, 180, 220, 400].map fun p => { period := p, permission := some .allowed }

/-- FREQ_TABLE (R97). -/
theorem test_freqTable_checks :
    outcomes .media opened
        [.freqTable .media 1 freqs 8192 255, .freqTable .media 1 freqs 8193 255, .freqTable .media 1 freqs 0 0,
         .freqTable .media 1 freqs 0 256, .freqTable .media 1 ({ period := 39, permission := some .allowed } :: freqs.tail) 0 1,
         .freqTable .media 1 ({ period := 401, permission := some .allowed } :: freqs.tail) 0 1,
         .freqTable .media 1 ({ period := 100, permission := none } :: freqs.tail) 0 1,
         .freqTable .media 1 (freqs.map fun e => { e with permission := some .banned }) 0 1,
         .freqTable .media 1 freqs.tail 0 1] =
      [some .ok, some .badParam, some .badParam, some .badParam, some .badParam, some .badParam, some .badParam,
        some .badParam, some .badParam] := by
  decide

/-- A changed period forgets its average; the others are kept (R97). -/
theorem test_freqTable_averages :
    let s := { opened with touch := { opened.touch with
      candidates := opened.touch.candidates.map fun c => { c with average := 4800 } } }
    (after (.freqTable .media 1 freqs 0 1) s).touch.candidates.map Candidate.average =
      [65520, 4800, 4800, 4800, 4800, 65520] := by
  decide

/-- TOUCH_ENABLE and TOUCH_DISABLE (R91). -/
theorem test_touch_states :
    let s := { opened with touch := { opened.touch with state := .suspended, missing := 3 } }
    resultsOf .media s (.touchEnable .media 1) = some (.touchState .suspended) ∧
      (after (.touchEnable .media 1) s).touch.missing = 0 ∧
      (after (.touchDisable .media 1) s).touch.missing = 3 ∧
      (after (.touchDisable .media 1) s).touch.state = .disabled := by
  decide

/-- Dimmer settings at the tops of their ranges, with the periods and the polarity of the factory (R105). -/
def dimTop : DimmerRequest := { target := 1024, ramp := 1024, periods := 1, polarity := some .activeHigh, cap := 1024 }

/-- BACKLIGHT (R106). -/
theorem test_backlight_checks :
    outcomes .supervisor opened
        [.backlight .supervisor 1 0 dimTop, .backlight .supervisor 1 0 { dimTop with target := 1025 },
         .backlight .supervisor 1 0 { dimTop with ramp := 0 }, .backlight .supervisor 1 0 { dimTop with ramp := 1025 },
         .backlight .supervisor 1 0 { dimTop with periods := 16 }, .backlight .supervisor 1 0 { dimTop with periods := 17 },
         .backlight .supervisor 1 0 { dimTop with periods := 0 }, .backlight .supervisor 1 0 { dimTop with polarity := none },
         .backlight .supervisor 1 0 { dimTop with cap := 1025 }, .backlight .supervisor 1 2 dimTop] =
      [some .ok, some .badParam, some .badParam, some .badParam, some .ok, some .badParam, some .badParam,
        some .badParam, some .badParam, some .badParam] ∧
      outcomes .media { running .centre with timingLock := true } [.backlight .media 1 0 dimTop, .backlight .media 1 1 dimTop] =
        [some .notPermitted, some .timingLocked] ∧
      outcomes .media (running .centre)
          [.backlight .media 1 1 dimTop, .backlight .media 1 1 { dimTop with periods := 2 },
           .backlight .media 1 1 { dimTop with polarity := some .activeLow }] =
        [some .ok, some .wrongState, some .wrongState] := by
  decide

/-- A media grant on bands 1 and 2 of the cluster, under window 0 of 7.6. -/
def grant5 : Grant :=
  { id := 5, port := .media, panel := .cluster, first := 1, last := 2, state := .granted, held := 0, lifetime := 8 }

/-- The windows of 7.6 with that grant, the cluster READY. -/
def caseGrant : State := { ready .cluster caseWindows with grants := { records := [grant5], nextId := 6 } }

/-- WINDOW_CLOSE (R122): the grant goes, its bands are dirty, and two notices reach the media port. -/
theorem test_windowClose_revokes :
    let t := after (.windowClose .supervisor 1 0) caseGrant
    t.grants.records = [] ∧ t.windows.slots = [none, some window1, none, none] ∧
      t.cluster.bands.records.map Band.dirty = [false, true, true, false, false, false] ∧
      t.supervisor.reply.map Reply.results = some (.windowClose 2 1) ∧
      t.media.queue.tail.map Notice.body =
        [.grantRevoked 5 .windowClose .granted 0 2, .windowClosed 0 .request 1000 64 320 2 1] ∧
      outcomes .supervisor caseGrant
          [.windowClose .supervisor 1 3, .windowClose .supervisor 1 4, .windowClose .supervisor 1 1] =
        [some .wrongState, some .badParam, some .ok] ∧
      outcomeOf .media caseGrant (.windowClose .media 1 4) = some .notPermitted := by
  decide

/-- WINDOW_READ (R125): an EMPTY window lends nothing, and its first band lent reads 0xFF. -/
theorem test_windowRead_empty :
    let w : Window := { canvasBase := 3000, panelBase := 416, sizeCode := 4, storedLimit := 416, panelEnd := 416 }
    resultsOf .media { caseCluster with windows := { slots := [some window0, none, some w, none], misses := 17 } }
        (.windowRead .media 1) =
      some (.windowRead
        [some { window := window0, empty := false, firstLent := 1, lent := 2 }, none,
          some { window := w, empty := true, firstLent := 0xFF, lent := 0 }, none] 17) := by
  decide

/-- WRITE_OPEN (R129), at the ends of its ranges and in the order of its checks. -/
theorem test_writeOpen_checks :
    outcomes .media (ready .centre caseGrant)
        [.writeOpen .media 1 1 0 0 63, .writeOpen .media 1 1 0 0 64, .writeOpen .media 1 1 0 1 0,
         .writeOpen .media 1 1 1 0 0, .writeOpen .media 1 2 0 0 0, .writeOpen .media 1 0 0 1 0,
         .writeOpen .media 1 0 2 2 0, .writeOpen .media 1 0 4 4 0] =
      [some .ok, some .badParam, some .badParam, some .badParam, some .badParam, some .notPermitted, some .overlap,
        some .ok] ∧
      outcomes .supervisor caseGrant
          [.writeOpen .supervisor 1 0 0 0 0, .writeOpen .supervisor 1 0 0 1 0, .writeOpen .supervisor 1 1 0 0 0] =
        [some .ok, some .notPermitted, some .wrongState] := by
  decide

/-- WRITE_OPEN: a fifth grant of one port is FULL, and ids wrap past those held (R127, R128). -/
theorem test_writeOpen_full :
    let own := fun (id first : Nat) =>
      { id := id, port := .supervisor, panel := .cluster, first := first, last := first, state := .granted, held := 0,
        lifetime := 8 : Grant }
    let s := { ready .cluster caseCluster with grants := { records := [own 1 0, own 2 1, own 255 2], nextId := 254 } }
    (after (.writeOpen .supervisor 1 0 3 3 0) s).grants.nextId = 3 ∧
      outcomeOf .supervisor { s with grants := { records := s.grants.records ++ [own 254 3], nextId := 3 } }
        (.writeOpen .supervisor 1 0 4 4 0) = some .full := by
  decide

/-- WRITE_CLOSE (R134): the CRCs go to the PROTECTED bands in band order. -/
theorem test_writeClose_crcs :
    let g : Grant :=
      { id := 9, port := .supervisor, panel := .cluster, first := 0, last := 3, state := .torn, held := 3, lifetime := 8 }
    let s := { ready .cluster caseCluster with grants := { records := [g], nextId := 10 } }
    (after (.writeClose .supervisor 1 9 [0x1111, 0x2222]) s).cluster.bands.records.map Band.expected =
        [some 0x1111, none, none, some 0x2222, none, none] ∧
      resultsOf .supervisor s (.writeClose .supervisor 1 9 []) = some (.writeClose .torn 3 4) ∧
      outcomes .supervisor s [.writeClose .supervisor 1 9 [1], .writeClose .supervisor 1 8 []] =
        [some .badParam, some .noGrant] ∧
      outcomeOf .media s (.writeClose .media 1 9 []) = some .noGrant := by
  decide

/-- A list cut short fails the owning block's check of the count, after the checks before it (R30, R89, R134, R166). -/
theorem test_list_cut_short :
    let range : Carried LineRange := { entries := [{ first := 0, last := 0 }], whole := false }
    let groups : Carried GroupEntry := { entries := [groupTop], whole := false }
    let crcs : Carried Crc := { entries := [], whole := false }
    (serveDamage .media (some .cluster) 1 range opened).2 = refuse .notPermitted ∧
      serveDamage .media (some .centre) 1 range opened = (opened, refuse .badParam) ∧
      (serveTouchGroups scanTop 1 groups (after (.touchEnable .media 1) opened)).2 = refuse .wrongState ∧
      serveTouchGroups scanTop 1 groups opened = (opened, refuse .badParam) ∧
      (serveWriteClose .media 9 crcs writing).2 = refuse .noGrant ∧
      serveWriteClose .media 1 crcs writing = (writing, refuse .badParam) := by
  decide

/-- PANEL_ON (R141, R142): 10 ms is 200,000 tu; a field of 0 keeps the present time. -/
theorem test_panelOn_ramp :
    let t := after (.panelOn .supervisor 1 0 255 0 0) opened
    t.cluster.power.step = some { step := .gateWait, deadline := 5100000 } ∧
      t.cluster.power.times = { tA := 255, tB := 20, tC := 10 } ∧ t.cluster.power.logicEn = true ∧
      t.cluster.power.gateEn = false ∧
      t.supervisor.queue.getLast? =
        some { panel := some .cluster, frame := 0, body := .panelState .off .ramp .request true false false } := by
  decide

/-- The power requests by panel, port and state (R141). -/
theorem test_power_checks :
    outcomes .supervisor (running .cluster)
        [.panelOn .supervisor 1 0 0 0 0, .panelStart .supervisor 1 0, .panelStop .supervisor 1 0,
         .panelOff .supervisor 1 0, .panelOn .supervisor 1 1 0 0 0, .panelStart .supervisor 1 1,
         .panelStop .supervisor 1 1, .panelOff .supervisor 1 1, .panelOn .supervisor 1 2 0 0 0,
         .panelStart .supervisor 1 2, .panelStop .supervisor 1 2, .panelOff .supervisor 1 2] =
      [some .wrongState, some .wrongState, some .ok, some .ok, some .ok, some .wrongState, some .wrongState, some .ok,
        some .badParam, some .badParam, some .badParam, some .badParam] ∧
      outcomes .media (running .cluster)
          [.panelOn .media 1 0 0 0 0, .panelStart .media 1 0, .panelStop .media 1 0, .panelOff .media 1 0,
           .panelOn .media 1 1 0 0 0] =
        [some .notPermitted, some .notPermitted, some .notPermitted, some .notPermitted, some .ok] := by
  decide

/-- PANEL_START (R144): frame 0 of T_nom, POS, every band refreshed. -/
theorem test_panelStart_frame0 :
    let t := after (.panelStart .media 1 1) (atCount 2000000 caseCentre)
    t.centre.frame = { number := 0, start := some 2000000, length := some 333333, next := none } ∧
      t.centre.link.lastCommand = some (.frame 0 .pos 333333) ∧ t.centre.power.state = .scanning ∧
      (t.media.reply.map Reply.results =
        some (.panelStart { state := .scanning, stopPending := false, offPending := false } (some 333333))) := by
  decide

/-- PANEL_STOP (R145) and PANEL_OFF in SCANNING (R146). -/
theorem test_panelStop_panelOff :
    (after (.panelStop .supervisor 1 0) (running .cluster)).cluster.power.stopPending = true ∧
      (after (.panelStop .supervisor 1 0) (running .cluster)).cluster.power.offPending = false ∧
      (after (.panelOff .supervisor 1 0) (running .cluster)).cluster.power.offPending = true ∧
      (after (.panelOff .supervisor 1 0) (ready .cluster opened)).cluster.power.step =
        some { step := .discharge, deadline := 200000 } := by
  decide

/-- The cluster in a timed step that ends at the count 0. -/
def stepping (k : PowerStep) (st : PowerState) : State :=
  opened.updPower .cluster fun w => { w with state := st, logicEn := true, step := some { step := k, deadline := 0 } }

/-- The three timed steps (R142, R143, R147). -/
theorem test_power_steps :
    (after (.gateWaitExpiry .cluster) (stepping .gateWait .ramp)).cluster.power.step =
        some { step := .settle, deadline := 400000 } ∧
      (after (.settleExpiry .cluster true) (stepping .settle .ramp)).cluster.power.state = .ready ∧
      (after (.settleExpiry .cluster false) (stepping .settle .ramp)).cluster.power.state = .drain ∧
      (after (.settleExpiry .cluster false) (stepping .settle .ramp)).faultLine = true ∧
      (after (.dischargeExpiry .cluster) (stepping .discharge .drain)).cluster.power.logicEn = false ∧
      (after (.dischargeExpiry .cluster) (stepping .discharge .drain)).cluster.power.state = .off := by
  decide

/-- The end of SETTLE with the autostart mark set: READY and SCANNING at once, with both notices (R176). -/
theorem test_settleExpiry_autostart :
    let s := (stepping .settle .ramp).updPower .cluster fun w => { w with autostart := true, gateEn := true }
    let t := after (.settleExpiry .cluster true) s
    t.cluster.frame = { number := 0, start := some 0, length := some 333333, next := none } ∧
      t.supervisor.queue.tail.map Notice.body =
        [.panelState .ramp .ready .stepDone true true true, .panelState .ready .scanning .request true true true] := by
  decide

/-- POWER_GOOD_LOSS from SCANNING ends the scan at once (R143, R11). -/
theorem test_powerGoodLoss_scanning :
    let t := after (.powerGoodLoss .cluster) (running .cluster)
    t.cluster.power.state = .drain ∧ t.cluster.seq = none ∧ t.cluster.frame.start = none ∧ t.faults.power = true := by
  decide

/-- SUPPLY_WARNING (R112, R149): frame 6 of 6.7 runs at 792 and is dark-capped at 256; the fixed 800 marks frame 7. -/
theorem test_supplyWarning_case :
    let s := (running .centre).updDimmer .centre fun d => { d with applied := 792, frameDuty := some 800 }
    let t := after .supplyWarningAssert s
    t.centre.dimmer.applied = 256 ∧ t.centre.dimmer.darkNow = true ∧ t.centre.dimmer.darkNext = true ∧
      t.supply.hold = true ∧ (after .supplyWarningRelease t).supply.hold = false ∧
      (after .supplyWarningAssert t).supervisor.queue.length = t.supervisor.queue.length := by
  decide

/-- SUPERVISE_START (R153): 100 ms and 25% open at 1,500,000 tu. -/
theorem test_superviseStart_case :
    resultsOf .supervisor opened (.superviseStart .supervisor 1 100 25) = some (.supervise 100 25 1500000) ∧
      outcomes .supervisor opened
          [.superviseStart .supervisor 1 0 0, .superviseStart .supervisor 1 9 0, .superviseStart .supervisor 1 10 100,
           .superviseStart .supervisor 1 2000 75, .superviseStart .supervisor 1 2001 75,
           .superviseStart .supervisor 1 1 0, .superviseStart .supervisor 1 100 24] =
        [some .ok, some .badParam, some .ok, some .ok, some .badParam, some .badParam, some .badParam] ∧
      outcomeOf .supervisor faulted (.superviseStart .supervisor 1 0 0) = some .wrongState ∧
      outcomeOf .media opened (.superviseStart .media 1 9 0) = some .notPermitted := by
  decide

/-- The monitor of 10.5, RUNNING with 100 ms and 25%, at an elapsed time. -/
def keeping (elapsed : Elapsed) : State :=
  { caseGrant with monitor := { caseGrant.monitor with state := .running, fraction := 25, start := some 0, elapsed := elapsed } }

/-- KEEPALIVE (R154): the open start is taken, one tu before it is not. -/
theorem test_keepalive_case :
    resultsOf .supervisor (keeping 1600000) (.keepalive .supervisor 1) = some (.keepalive 1600000) ∧
      resultsOf .supervisor (keeping 1500000) (.keepalive .supervisor 1) = some (.keepalive 1500000) ∧
      resultsOf .supervisor (keeping 1499999) (.keepalive .supervisor 1) = some (.tooEarly 1499999 1500000) ∧
      outcomes .supervisor opened [.keepalive .supervisor 1] = [some .wrongState] ∧
      outcomes .supervisor faulted [.keepalive .supervisor 1] = [some .faulted] := by
  decide

/-- The entry into FAULT at 150 ms of 10.5: the notices of both ports in order (R156). -/
theorem test_keepalive_fault :
    let t := after (.keepalive .supervisor 1) (keeping 1400000)
    t.monitor.state = .fault ∧ t.monitor.reason = some .early ∧ t.faultLine = true ∧
      t.windows.slots = [none, none, none, none] ∧ t.grants.records = [] ∧
      t.media.queue.tail.map (fun n => n.body.code) = [0x90, 0x8C, 0x8C, 0x92] ∧
      t.supervisor.queue.tail.map (fun n => n.body.code) = [0x92] := by
  decide

/-- Its notices in full: each window's GRANT_REVOKED and WINDOW_CLOSED in order of index, then SUPERVISION_FAULT. -/
theorem test_keepalive_fault_notices :
    (after (.keepalive .supervisor 1) (keeping 1400000)).media.queue.tail.map Notice.body =
      [.grantRevoked 5 .supervisionFault .granted 0 2, .windowClosed 0 .fault 1000 64 320 2 1,
       .windowClosed 1 .fault 2000 320 416 1 0, .supervisionFault .early 1400000 2 1 0] := by
  decide

/-- SUPERVISION_PERIOD_EXPIRY (R155): 2,000,000 tu for 100 ms. -/
theorem test_periodExpiry_missed :
    (after .supervisionPeriodExpiry (keeping 2000000)).monitor.reason = some .missed ∧
      (after .supervisionPeriodExpiry (keeping 1999999)).monitor.state = .running := by
  decide

/-- RECOVER and CLEAR_FAULT in FAULT and after it (R158, R160). -/
theorem test_recover_clearFault :
    let m : CauseMask := { supervision := true, integrity := false, power := false, other := false }
    resultsOf .supervisor faulted (.recover .supervisor 1) = some (.recover 100 50 1000000 (some .early)) ∧
      outcomes .supervisor faulted
          [.clearFault .supervisor 1 m, .clearFault .supervisor 1 { m with supervision := false },
           .clearFault .supervisor 1 { m with other := true }] =
        [some .wrongState, some .badParam, some .badParam] ∧
      outcomes .supervisor { faulted with monitor := { faulted.monitor with state := .running } }
          [.clearFault .supervisor 1 m, .recover .supervisor 1] = [some .ok, some .wrongState] ∧
      (after (.clearFault .supervisor 1 m) { faulted with monitor := { faulted.monitor with state := .running } }).faultLine =
        false ∧
      outcomes .supervisor { stepping .discharge .drain with faults := { supervision := false, integrity := true, power := true } }
          [.clearFault .supervisor 1 { m with supervision := false, integrity := true, power := true }] =
        [some .wrongState] := by
  decide

/-- MEDIA_ENABLE, MEDIA_DISABLE, SET_TIMING_LOCK (R169, R170). -/
theorem test_media_port :
    (after (.mediaEnable .supervisor 1) State.reset).mediaEnabled = true ∧
      resultsOf .supervisor State.reset (.mediaEnable .supervisor 1) = some (.mediaPort false) ∧
      outcomes .media State.reset [.mediaEnable .media 1, .identify .media 1, .status .media 1 0] =
        [some .portLocked, some .ok, some .ok] ∧
      outcomes .media opened [.mediaEnable .media 1, .mediaDisable .media 1, .setTimingLock .media 1 none] =
        [some .notPermitted, some .notPermitted, some .notPermitted] ∧
      outcomes .supervisor opened [.setTimingLock .supervisor 1 none, .setTimingLock .supervisor 1 (some true)] =
        [some .badParam, some .ok] := by
  decide

/-- MEDIA_DISABLE revokes silently and empties the queue (R169). -/
theorem test_mediaDisable_revokes :
    let t := after (.mediaDisable .supervisor 1) caseGrant
    t.grants.records = [] ∧ t.media.queue = [] ∧ t.mediaEnabled = false ∧ t.supervisor.queue = caseGrant.supervisor.queue := by
  decide

/-- STATUS, IDENTIFY, TOUCH_READ, PROFILE_READ: sections in and out of range (R102, R171, R178). -/
theorem test_read_checks :
    outcomes .supervisor opened
        [.status .supervisor 1 2, .status .supervisor 1 3, .profileRead .supervisor 1 3, .profileRead .supervisor 1 4,
         .touchRead .supervisor 1] =
      [some .ok, some .badParam, some .ok, some .badParam, some .ok] ∧
      resultsOf .media State.reset (.identify .media 1) = some (.identify 0x4827 0x6308 'A' .defaulted) := by
  decide

/-- PROFILE_WRITE of 12.5: BUSY while in flight, done 800,000 tu later, and ended by a PIN reset. -/
theorem test_profileWrite_case :
    let s := after (.profileWrite .supervisor 1 (some true) (some false)) opened
    let t := { s with supervisor := { s.supervisor with reply := none } }
    outcomes .supervisor t
        [.profileWrite .supervisor 2 (some true) (some false), .profileRead .supervisor 2 0,
         .profileRead .supervisor 2 4, .profileWrite .supervisor 2 none (some false)] =
      [some .busy, some .busy, some .badParam, some .badParam] ∧
      (s.profile.writing.map ProfileWriting.done = some 800000) ∧
      (after .profileWriteDone t).profile.writing.isSome = true ∧
      (after .profileWriteDone (atCount 800000 t)).profile.writing = none ∧
      (after .pinReset t).profile.writing = none := by
  decide

/-- RESET_DEVICE (R178): the reset waits for the delivery of its reply. -/
theorem test_resetDevice_waits :
    let s := after (.resetDevice .supervisor 1) opened
    s.resetLogic.requested = false ∧
      (after (.readTransaction .supervisor (0x02 :: List.replicate 9 0)) s).resetLogic.requested = true ∧
      (after (.readTransaction .supervisor (0x02 :: List.replicate 7 0)) s).resetLogic.requested = false ∧
      outcomeOf .media opened (.resetDevice .media 1) = some .notPermitted := by
  decide +kernel

/-- A PIN reset released: the BOOT of 12.5, warm, with the PIN count raised (R173, R174). -/
theorem test_pinReset_boot :
    (after .resetRelease (after .pinReset opened)).media.queue =
      [{ panel := none, frame := 0,
         body := .boot .pin false .defaulted { powerOn := 1, brownOut := 0, pin := 1, requested := 0 } false false }] := by
  decide

/-- A brown-out during a warm reset makes it cold (R172). -/
theorem test_brownOut_cold :
    (after .brownOutReset (after .pinReset opened)).resetLogic.held = some { cause := .brownOut, cold := true } ∧
      (after .pinReset (after .brownOutReset opened)).resetLogic.held = some { cause := .pin, cold := true } ∧
      (after .powerOnReset opened).resetLogic.held = some { cause := .powerOn, cold := true } ∧
      (after .requestedReset opened).resetLogic.held = none ∧
      (after .requestedReset { opened with resetLogic := { held := none, requested := true } }).resetLogic.held =
        some { cause := .requested, cold := false } := by
  decide

/-- The port sequence of 11.8, steps 2 and 4: the discard mark, and the flags discarded and waiting. -/
theorem test_port_sequence :
    let s := after (.keepalive .supervisor 8) waiting
    s.supervisor.discards = 1 ∧
      (after (.readTransaction .supervisor (0x02 :: List.replicate 5 0)) s).supervisor.shiftOut =
        [0xA1, 0x04, 0x07, 0x1B, 0x04] ∧
      (after (.readTransaction .supervisor (0x02 :: List.replicate 8 0)) s).supervisor.shiftOut.getD 5 0 = 0x03 ∧
      (after (.readTransaction .supervisor (0x02 :: List.replicate 7 0)) s).supervisor.reply.isSome = true ∧
      (after (.readTransaction .supervisor (0x02 :: List.replicate 8 0)) s).supervisor.reply = none := by
  decide +kernel

/-- A KEEPALIVE as bytes: length 2, tag, kind 0x19, and its check, high byte first (11.2). -/
def keepaliveBytes (tag : Byte) : List Byte :=
  [0x01, 0xC3, 0x02, tag, 0x19] ++ highFirst (frameCheck [0x02, tag, 0x19])

/-- WRITE_TRANSACTION (R164): framed, cut short, with a wrong check, and with another start byte. -/
theorem test_writeTransaction_judged :
    outcomes .supervisor (keeping 1600000)
        [.writeTransaction .supervisor (keepaliveBytes 5), .writeTransaction .supervisor ((keepaliveBytes 5).take 6),
         .writeTransaction .supervisor ((keepaliveBytes 5).take 5 ++ [0, 0]),
         .writeTransaction .supervisor (0x01 :: 0xC2 :: (keepaliveBytes 5).drop 2),
         .writeTransaction .supervisor [0x01, 0xC3, 251], .writeTransaction .supervisor [0x01]] =
      [some .ok, some .frameLength, some .frameCrc, none, some .frameLength, none] := by
  decide +kernel

/-! ### The plan of centre frame 3 (3.8) -/

/-- A band of the case at PP2: 200 lines, projected h 2, b = +1. -/
def caseBand (holdLimit : Nat) (dirty covered : Bool) : SnapBand :=
  { lines := 200, cls := .normal, holdLimit := holdLimit, dirty := dirty, hold := 2, balance := 1, covered := covered,
    mediaOwned := true }

/-- A touch group of the case at PP2. -/
def caseGroup (id : Nat) : SnapGroup :=
  { id := id, code := 0, interval := 1, bursts := 64, enabled := true, age := if 4 ≤ id ∧ id ≤ 7 then 2 else 1 }

/-- The touch part of the case's snapshot: duty 600 in four periods, edge guard 2,000. -/
def caseTouch : SnapTouch :=
  { state := .enabled, groups := (List.range 12).map caseGroup, active := 1, period := 125,
    listen := some { candidate := 2, period := 150 }, listenBursts := 16, tGuard := 100, edgeGuard := 2000,
    edges := (edgeList 333117 600 4).map Edge.time, predicted := [] }

/-- The snapshot at PP2. -/
def caseSnap : Snapshot :=
  { number := 3, length := 333117, timing := caseTiming, bMax := 3,
    bands :=
      [caseBand 2 false false, caseBand 4 true false, caseBand 4 true false, caseBand 4 true false,
       caseBand 4 true false, caseBand 2 false false, caseBand 4 true false, caseBand 4 true true]
    monitorFault := false, supplyHold := false, touch := some caseTouch }

/-- The eight edges of 6.6. -/
theorem test_edges_case :
    (edgeList 333117 600 4).map Edge.time = [0, 48796, 83279, 132075, 166558, 215354, 249837, 298633] ∧
      edgeList 333117 0 4 = [] ∧
      (edgeList 333117 1024 4).map Edge.rising = [true, true, true, true] := by
  decide

/-- The classes, C_base and the build time of the case. -/
theorem test_snapshot_case :
    caseSnap.bands.map caseSnap.classify =
        [.mandatory, .deferrable, .deferrable, .deferrable, .deferrable, .mandatory, .deferrable, .skip] ∧
      caseSnap.baseCost = 74360 ∧ caseSnap.buildTime = 840 ∧ caseSnap.deferredIn caseSnap.builtPlan = 4 := by
  decide +kernel

/-- The start of each slot in the table of 3.8, and the start of the TAIL. -/
theorem test_plan_case :
    caseSnap.builtPlan.slots.map Slot.start =
        [0, 36040, 44240, 80280, 116320, 124520, 160560, 196600, 204800, 213000, 249040, 285080, 293280, 300634, 308834,
          317034, 325234] ∧
      caseSnap.builtPlan.tail = 327834 ∧
      caseSnap.builtPlan.slots.map Slot.kind =
        [.refresh 0 .neg, .touch 4 0 64 1 125, .refresh 1 .neg, .refresh 2 .neg, .touch 5 0 64 1 125, .refresh 3 .neg,
          .refresh 4 .neg, .touch 6 0 64 1 125, .touch 7 0 64 1 125, .refresh 5 .neg, .refresh 6 .neg,
          .touch 0 0 64 1 125, .skip 7, .touch 1 0 64 1 125, .touch 2 0 64 1 125, .touch 3 0 64 1 125,
          .listen 2 150 16] := by
  decide +kernel

/-- The fallback plan of the case refreshes all eight bands: 8 × 36,040 + 2,160. -/
theorem test_fallback_case :
    caseSnap.fallbackCost = 290480 ∧ caseSnap.fallbackLength = 333117 ∧ caseSnap.fallbackPlan.tail = 288320 := by
  decide +kernel

/-- The classes of 2.11: a balance of +3 is DISALLOWED at POS and refreshed at NEG. -/
theorem test_classes_life :
    let b := { caseBand 4 false false with hold := 0, balance := 3 }
    { caseSnap with number := 4 }.classify b = .disallowed ∧ { caseSnap with number := 5 }.classify b = .mandatory ∧
      { caseSnap with number := 6 }.classify { b with balance := 2 } = .skip ∧
      { caseSnap with number := 10 }.classify { b with balance := 2, hold := 4 } = .mandatory ∧
      { caseSnap with monitorFault := true }.classify { b with balance := 0, cls := .guarded } = .mandatory ∧
      { caseSnap with supplyHold := true }.classify { b with balance := 0, dirty := true } = .skip := by
  decide

/-! ### Frame events -/

/-- A panel in frame 2 at its plan point, 333,333 − 8 × 600 after the frame start. -/
def planning : State := atCount 328533 (running .centre)

/-- PLAN_POINT (R8, R60, R107): T_nom for a FREE lock, a ramp step of 32 from 0, and 200 + 20 + 40 tu of build. -/
theorem test_planPoint_free :
    (after (.planPoint .centre) planning).centre.frame.next = some 333333 ∧
      (after (.planPoint .centre) planning).centre.dimmer.frameDuty = some 32 ∧
      ((after (.planPoint .centre) planning).centre.builder.build.map Build.done = some 328793) ∧
      (after (.planPoint .centre) (atCount 328532 planning)).centre.frame.next = none := by
  decide

/-- BUILD_COMPLETE makes the plan ready (R60); the touch scheduler is DISABLED, and the one band is SKIP. -/
theorem test_buildComplete_ready :
    let s := after (.planPoint .centre) planning
    let t := after (.buildComplete .centre) (atCount 328793 s)
    (t.centre.builder.ready.map ReadyPlan.length = some 333333) ∧ t.centre.builder.build = none ∧
      (after (.buildComplete .centre) (atCount 328792 s)).centre.builder.ready = none := by
  decide +kernel

/-- FRAME_END with the build still running: the frame is late (R61). -/
theorem test_frameEnd_late :
    let t := after (.frameEnd .centre) (atCount 333333 (after (.planPoint .centre) planning))
    t.centre.frame.number = 1 ∧ t.centre.builder.late = 1 ∧ t.centre.frame.length = some 333333 ∧
      t.centre.link.lastCommand = some (.frame 1 .neg 333333) ∧ t.centre.dimmer.applied = 32 ∧
      t.centre.dimmer.enable = true ∧ (t.media.queue.getLast?.map fun n => n.body.code) = some 0x85 := by
  decide +kernel

/-- FRAME_END after a PANEL_STOP leaves READY; its PANEL_STATE carries the number of the frame that ended (R6, R145). -/
theorem test_frameEnd_stops :
    let s := { after (.panelStop .supervisor 1 0) (running .cluster) with supervisor := opened.supervisor }
    let t := after (.frameEnd .cluster) (atCount 333333 s)
    t.cluster.power.state = .ready ∧ t.cluster.frame.number = 1 ∧ t.cluster.frame.start = none ∧ t.cluster.seq = none ∧
      (t.supervisor.queue.getLast?.map Notice.frame) = some 0 := by
  decide

/-- The last frame a grant may be held for. -/
def expiring : State :=
  { atCount 333333 (running .centre) with grants := { records := [{ grant1 with held := 7 }], nextId := 2 } }

/-- GRANT_EXPIRY (R135): at 8 frames held, with the band dirty and GRANT_EXPIRED to the media port. -/
theorem test_grantExpiry_ends :
    let t := after (.grantExpiry 1) expiring
    t.grants.records = [] ∧ t.centre.bands.records.map Band.dirty = [true] ∧
      t.media.queue.tail.map Notice.body = [.grantExpired 1 .granted 8 1] ∧
      (after (.grantExpiry 1) (atCount 333332 expiring)).grants.records = expiring.grants.records := by
  decide

/-! ### Slots and links -/

/-- REFRESH_SLOT_START in a POS frame (R34, R71). -/
theorem test_refreshSlotStart_record :
    let s := (running .cluster).updBands .cluster fun bs => bs.map fun b => { b with dirty := true, hold := 3 }
    let t := after (.refreshSlotStart .cluster) s
    t.cluster.bands.records.map (fun b => (b.dirty, b.hold, b.balance)) = [(false, 0, 1)] ∧
      t.cluster.link.lastCommand = some (.band 0 480 .pos false) ∧
      t.cluster.seq.map Executing.driving = some [{ band := 0, ends := 288040 }] := by
  decide

/-- REFRESH_SLOT_END (R131): the PENDING grant becomes GRANTED. -/
theorem test_refreshSlotEnd_grants :
    let s := after (.refreshSlotStart .centre) (running .centre)
    let w := { atCount 288040 s with grants := { records := [{ grant1 with state := .pending }], nextId := 2 } }
    (after (.refreshSlotEnd .centre) w).grants.records = [grant1] ∧
      (after (.refreshSlotEnd .centre) w).media.queue.tail.map Notice.body = [.grantReady 1 0 0] ∧
      resultsOf .media s (.writeOpen .media 1 1 0 0 0) = some (.writeOpen 1 .pending 8) := by
  decide

/-- A refresh under a grant tears it (R133). -/
theorem test_refreshSlotStart_tears :
    let s := { running .centre with grants := { records := [grant1], nextId := 2 } }
    (after (.refreshSlotStart .centre) s).grants.records = [{ grant1 with state := .torn }] ∧
      (after (.refreshSlotStart .centre) s).media.queue.tail.map Notice.body = [.grantTorn 1 0 .granted] := by
  decide

/-- A CHECKED band's refresh enters an expectation, and its report is compared (R71, R76, R78). -/
def checked : State :=
  (running .cluster).updBands .cluster fun bs => bs.map fun b => { b with cls := .guarded, expected := some 0x29B1 }

/-- BAND_REPORT (R76, R78, R80). -/
theorem test_bandReport_compared :
    let s := after (.refreshSlotStart .cluster) checked
    s.cluster.link.expectations = [{ frame := 0, band := 0, crc := 0x29B1 }] ∧
      (after (.bandReport .cluster 0 0 0x29B1 true) s).cluster.link.expectations = [] ∧
      (after (.bandReport .cluster 0 0 0x29B2 true) s).cluster.bands.records.map Band.mismatches = [1] ∧
      (after (.bandReport .cluster 0 0 0x29B2 true) { s with mismatchLimit := 1 }).faults.integrity = true ∧
      (after (.bandReport .cluster 0 0 0x29B2 false) s).cluster.link.expectations.length = 1 ∧
      (after (.bandReport .cluster 1 0 0x29B2 true) s).cluster.link.expectations.length = 1 ∧
      (after (.frameEnd .cluster) (atCount 333333 s)).cluster.bands.records.map Band.mismatches = [1] := by
  decide

/-- FRAME_END on the cluster: a missing report at a limit of 1, FRAME_REPORT, and the notices of a late frame, in order
(R63, R65, R79, R80). -/
theorem test_frameEnd_notices :
    let s := { after (.refreshSlotStart .cluster) checked with mismatchLimit := 1 }
    let u := after (.planPoint .cluster) (atCount 328533 s)
    let v := after (.frameEnd .cluster) (atCount 333333
      (u.updPanel .cluster fun x => { x with builder := { x.builder with subSupervisor := true } }))
    v.supervisor.queue.tail.map Notice.body =
        [.integrityFault 0 0 0x29B1 none 1, .frameReport 333333 false false 1 0 0, .planLate 220 4800 333333] ∧
      v.supervisor.queue.tail.map Notice.frame = [0, 0, 1] := by
  decide +kernel

/-- A line watch fires at the start of its band's slot (R85). -/
theorem test_lineReached :
    let s := after (.lineWatch .media 1 1 0 479 (some .oneShot)) (running .centre)
    let t := after (.refreshSlotStart .centre) s
    t.media.queue.tail.map Notice.body = [.lineReached 0 479 0 true] ∧ t.centre.mediaWatch = .empty := by
  decide

/-- The centre panel executing the plan of 3.8 in frame 3, which started at 2,999,949, with this many slots started. -/
def caseFrame3 (position : Nat) : State :=
  (scanning .centre 2999949 333117 frame0 opened).updPanel .centre fun x =>
    { x with
      timing := caseTiming
      bands := .fresh 3 (List.replicate 8 { lines := 200, cls := .normal, holdLimit := 4 })
      frame := { x.frame with number := 3 }
      seq := x.seq.map fun e => { e with plan := caseSnap.builtPlan, position := position, blankAt := 330957 } }

/-- TOUCH_SLOT_START of group 4 in 5.12: tag 40, deadline 46,240 after the frame start. -/
theorem test_touchSlotStart_case :
    let s := atCount (2999949 + 36040) (caseFrame3 1)
    let t := after .touchSlotStart { s with touch := { s.touch with nextTag := 40 } }
    t.touch.waits = [{ tag := 40, group := some 4, candidate := 1, period := 125, deadline := 2999949 + 46240 }] ∧
      t.touch.nextTag = 41 ∧ t.centre.link.lastCommand = some (.pause 8200) := by
  decide +kernel

/-- LISTEN_SLOT_START of the case moves the pointer past candidate 2 (R101). -/
theorem test_listenSlotStart_case :
    let t := after .listenSlotStart (atCount (2999949 + 325234) (caseFrame3 16))
    t.touch.listenPtr = 3 ∧ t.centre.link.lastCommand = some (.pause 2600) ∧ t.touch.waits.map Wait.group = [none] := by
  decide +kernel

/-- SKIP_SLOT_START of band 7, and BLANK_START at T − blank (R72, R74). -/
theorem test_skip_blank_case :
    (after (.skipSlotStart .centre) (atCount (2999949 + 293280) (caseFrame3 12))).centre.link.lastCommand =
        some (.idleSkip 7 20) ∧
      (after (.blankStart .centre) (atCount (2999949 + 330957) (caseFrame3 17))).centre.link.lastCommand =
        some (.idleBlank 2160) := by
  decide +kernel

/-- A SKIP of no cost that starts at the blank start time, in a frame without idle time. -/
def skipAtBlank : State :=
  (atCount 328533 (running .cluster)).updSeq .cluster fun e =>
    { e with plan := { slots := [{ start := 328533, cost := 0, kind := .skip 0 }], tail := 328533 } }

/-- The blank begins after a SKIP of no cost that starts at its instant (R70, R74). -/
theorem test_blank_waits_for_skip :
    let t := after (.skipSlotStart .cluster) skipAtBlank
    .skipSlotStart .cluster ∈ skipAtBlank.dueEvents ∧ ¬(.blankStart .cluster ∈ skipAtBlank.dueEvents) ∧
      after (.blankStart .cluster) skipAtBlank = skipAtBlank ∧ .blankStart .cluster ∈ t.dueEvents ∧
      t.cluster.link.lastCommand = some (.idleSkip 0 20) ∧
      (after (.blankStart .cluster) t).cluster.link.lastCommand = some (.idleBlank 4800) := by
  decide

/-- PWM_EDGE (R109): a rise, a fall, and a rise withheld in a dark-capped frame. -/
theorem test_pwmEdge_drives :
    let s := fun (rising dark active : Bool) => (running .centre).updDimmer .centre fun d =>
      { d with edges := [{ time := 0, rising := rising }], darkNow := dark, active := active }
    (after (.pwmEdge .centre) (s true false false)).centre.dimmer.active = true ∧
      (after (.pwmEdge .centre) (s false true true)).centre.dimmer.active = false ∧
      (after (.pwmEdge .centre) (s true true false)).centre.dimmer.active = false := by
  decide

/-- PARTNER_MARKER (R16): the marker due now leaves the list and is captured, 100 tu into the frame. -/
theorem test_partnerMarker_captured :
    let s := (atCount 100 (running .centre)).updLock .centre fun l => { l with inFlight := [100, 400000], state := .seek }
    let t := after (.partnerMarker .centre) s
    t.centre.lock.inFlight = [400000] ∧ t.centre.lock.correction = some 25 := by
  decide

/-! ### Touch results and frequency -/

/-- The touch scheduler with candidate 1 active, and a wait for it. -/
def waitingTouch (average : Nat) : State :=
  { opened with touch := { opened.touch with
      active := 1
      candidates := opened.touch.candidates.map fun c => { c with average := average }
      waits := [{ tag := 40, group := some 4, candidate := 1, period := 125, deadline := 46240 }] } }

/-- The average of candidate 1 after one result. -/
def averaged (average : Nat) (n : Noise) (saturated : Bool) : Option Nat :=
  (after (.senseResult 40 n saturated true) (waitingTouch average)).touch.candidates[1]?.map Candidate.average

/-- SENSE_RESULT: the averages of 5.9. -/
theorem test_senseResult_averages :
    averaged 4800 420 false = some 5040 ∧ averaged 5040 300 false = some 5010 ∧ averaged 5010 300 false = some 4984 ∧
      averaged 4984 0 true = some 12551 ∧ averaged 65520 310 false = some 4960 ∧ averaged 65520 0 true = some 65520 := by
  decide

/-- A result whose tag matches no wait is late, and one that fails its link check is discarded (R93). -/
theorem test_senseResult_late :
    (after (.senseResult 41 0 false true) (waitingTouch 0)).touch.lateResults = 1 ∧
      after (.senseResult 40 0 false false) (waitingTouch 0) = waitingTouch 0 := by
  decide

/-- RESULT_DEADLINE: the third consecutive one suspends (R94). -/
theorem test_resultDeadline_suspends :
    let s := fun (missing : Nat) =>
      { atCount 46240 (waitingTouch 0) with touch := { (waitingTouch 0).touch with state := .enabled, missing := missing } }
    (after (.resultDeadline 40) (s 1)).touch.state = .enabled ∧ (after (.resultDeadline 40) (s 2)).touch.state = .suspended ∧
      (after (.resultDeadline 40) (s 2)).media.queue.tail.map Notice.body = [.touchFrontendFault 40 0] ∧
      (after (.resultDeadline 40) (atCount 46239 (s 2))).touch.waits.length = 1 := by
  decide

/-- The frequency table of 5.10. -/
def hopCase : Touch :=
  { opened.touch with
    state := .enabled
    active := 1
    sinceHop := 41
    candidates :=
      [{ period := 100, permission := .allowed, average := 6100 }, { period := 125, permission := .allowed, average := 5040 },
       { period := 150, permission := .allowed, average := 3200 }, { period := 180, permission := .allowed, average := 4300 },
       { period := 220, permission := .allowed, average := 65520 }, { period := 280, permission := .banned, average := 2900 }] }

/-- The hop of 5.10, its two variants without a hop, and the listen search of 5.11. -/
theorem test_hop_case :
    hopCase.hop.map (fun x => (x.1, x.2.1)) = some (.noise, 2) ∧ { hopCase with hysteresis := 2000 }.hop = none ∧
      { hopCase with sinceHop := 20 }.hop = none ∧ { hopCase with active := 5 }.hop.map Prod.fst = some .ban ∧
      [3, 4, 5, 1, 2].map (fun k => ({ hopCase with active := 2, listenPtr := k }.listenCandidate.map ListenItem.candidate)) =
        [some 3, some 4, some 0, some 1, some 3] := by
  decide

/-- A centre plan point at which the lock enters LOCKED and the touch scheduler hops. -/
def lockingHop : State :=
  ({ planning with touch := hopCase }).updLock .centre fun l =>
    { l with
      settings := caseLock.settings
      state := .seek
      good := 2
      capture := some { time := 0, error := 0, correction := 0 } }

/-- LOCK_STATE and then TOUCH_HOP reach the media port (R8, R20, R46, R99). -/
theorem test_planPoint_lock_and_hop :
    (after (.planPoint .centre) lockingHop).media.queue.tail.map Notice.body =
      [.lockState .seek .locked 333333, .touchHop .noise 1 5040 2 3200 41] := by
  decide +kernel

/-- After a reset a BANNED active candidate is left for the quietest ALLOWED one (R104). -/
theorem test_reset_leaves_banned : ({ hopCase with active := 5 }.leaveBanned).active = 2 := by decide

/-! ### Witnesses of the statements' hypotheses -/

/-- Every port of `opened` takes a request. -/
theorem opened_takes (q : Port) : opened.takes q := by cases q <;> (unfold State.takes; decide)

/-- `running p` takes requests. -/
theorem running_takes (p : Panel) (q : Port) : (running p).takes q := by
  cases p <;> cases q <;> (unfold State.takes; decide)

/-- The commands and states of FrontCommandIsTaken. -/
theorem witness_FrontCommandIsTaken :
    { State.reset with pending := [.powerOnReset, .keepalive .supervisor 1] }.pending =
      .powerOnReset :: [.keepalive .supervisor 1] := rfl

/-- EmptyQueueRaisesEventOrTick: an empty queue with nothing due, a panel OFF or SCANNING, and with an event due. -/
theorem witness_EmptyQueueRaisesEventOrTick :
    opened.pending = [] ∧ opened.dueEvents = [] ∧ (atCount 5 (running .cluster)).dueEvents = [] ∧
      (atCount 5 (running .cluster)).pending = [] ∧ (running .cluster).cluster.power.state = .scanning ∧
      (ready .cluster opened).dueEvents = [] ∧ planning.pending = [] ∧
      .planPoint .centre ∈ planning.dueEvents ∧
      .frameEnd .centre ∈ (atCount 333333 (running .centre)).dueEvents := by
  decide

/-- RequestsMeetTheirPortFirst: a reply pending, and a DISABLED media port. -/
theorem witness_RequestsMeetTheirPortFirst :
    requestOfInstr (.keepalive .supervisor 8) = some (.supervisor, 8, .keepalive) ∧ waiting.inReset = false ∧
      (waiting.port .supervisor).reply.isSome = true ∧
      requestOfInstr (.touchRead .media 8) = some (.media, 8, .touchRead) ∧
      (State.reset.port .media).reply = none ∧ State.reset.mediaEnabled = false ∧
      Request.touchRead.code ≠ 0x20 ∧ Request.touchRead.code ≠ 0x1F := by
  decide

/-- WriteTransactionIsJudgedInOrder: a pending reply, none, and frames at the ends of each check. -/
theorem witness_WriteTransactionIsJudgedInOrder :
    waiting.inReset = false ∧ (waiting.port .supervisor).reply.isSome = true ∧ opened.inReset = false ∧
      (opened.port .supervisor).reply = none ∧ (0xC2 : Byte) ≠ 0xC3 ∧ (0xC4 : Byte) ≠ 0xC3 ∧
      ¬(2 ≤ (1 : Byte).toNat) ∧ ¬((251 : Byte).toNat ≤ 250) ∧
      (2 ≤ (2 : Byte).toNat ∧ (2 : Byte).toNat ≤ 250 ∧ (2 : Byte).toNat + 2 ≤ [5, 0x19, 0, (0 : Byte)].length) ∧
      (2 ≤ (250 : Byte).toNat ∧ (250 : Byte).toNat ≤ 250 ∧
        (250 : Byte).toNat + 2 ≤ (List.replicate 252 (0 : Byte)).length) ∧
      frameCheck [2, 5, 0x19] ≠ fromHighFirst 0 0 ∧
      frameCheck [2, 5, 0x19] =
        fromHighFirst ((highFirst (frameCheck [2, 5, 0x19])).getD 0 0) ((highFirst (frameCheck [2, 5, 0x19])).getD 1 0) := by
  decide +kernel

/-- Bytes of a kind without a list fit it exactly when their number is the kind's. -/
theorem paramsFit_fixed (kind : Byte) (n : Nat) (h : carriesList kind = false) :
    paramsFit kind n = (n == fixedBytes kind) := by simp [paramsFit, h]

/-- A list kind is spelled by any number of bytes, and no bytes carry no list whole. -/
theorem requestOf_lists_empty :
    (∃ panel bMax count list, requestOf 0x03 [] = some (.bandLayout panel bMax count list) ∧ list.whole = false) ∧
      (∃ target count list, requestOf 0x04 [] = some (.damage target count list) ∧ list.whole = false) ∧
      (∃ scan count list, requestOf 0x09 [] = some (.touchGroups scan count list) ∧ list.whole = false) ∧
      ∃ grant list, requestOf 0x13 [] = some (.writeClose grant list) ∧ list.whole = false := by
  refine ⟨⟨_, _, _, _, rfl, rfl⟩, ⟨_, _, _, rfl, rfl⟩, ⟨_, _, _, rfl, rfl⟩, _, _, rfl, rfl⟩

/-- DispatchInOrder: kinds at the ends of the table, a locked port, parameters that fit and that do not, of a kind without
parameters, of one with a fixed length, and of one with a list, empty and of one entry. -/
theorem witness_DispatchInOrder :
    opened.inReset = false ∧ (opened.port .supervisor).reply = none ∧ ¬(1 ≤ (0 : Byte).toNat) ∧
      ¬((0x24 : Byte).toNat ≤ 0x23) ∧ (1 ≤ (0x19 : Byte).toNat ∧ (0x19 : Byte).toNat ≤ 0x23) ∧
      (State.reset.port .media).reply = none ∧ State.reset.mediaEnabled = false ∧ (0x19 : Byte) ≠ 0x20 ∧
      requestOf 0x19 [0] = none ∧ requestOf 0x19 [] = some .keepalive ∧
      requestOfInstr (.keepalive .supervisor 8) = some (.supervisor, 8, .keepalive) ∧
      requestOf 0x1F [] = none ∧ (requestOf 0x1F (List.replicate (fixedBytes 0x1F) 0)).isSome = true ∧
      (requestOf 0x04 (List.replicate (fixedBytes 0x04) 0)).isSome = true ∧
      (requestOf 0x04 (List.replicate (fixedBytes 0x04 + listEntryBytes 0x04) 0)).isSome = true := by
  refine ⟨rfl, rfl, by decide, by decide, by decide, rfl, rfl, by decide, by decide, by decide, rfl, ?_, ?_, ?_, ?_⟩
  · have : paramsFit 0x1F 0 = false := by
      rw [paramsFit_fixed _ _ (by decide), fixedBytes, show plainRequest 0x1F = none by decide]
      rfl
    simp only [requestOf, List.length_nil, this]
    rfl
  · have : paramsFit 0x1F (fixedBytes 0x1F) = true := by rw [paramsFit_fixed _ _ (by decide)]; simp
    simp only [requestOf, List.length_replicate, this, if_true, show plainRequest 0x1F = none by decide]
    rfl
  · have : paramsFit 0x04 (fixedBytes 0x04) = true := by simp [paramsFit, carriesList]
    simp only [requestOf, List.length_replicate, this, if_true, show plainRequest 0x04 = none by decide]
    rfl
  · have : paramsFit 0x04 (fixedBytes 0x04 + listEntryBytes 0x04) = true := by simp [paramsFit, carriesList]
    simp only [requestOf, List.length_replicate, this, if_true, show plainRequest 0x04 = none by decide]
    rfl

/-- DispatchInOrder: a WRITE_CLOSE cut short that names an open grant of its port, and one that names none. -/
theorem witness_DispatchInOrder_close :
    ∃ (grant : Nat) (list : Carried Crc) (s : State), requestOf 0x13 [] = some (.writeClose grant list) ∧
      list.whole = false ∧ s.inReset = false ∧ (s.port .media).reply = none ∧ s.mediaEnabled = true ∧
      (∃ g ∈ s.grants.records, g.id = grant ∧ g.port = .media) ∧ opened.grants.records = [] :=
  ⟨_, _, { opened with grants := { records := [{ grant1 with id := Config.paramField 0x13 0 [] }], nextId := 1 } },
    rfl, rfl, rfl, rfl, rfl, ⟨_, List.mem_singleton_self _, rfl, rfl⟩, rfl⟩

/-- The length of a notice frame is at most 255 bytes. -/
theorem noticeFrame_length_le (n : Notice) : (noticeFrame n).length ≤ 255 := by
  simp only [noticeFrame, frameOf, highFirst, List.length_append, List.length_cons, List.length_nil, List.length_take]
  omega

/-- ReadTransactionDelivers: a reply read whole and one byte short, a notice read whole and cut short, an idle port, and
first bytes beside the two that are judged. -/
theorem witness_ReadTransactionDelivers :
    waiting.inReset = false ∧ (waiting.port .supervisor).reply =
        some { tag := 7, kind := 0x1B, outcome := .badParam, results := .none, discardMark := false } ∧
      (replyFrame (waiting.port .supervisor)
        { tag := 7, kind := 0x1B, outcome := .badParam, results := .none, discardMark := false }).length = 8 ∧
      (opened.port .supervisor).reply = none ∧
      (∃ n, (opened.port .supervisor).queue = [n] ∧ 0 < (noticeFrame n).length ∧ (noticeFrame n).length ≤ 255) ∧
      ({ opened with supervisor := { opened.supervisor with queue := [] } }.port .supervisor).queue = [] ∧
      (0x00 : Byte) ≠ 0x01 ∧ (0x00 : Byte) ≠ 0x02 ∧ (0x03 : Byte) ≠ 0x01 ∧ (0x03 : Byte) ≠ 0x02 := by
  refine ⟨rfl, rfl, rfl, rfl, ⟨_, rfl, ?_, noticeFrame_length_le _⟩, rfl, ?_⟩
  · simp [noticeFrame, frameOf]
  · decide

/-- PlainSettingsAreReplaced: both ports take requests, and a DISABLED media port. -/
theorem witness_PlainSettingsAreReplaced :
    opened.takes .supervisor ∧ opened.takes .media ∧ State.reset.takes .supervisor ∧ State.reset.mediaEnabled = false := by
  refine ⟨opened_takes _, opened_takes _, ?_, rfl⟩
  unfold State.takes
  decide

/-- MediaDisableRevokesEverything: media grants are open. -/
theorem witness_MediaDisableRevokesEverything :
    caseGrant.takes .supervisor ∧ caseGrant.mediaEnabled = true ∧ caseGrant.grants.records.Pairwise idsApart ∧
      grant5 ∈ caseGrant.grants.records := by
  refine ⟨by unfold State.takes; decide, rfl, by simp [caseGrant], by simp [caseGrant]⟩

/-- ReadsChangeNothing: a DISABLED media port, sections at the ends of their ranges, a record never written, one that
passes its check, and a write in flight; a window that lends bands and one that lends none is `test_windowRead_empty`. -/
theorem witness_ReadsChangeNothing :
    State.reset.inReset = false ∧ (State.reset.port .media).reply = none ∧ State.reset.mediaEnabled = false ∧
      opened.takes .media ∧ opened.profile.writing = none ∧ opened.profile.stored = none ∧ 2 < 3 ∧ 3 < 4 ∧
      (after (.profileWrite .supervisor 1 (some true) (some false)) opened).takes .media ∧
      (after (.profileWrite .supervisor 1 (some true) (some false)) opened).profile.writing ≠ none ∧
      (∃ s : State, s.takes .media ∧ s.profile.writing = none ∧ ∃ r, s.profile.stored = some r ∧
        r.check = Config.profileCheck r.items) := by
  refine ⟨rfl, rfl, rfl, opened_takes _, rfl, rfl, by omega, by omega, by unfold State.takes; decide, by decide, ?_⟩
  refine ⟨{ opened with profile := { opened.profile with
    stored := some { items := Config.factoryProfile, check := Config.profileCheck Config.factoryProfile } } }, ?_, rfl, _, rfl, rfl⟩
  exact opened_takes .media

/-- PanelConfigByTable: taken for either panel; each check fails first at some operands in `test_panelConfig_checks` and
`test_panelConfig_state`. -/
theorem witness_PanelConfigByTable : opened.takes .supervisor ∧ opened.takes .media := ⟨opened_takes _, opened_takes _⟩

/-- LockModeByTable: a lock in LOCKED whose source changes. -/
theorem witness_LockModeByTable :
    let s := (running .centre).updLock .centre fun l =>
      { l with settings := { l.settings with source := .partner }, state := .locked }
    s.takes .media ∧ MarkerSource.external ≠ (s.panel .centre).lock.settings.source ∧
      (s.panel .centre).lock.state = .locked := by
  refine ⟨running_takes .centre .media, by decide, by decide⟩

/-- UnnamedOperandsAreBadParam: panel 2, and a step time of 256 for a panel the port may name. -/
theorem witness_UnnamedOperandsAreBadParam :
    opened.takes .media ∧ 1 < 2 ∧ 255 < 256 ∧ ¬(Port.media = .media ∧ Panel.centre = .cluster) :=
  ⟨opened_takes _, by omega, by omega, by decide⟩

/-- MarkersAreCaptured: a panel that listens, with an edge accepted at floor(T_min / 2) and one tu before it, a capture
present and absent, and a partner marker due. -/
theorem witness_MarkersAreCaptured :
    let s := atCount 2666333 caseFrame1
    let l := (s.panel .centre).lock
    opened.inReset = false ∧ (opened.panel .centre).power.state ≠ .scanning ∧ s.inReset = false ∧
      (s.panel .centre).power.state = .scanning ∧ l.settings.source = .external ∧
      caseTiming.tMin / 2 ≤ (2333133 + 150000 : Tick).since 2333133 ∧
      ¬(caseTiming.tMin / 2 ≤ (2333133 + 149999 : Tick).since 2333133) ∧ l.capture = none ∧
      (s.panel .centre).frame.start = some 2333333 ∧ (s.panel .centre).frame.length = some 333333 ∧
      (after (.markerEdge .centre) s).centre.lock.capture ≠ none ∧
      (s.updLock .centre fun l => { l with inFlight := [2666333] }).centre.lock.inFlight = s.count :: [] := by
  decide

/-- PlanPointTakesLockDecision: its hypotheses hold whatever the lock holds. -/
theorem witness_PlanPointTakesLockDecision (l : FrameLock) :
    let s := planning.updLock .centre fun _ => l
    s.inReset = false ∧ (s.panel .centre).power.state = .scanning ∧ (s.panel .centre).power.stopPending = false ∧
      (s.panel .centre).frame.next = none ∧ (s.panel .centre).frame.start = some 0 ∧
      (s.panel .centre).frame.length = some 333333 ∧ s.count = (0 : Tick).after (333333 - 8 * 600) ∧
      (s.panel .centre).lock = l :=
  ⟨rfl, rfl, rfl, rfl, rfl, rfl, rfl, rfl⟩

/-- The lock's decision at the ends of the lock window, of the good count and of the miss limit (R18). -/
theorem test_planPoint_decisions :
    let l := fun (st : LockState) (e : Option Int) (good miss limit : Nat) =>
      let x : FrameLock :=
        { caseLock with
          settings := { caseLock.settings with missLimit := limit }
          state := st
          capture := e.map fun e => { time := 0, error := e, correction := 0 }
          good := good
          miss := miss }
      (x.decision.state, x.decision.good, x.decision.miss)
    [l .seek (some 1000) 1 0 4, l .seek (some 1000) 2 0 4, l .seek (some (-1001)) 2 0 4, l .seek none 2 0 4,
     l .locked (some (-1000)) 0 0 4, l .locked (some 1001) 0 0 4, l .locked none 0 0 2, l .locked none 0 0 1,
     l .hold (some 0) 0 3 4, l .hold (some 1001) 0 3 4, l .hold none 0 2 4, l .hold none 0 3 4, l .free none 0 0 1] =
      [(.seek, 2, 0), (.locked, 0, 0), (.seek, 0, 0), (.seek, 0, 0), (.locked, 0, 0), (.seek, 0, 0), (.hold, 0, 1),
       (.seek, 0, 0), (.locked, 0, 0), (.seek, 0, 0), (.hold, 0, 3), (.seek, 0, 0), (.free, 0, 0)] := by
  decide

/-- PlansAreBuiltFromSnapshots: a plan point due, a build that completes now, and a snapshot with touch ENABLED and due groups
that the plan defers. -/
theorem witness_PlansAreBuiltFromSnapshots :
    planning.inReset = false ∧ planning.planPointDue .centre = true ∧
      (atCount 328533 (running .cluster)).planPointDue .cluster = true ∧
      (∃ b, (after (.planPoint .centre) planning).centre.builder.build = some b ∧ b.frameLate = false ∧ b.done = 328793) ∧
      caseSnap.touch = some caseTouch ∧ caseTouch.state = .enabled := by
  refine ⟨rfl, by decide, by decide, ⟨_, rfl, rfl, by decide⟩, rfl, rfl⟩

/-- The plan point of `planning` with the cluster panel scanning since 1,000 and cross-coupling ON. -/
def coupledPlanning : State :=
  let s := scanning .cluster 1000 333333 frame0 planning
  { s with touch := { s.touch with scan := { s.touch.scan with crossCoupling := true } } }

/-- The cluster's frame that starts 1,000 tu into the centre's next frame is predicted there (R57). -/
theorem test_planPoint_predictions :
    ((after (.planPoint .centre) coupledPlanning).centre.builder.build.bind fun b =>
      b.snapshot.touch.map SnapTouch.predicted) = some [1000] := by
  decide +kernel

/-- PlansAreBuiltFromSnapshots: cross-coupling ON with the cluster SCANNING, and OFF. -/
theorem witness_PlansAreBuiltFromSnapshots_coupled :
    coupledPlanning.inReset = false ∧ coupledPlanning.planPointDue .centre = true ∧
      coupledPlanning.touch.scan.crossCoupling = true ∧ coupledPlanning.cluster.power.state = .scanning ∧
      coupledPlanning.cluster.frame.start = some 1000 ∧ coupledPlanning.cluster.frame.length = some 333333 ∧
      coupledPlanning.centre.frame.start = some 0 ∧ coupledPlanning.centre.frame.length = some 333333 ∧
      planning.touch.scan.crossCoupling = false := by
  decide

/-- The configuration of the state after reset is one that the requests take. -/
theorem factory_legal : Config.factoryProfile.legal := by
  simp [Profile.legal, GeneralProfile.legal, PanelProfile.legal, TouchProfile.legal, Config.factoryProfile,
    Config.factoryGeneral, Config.factoryPanel, Config.factoryTouch, Config.factoryTiming, Config.factoryLock,
    Config.factoryBand, Config.factoryDimmer, Config.factoryTimes, Config.factoryGroup, Config.factoryScan,
    Config.factoryFreqs, timingInRange, inRange, leadTime, fullRefreshCost, refreshCost, blankTime]

/-- Nothing stored and nothing in flight: a legal configuration is one whose live items are legal. -/
theorem configLegal_of_live (s : State) (h : (s.liveProfile false false).legal) (hs : s.profile.stored = none)
    (hw : s.profile.writing = none) : s.configLegal :=
  ⟨h, fun r hr => by simp [hs] at hr, fun w hr => by simp [hw] at hr⟩

/-- `opened` has the factory configuration. -/
theorem opened_configLegal : opened.configLegal := configLegal_of_live _ factory_legal rfl rfl

/-- PanelDamageMarksBandsHit: a legal configuration, one range at the last line, and one beyond it. -/
theorem witness_PanelDamageMarksBandsHit :
    opened.takes .media ∧ opened.configLegal ∧ outcomes .media opened
        [.damage .media 1 (some .centre) 1 [{ first := 479, last := 479 }],
         .damage .media 1 (some .centre) 1 [{ first := 480, last := 480 }]] = [some .ok, some .ok] :=
  ⟨opened_takes _, opened_configLegal, by decide⟩

/-- CanvasDamageGoesThroughWindows: an OPEN window lends the one band, and canvas lines at its ends reach it or miss. -/
theorem witness_CanvasDamageGoesThroughWindows :
    lent.takes .media ∧ lent.configLegal ∧
      [999, 1000, 1479, 1480, 4095, 4096].map (fun v => resultsOf .media lent
          (.damage .media 1 (some .canvas) 1 [{ first := v, last := v }])) =
        [some (.canvasDamage 0 0 1), some (.canvasDamage 1 0 0), some (.canvasDamage 1 0 0),
         some (.canvasDamage 0 0 1), some (.canvasDamage 0 0 1), some (.canvasDamage 0 1 0)] :=
  ⟨opened_takes .media, configLegal_of_live _ factory_legal rfl rfl, by decide⟩

/-- BandLayoutByTable; each check fails first at some operands in `test_bandLayout_checks`. -/
theorem witness_BandLayoutByTable : caseCentre.takes .media := by unfold State.takes; decide

/-- FullRefreshAndSubscribe: both ports take requests, and panel 2. -/
theorem witness_FullRefreshAndSubscribe : opened.takes .supervisor ∧ opened.takes .media ∧ 1 < 2 :=
  ⟨opened_takes _, opened_takes _, by omega⟩

/-- ClassesKeepBalanceLimit: bands of each class, at and past the balance limit. -/
theorem witness_ClassesKeepBalanceLimit :
    (caseSnap.builtPlan.slots.any fun x => x.kind == .refresh 0 .neg) = true ∧
      (caseSnap.fallbackPlan.slots.any fun x => x.kind == .refresh 7 .neg) = true ∧
      caseSnap.bands[1]? = some (caseBand 4 true false) ∧ (3 : Int) < |(3 : Int) + 1| ∧
      ¬((3 : Int) < |(2 : Int) + 1|) ∧ |(3 : Int) + -1| < |(3 : Int)| := by
  decide +kernel

/-- PlansFitTheirFrame: the built and the fallback plan of the case. -/
theorem witness_PlansFitTheirFrame :
    caseSnap.builtPlan = caseSnap.builtPlan ∧ 333117 = caseSnap.builtLength ∧ 333117 = caseSnap.fallbackLength := by
  decide +kernel

/-- TouchSlotsAvoidQuietIntervals: the case's plan senses eight groups and listens once, clear of eight edges. -/
theorem witness_TouchSlotsAvoidQuietIntervals :
    caseSnap.touch = some caseTouch ∧ caseTouch.edges.length = 8 ∧
      (caseSnap.builtPlan.slots.any fun x => x.kind == .touch 4 0 64 1 125) = true ∧
      (caseSnap.builtPlan.slots.any fun x => x.kind == .listen 2 150 16) = true := by
  decide +kernel

/-- BudgetIsFirstFit: a frame that is filled, one that is stretched, and groups in order of id. -/
theorem witness_BudgetIsFirstFit :
    caseSnap.stretches = false ∧ caseSnap.items = [] ++ .touch (caseGroup 4) :: caseSnap.items.tail ∧
      { caseSnap with length := 74360 }.stretches = false ∧ { caseSnap with length := 74359 }.stretches = true ∧
      caseTouch.groups.Pairwise (fun x y => x.id < y.id) := by
  decide +kernel

/-- BudgetIsFirstFit, the placement of one slot: a boundary that is clear, a later one that is the first clear, and a tail
in which the first clear time is 31. -/
theorem witness_BudgetIsFirstFit_placement :
    let st : Placing := { placed := [], before := 0, lastEnd := 0, boundary := 0 }
    let times := [0, 10, 20]
    let meets := fun (q : Quiet) (start : Nat) => q.lo < (start : Int) + 5 ∧ (start : Int) ≤ q.hi
    times.length = 2 + 1 ∧ st.boundary ≤ 2 ∧ (0 + 1) * times.getD 2 0 / (1 + 1) = times.getD 1 0 ∧
      ¬meets { lo := 0, hi := 5 } 10 ∧
      (meets { lo := 8, hi := 12 } 10 ∧ ¬meets { lo := 8, hi := 12 } 20) ∧
      (meets { lo := 0, hi := 30 } 10 ∧ meets { lo := 0, hi := 30 } 20 ∧ ¬meets { lo := 0, hi := 30 } 31 ∧
        ∀ z, 20 ≤ z → z < 31 → meets { lo := 0, hi := 30 } z) := by
  refine ⟨rfl, by decide, rfl, by decide, by decide, by decide, by decide, by decide, fun z h1 h2 => ⟨?_, ?_⟩⟩ <;>
    dsimp only <;> omega

/-- The end of a frame whose build still runs. -/
def endingLate : State := atCount 333333 (after (.planPoint .centre) planning)

/-- The end of a frame whose plan is ready. -/
def endingReady : State := atCount 333333 (after (.buildComplete .centre) (atCount 328793 (after (.planPoint .centre) planning)))

/-- FrameEndStartsNextFrame: a ready plan, and a build in progress. -/
theorem witness_FrameEndStartsNextFrame :
    endingReady.inReset = false ∧ (endingReady.panel .centre).power.state = .scanning ∧
      (endingReady.panel .centre).power.stopPending = false ∧ (endingReady.panel .centre).frame.start = some 0 ∧
      (endingReady.panel .centre).frame.length = some 333333 ∧ endingReady.count = (0 : Tick).after 333333 ∧
      (endingReady.panel .centre).builder.ready.isSome = true ∧ endingLate.inReset = false ∧
      (endingLate.panel .centre).power.state = .scanning ∧ (endingLate.panel .centre).power.stopPending = false ∧
      (endingLate.panel .centre).frame.start = some 0 ∧ (endingLate.panel .centre).frame.length = some 333333 ∧
      endingLate.count = (0 : Tick).after 333333 ∧ (endingLate.panel .centre).builder.ready = none ∧
      (endingLate.panel .centre).builder.build.isSome = true := by
  decide +kernel

/-- A list of one grant is legal when the grant's own fields are. -/
theorem one_grantsLegal (s : State) (g : Grant) (n : Nat) (h : s.grants = { records := [g], nextId := n })
    (hg : 1 ≤ g.id ∧ g.id ≤ 255 ∧ g.first ≤ g.last ∧ g.held < g.lifetime ∧ g.lifetime ≤ 63) (hn : 1 ≤ n ∧ n ≤ 255)
    (hne : g.id ≠ n) : s.grantsLegal := by
  simp only [State.grantsLegal, State.grantsOf, h, Config.grantLimit, Config.grantPortLimit, List.length_singleton,
    List.pairwise_singleton, List.mem_singleton, forall_eq]
  refine ⟨by omega, fun q => ?_, trivial, trivial, hg, hn.1, hn.2, hne⟩
  exact (List.length_filter_le _ _).trans (by simp)

/-- The grant list of `expiring` is legal: one grant, at its last frame. -/
theorem expiring_grantsLegal : expiring.grantsLegal := one_grantsLegal _ _ _ rfl (by decide) (by decide) (by decide)

/-- FrameEndWorkOfEveryBlock: a scanning panel at its frame end, with a grant at its last frame; an expectation left on the
cluster, whose missing report reaches a limit of 1; a plan ready and a build in progress; and a stop pending without and
with off pending. -/
theorem witness_FrameEndWorkOfEveryBlock :
    expiring.inReset = false ∧ expiring.grantsLegal ∧ expiring.expectationsApart ∧
      (expiring.panel .centre).power.state = .scanning ∧
      (expiring.panel .centre).frame.start = some 0 ∧ (expiring.panel .centre).frame.length = some 333333 ∧
      (expiring.panel .centre).seq.isSome = true ∧ expiring.count = (0 : Tick).after 333333 ∧
      (let s := atCount 333333 (after (.refreshSlotStart .cluster) checked)
       (s.panel .cluster).power.state = .scanning ∧ s.cluster.link.expectations.length = 1 ∧ s.expectationsApart ∧
         (s.panel .cluster).frame.start = some 0 ∧ s.count = (0 : Tick).after 333333 ∧
         State.missesToLimit { s with mismatchLimit := 1 } { frame := 0, band := 0, crc := 0x29B1 } ∧
         ¬s.missesToLimit { frame := 0, band := 0, crc := 0x29B1 }) ∧
      endingReady.centre.power.stopPending = false ∧ endingReady.centre.builder.ready.isSome = true ∧
      endingLate.centre.builder.ready = none ∧ endingLate.centre.builder.build.isSome = true ∧
      (let u := atCount 333333 (after (.panelOff .supervisor 1 1) (running .centre))
       u.centre.power.stopPending = true ∧ u.centre.power.offPending = true ∧ u.centre.seq.isSome = true) := by
  refine ⟨rfl, expiring_grantsLegal, by unfold State.expectationsApart; decide, rfl, rfl, rfl, rfl, rfl, ?_,
    by decide +kernel, by decide +kernel, by decide +kernel, by decide +kernel, by decide⟩
  refine ⟨rfl, rfl, by unfold State.expectationsApart; decide, rfl, rfl, ⟨_, rfl, by decide⟩, ?_⟩
  rintro ⟨b, hb, h⟩
  obtain rfl := Option.some.inj hb
  revert h
  decide

/-- FrameEndAfterStopEndsScan: a stop pending, without and with off pending. -/
theorem witness_FrameEndAfterStopEndsScan :
    let s := atCount 333333 (after (.panelStop .supervisor 1 0) (running .cluster))
    let u := atCount 333333 (after (.panelOff .supervisor 1 0) (running .cluster))
    s.inReset = false ∧ (s.panel .cluster).power.state = .scanning ∧ (s.panel .cluster).power.stopPending = true ∧
      (s.panel .cluster).frame.start = some 0 ∧ (s.panel .cluster).frame.length = some 333333 ∧
      s.count = (0 : Tick).after 333333 ∧ (s.panel .cluster).power.offPending = false ∧ u.inReset = false ∧
      (u.panel .cluster).power.stopPending = true ∧ (u.panel .cluster).power.offPending = true := by
  decide

/-- FrameEndAfterStopEndsScan, its notices: a legal grant list and an executing plan. -/
theorem witness_FrameEndAfterStopEndsScan_told :
    let s := { expiring.updPower .centre fun w => { w with stopPending := true } with pending := [] }
    s.centre.seq.isSome = true ∧ s.grantsLegal ∧ s.expectationsApart ∧ s.centre.power.stopPending = true := by
  refine ⟨rfl, expiring_grantsLegal, by unfold State.expectationsApart; decide, rfl⟩

/-- LineWatchByTable; each check fails first at some operands in `test_lineWatch_checks`. -/
theorem witness_LineWatchByTable : caseWindows.takes .media := by unfold State.takes; decide

/-- CrcSetByTable; each check fails first at some operands in `test_crcSet_checks`. -/
theorem witness_CrcSetByTable : caseCluster.takes .supervisor := by unfold State.takes; decide

/-- RefreshSlotsAct: a REFRESH slot due under a grant, and a REFRESH slot that ends under a PENDING grant. -/
theorem witness_RefreshSlotsAct :
    let s := { running .centre with grants := { records := [grant1], nextId := 2 } }
    let u := { atCount 288040 (after (.refreshSlotStart .centre) (running .centre)) with
      grants := { records := [{ grant1 with state := .pending }], nextId := 2 } }
    s.inReset = false ∧ s.grantsLegal ∧ (∃ e, (s.panel .centre).seq = some e ∧
        e.plan.slots[e.position]? = some { start := 0, cost := 288040, kind := .refresh 0 .pos }) ∧
      (s.panel .centre).frame.start = some 0 ∧ s.count = (0 : Tick).after 0 ∧
      (s.panel .centre).bands.records[0]?.isSome = true ∧ u.inReset = false ∧ u.grantsLegal ∧
      (∃ e, (u.panel .centre).seq = some e ∧ e.driving = { band := 0, ends := 288040 } :: []) ∧ u.count = 288040 := by
  refine ⟨rfl, ?_, ⟨_, rfl, rfl⟩, rfl, rfl, rfl, rfl, ?_, ⟨_, rfl, by decide⟩, rfl⟩ <;>
    exact one_grantsLegal _ _ _ rfl (by decide) (by decide) (by decide)

/-- OtherSlotStartsAct: SKIP, TOUCH and LISTEN slots of the case due, the blank after the last slot, and a slot still due at
the blank's instant. -/
theorem witness_OtherSlotStartsAct :
    let start : Tick := 2999949
    let due := fun (k : Nat) (at_ : Nat) (kind : SlotKind) =>
      (atCount (start.after at_) (caseFrame3 k)).slotDue .centre |>.any fun x => x.kind == kind
    (caseFrame3 0).inReset = false ∧ (caseFrame3 0).centre.frame.start = some start ∧
      due 12 293280 (.skip 7) = true ∧ due 1 36040 (.touch 4 0 64 1 125) = true ∧
      due 16 325234 (.listen 2 150 16) = true ∧
      (atCount (start.after 330957) (caseFrame3 17)).blankDue .centre = true ∧
      (caseSnap.builtPlan.slots[17]?).isNone = true ∧ skipAtBlank.inReset = false ∧
      (skipAtBlank.slotDue .cluster).isSome = true ∧ skipAtBlank.cluster.frame.start = some 0 := by
  decide +kernel

/-- BandReportsAreCompared: an entry that matches, with the count below the limit, at it, and INTEGRITY set and clear. -/
theorem witness_BandReportsAreCompared :
    let s := after (.refreshSlotStart .cluster) checked
    s.inReset = false ∧ (s.cluster.link.expectations.map Expectation.band).Nodup ∧
      { frame := 0, band := 0, crc := 0x29B1 } ∈ s.cluster.link.expectations ∧
      (∃ b, s.cluster.bands.records[0]? = some b ∧ b.mismatches + 1 < s.mismatchLimit ∧
        1 ≤ b.mismatches + 1) ∧ s.faults.integrity = false := by
  refine ⟨rfl, by decide, by decide, ⟨_, rfl, by decide, by decide⟩, rfl⟩

/-- TouchGroupsByTable; each check fails first at some operands in `test_touchGroups_checks`. -/
theorem witness_TouchGroupsByTable : opened.takes .media := opened_takes _

/-- FreqTableByTable: six candidates and five. -/
theorem witness_FreqTableByTable :
    opened.takes .media ∧ freqs.length = 6 ∧ opened.touch.candidates.length = 6 ∧ freqs.tail.length ≠ 6 :=
  ⟨opened_takes _, rfl, rfl, by decide⟩

/-- ResultsAndDeadlines: a wait that matches and is due, no other before it, and a count that suspends and one that does
not. -/
theorem witness_ResultsAndDeadlines :
    let s := atCount 46240 (waitingTouch 4800)
    s.inReset = false ∧
      s.touch.waits = [] ++ { tag := 40, group := some 4, candidate := 1, period := 125, deadline := 46240 } :: [] ∧
      (46240 : Tick) = s.count ∧ (∀ w ∈ s.touch.waits, w.tag ≠ 41) ∧ s.touch.missing + 1 < 3 ∧
      3 ≤ { s.touch with missing := 2 }.missing + 1 := by
  decide

/-- FrequencyDecision: a centre plan point with the touch state of 5.10, the lock FREE and about to lock: a rival past the
hysteresis, and one at it. -/
theorem witness_FrequencyDecision :
    let s := { planning with touch := hopCase }
    s.inReset = false ∧ s.planPointDue .centre = true ∧ (∃ a, s.touch.candidates[s.touch.active]? = some a ∧ a.average = 5040) ∧
      s.centre.lock.state = .free ∧ lockingHop.inReset = false ∧ lockingHop.planPointDue .centre = true ∧
      lockingHop.touch = hopCase ∧ lockingHop.centre.lock.state = .seek ∧ s.touch.quietest (fun _ => True) 2 { period := 150, permission := .allowed, average := 3200 } ∧
      3200 + hopCase.hysteresis < 5040 ∧ ¬(3200 + 1840 < 5040) ∧ hopCase.hopHold ≤ hopCase.sinceHop := by
  refine ⟨rfl, by decide, ⟨_, rfl, rfl⟩, rfl, rfl, by decide, rfl, rfl, ⟨⟨rfl, rfl⟩, trivial, ?_⟩, by decide, by decide,
    by decide⟩
  intro j d hd _
  obtain ⟨hj, ha⟩ := hd
  match j with
  | 0 | 1 | 3 | 4 | 5 => revert ha; obtain rfl := Option.some.inj hj; decide
  | 2 => obtain rfl := Option.some.inj hj; exact .inr ⟨rfl, le_refl _⟩
  | k + 6 => simp [hopCase] at hj

/-- BacklightByTable; each check fails first at some operands in `test_backlight_checks`. -/
theorem witness_BacklightByTable : (running .centre).takes .media ∧ 1 < 2 := ⟨running_takes _ _, by omega⟩

/-- EdgesAreFormedAndDriven: the ends of the duty range, and an edge due. -/
theorem witness_EdgesAreFormedAndDriven :
    let s := (running .centre).updDimmer .centre fun d => { d with edges := [{ time := 0, rising := true }] }
    100000 ≤ 333117 ∧ 1 ≤ 4 ∧ 4 ≤ 16 ∧ 1 < 1024 ∧ 1024 ≤ 1024 ∧ s.inReset = false ∧
      (s.panel .centre).frame.start = some 0 ∧ (s.panel .centre).dimmer.edges = { time := 0, rising := true } :: [] ∧
      s.count = (0 : Tick).after 0 := by
  decide

/-- WindowOpenByTable; each check fails first at some operands in `test_windowOpen_checks` and `test_windowOpen_case`. -/
theorem witness_WindowOpenByTable : caseWindows.takes .supervisor := by unfold State.takes; decide

/-- The grant list of `caseGrant` is legal. -/
theorem caseGrant_grantsLegal : caseGrant.grantsLegal := one_grantsLegal _ _ _ rfl (by decide) (by decide) (by decide)

/-- WindowCloseByTable: an OPEN window with a media grant on a band it lends. -/
theorem witness_WindowCloseByTable : caseGrant.takes .supervisor ∧ caseGrant.grantsLegal :=
  ⟨by unfold State.takes; decide, caseGrant_grantsLegal⟩

/-- WriteOpenByTable; each check fails first at some operands in `test_writeOpen_checks` and `test_writeOpen_full`. -/
theorem witness_WriteOpenByTable : caseGrant.takes .supervisor ∧ caseGrant.takes .media ∧ caseGrant.grantsLegal ∧ 1 < 2 :=
  ⟨by unfold State.takes; decide, by unfold State.takes; decide, caseGrant_grantsLegal, by omega⟩

/-- WriteCloseByTable; its checks fail at operands of `test_writeClose_crcs`. -/
theorem witness_WriteCloseByTable : caseGrant.takes .media ∧ caseGrant.grantsLegal ∧ grant5 ∈ caseGrant.grants.records :=
  ⟨by unfold State.takes; decide, caseGrant_grantsLegal, by decide⟩

/-- GrantExpiryEndsGrant: a grant at its last frame, at its panel's frame end. -/
theorem witness_GrantExpiryEndsGrant :
    expiring.inReset = false ∧ expiring.grantsLegal ∧ { grant1 with held := 7 } ∈ expiring.grants.records ∧ 8 ≤ 7 + 1 ∧
      (expiring.panel .centre).power.state = .scanning ∧ (expiring.panel .centre).frame.start = some 0 ∧
      (expiring.panel .centre).frame.length = some 333333 ∧ expiring.count = (0 : Tick).after 333333 :=
  ⟨rfl, expiring_grantsLegal, by decide, by omega, rfl, rfl, rfl, rfl⟩

/-- PanelOnStopOffByTable: panels OFF, READY and SCANNING, and a legal grant list. -/
theorem witness_PanelOnStopOffByTable :
    opened.takes .media ∧ (running .cluster).takes .supervisor ∧ caseGrant.takes .supervisor ∧ caseGrant.grantsLegal ∧
      (opened.panel .centre).power.state = .off ∧ (caseGrant.panel .cluster).power.state = .ready ∧
      ((running .cluster).panel .cluster).power.state = .scanning ∧ 255 ≤ 255 ∧ 1 < 2 :=
  ⟨opened_takes _, running_takes _ _, by unfold State.takes; decide, caseGrant_grantsLegal, rfl, rfl, rfl, by omega, by omega⟩

/-- PanelStartByTable: a panel READY with the backlight off. -/
theorem witness_PanelStartByTable : caseCentre.takes .media ∧ caseCentre.scanLegal ∧ (caseCentre.panel .centre).power.state = .ready := by
  refine ⟨by unfold State.takes; decide, fun p => ?_, rfl⟩
  cases p <;> exact ⟨fun h => (by cases h), fun _ => (by decide), fun _ => (by unfold Dimmer.dark; decide)⟩

/-- PowerStepsExpire: each step at its deadline, with the autostart mark clear and set. -/
theorem witness_PowerStepsExpire :
    (stepping .settle .ramp).scanLegal ∧ (stepping .settle .ramp).cluster.power.state = .ramp ∧
    ((stepping .settle .ramp).updPower .cluster fun w => { w with autostart := true }).scanLegal ∧
    (stepping .gateWait .ramp).inReset = false ∧
      (stepping .gateWait .ramp).cluster.power.step = some { step := .gateWait, deadline := (stepping .gateWait .ramp).count } ∧
      (stepping .settle .ramp).cluster.power.step = some { step := .settle, deadline := (stepping .settle .ramp).count } ∧
      (stepping .settle .ramp).cluster.power.autostart = false ∧
      ((stepping .settle .ramp).updPower .cluster fun w => { w with autostart := true }).cluster.power.autostart = true ∧
      (stepping .discharge .drain).cluster.power.step =
        some { step := .discharge, deadline := (stepping .discharge .drain).count } := by
  refine ⟨fun p => ?_, rfl, fun p => ?_, by decide⟩ <;>
    cases p <;> exact ⟨fun h => (by cases h), fun _ => (by decide), fun _ => (by unfold Dimmer.dark; decide)⟩

/-- PowerGoodLossDrains: a panel that ignores the input, one READY, and one SCANNING with a grant. -/
theorem witness_PowerGoodLossDrains :
    caseGrant.inReset = false ∧ caseGrant.grantsLegal ∧ (caseGrant.panel .centre).power.state = .off ∧
      (caseGrant.panel .cluster).power.state = .ready ∧ expiring.grantsLegal ∧
      (expiring.panel .centre).power.state = .scanning :=
  ⟨rfl, caseGrant_grantsLegal, rfl, rfl, expiring_grantsLegal, rfl⟩

/-- SupplyWarningEdges: the flag clear and set. -/
theorem witness_SupplyWarningEdges :
    opened.inReset = false ∧ opened.supply.hold = false ∧ (after .supplyWarningAssert opened).inReset = false ∧
      (after .supplyWarningAssert opened).supply.hold = true := by
  decide

/-- SupervisionStartsAndFails: OFF, FAULT, and RUNNING before and from the open start and the period's end. -/
theorem witness_SupervisionStartsAndFails :
    opened.takes .supervisor ∧ opened.monitor.state = .off ∧ faulted.takes .supervisor ∧ faulted.monitor.state = .fault ∧
      (keeping 1499999).takes .supervisor ∧ (keeping 1499999).grantsLegal ∧ (keeping 1499999).fallbackHolds ∧
      (keeping 1499999).monitor.state = .running ∧ 100 * 200 * (100 - 25) = 1499999 + 1 ∧
      (keeping 2000000).inReset = false ∧ (keeping 2000000).grantsLegal ∧ (keeping 2000000).fallbackHolds ∧
      100 * 20000 ≤ (keeping 2000000).monitor.elapsed.toNat := by
  refine ⟨opened_takes _, rfl, opened_takes .supervisor, rfl, by unfold State.takes; decide, caseGrant_grantsLegal,
    ⟨rfl, fun h => by cases h⟩, rfl, rfl, rfl, caseGrant_grantsLegal, ⟨rfl, fun h => by cases h⟩, by decide⟩

/-- RecoverAndClearFault: FAULT, and a panel in DRAIN with POWER set. -/
theorem witness_RecoverAndClearFault :
    faulted.takes .supervisor ∧ faulted.monitor.state = .fault ∧
      (stepping .discharge .drain).takes .supervisor ∧ ((stepping .discharge .drain).panel .cluster).power.state = .drain :=
  ⟨opened_takes .supervisor, rfl, opened_takes .supervisor, rfl⟩

/-- NoticesJoinOrAreLost: a DISABLED media port, and queues of 31 and of 32. -/
theorem witness_NoticesJoinOrAreLost :
    State.reset.mediaEnabled = false ∧ opened.mediaEnabled = true ∧
      (let n : Notice := deviceNotice (.profileDone 0)
       (List.replicate 31 n).length < 32 ∧ 32 ≤ (List.replicate 32 n).length ∧
         (after .profileWriteDone { opened with
            supervisor := { opened.supervisor with queue := List.replicate 32 n }
            profile := { opened.profile with writing := some { copy := Config.factoryProfile, done := 0 } } }).supervisor.lost = 1) := by
  decide

/-- ResetsBeginAtOnce: a REQUESTED reset due and not due, and a reset held. -/
theorem witness_ResetsBeginAtOnce :
    opened.resetLogic.requested = false ∧ opened.resetLogic.held = none ∧
      { opened with resetLogic := { held := none, requested := true } }.resetLogic.requested = true ∧
      { opened with resetLogic := { held := none, requested := true } }.inReset = true ∧
      (after .pinReset opened).resetLogic.held = some { cause := .pin, cold := false } ∧
      (after .pinReset opened).inReset = true ∧
      requestOfInstr (.keepalive .supervisor 8) = some (.supervisor, 8, .keepalive) ∧
      (0x00 : Byte) ≠ 0x01 ∧ (0x03 : Byte) ≠ 0x02 := by
  decide

/-- RESET_RELEASE with the supply-warning input asserted: SUPPLY_WARNING stands after BOOT in the supervisor's queue, and the
DISABLED media port holds BOOT alone (R149, R172 step 5). -/
theorem test_resetRelease_warning :
    let t := after .resetRelease (after .supplyWarningAssert (after .pinReset opened))
    t.supervisor.queue.map (fun n => n.body.code) = [0x81, 0x91] ∧ t.media.queue.map (fun n => n.body.code) = [0x81] ∧
      t.supply.hold = true := by
  decide

/-- ResetReleaseLoadsProfile: a held reset over a record never written, and over one that passes its check. -/
theorem witness_ResetReleaseLoadsProfile :
    (after .pinReset opened).resetLogic.held = some { cause := .pin, cold := false } ∧
      (∀ r, (after .pinReset opened).profile.stored = some r → r.check ≠ Config.profileCheck r.items) ∧
      ∃ s : State, s.resetLogic.held = some { cause := .pin, cold := false } ∧
        ∃ r, s.profile.stored = some r ∧ r.check = Config.profileCheck r.items := by
  refine ⟨rfl, fun r h => (by cases h), ?_⟩
  exact ⟨{ after .pinReset opened with profile :=
    { stored := some { items := Config.factoryProfile, check := Config.profileCheck Config.factoryProfile },
      writing := none, lastLoad := .valid } }, rfl, _, rfl, rfl⟩

/-- ProfileWriteAndResetDevice: a port that takes, and a write that ends now. -/
theorem witness_ProfileWriteAndResetDevice :
    opened.takes .supervisor ∧
      { opened with profile := { opened.profile with writing := some { copy := Config.factoryProfile, done := 0 } } }.inReset = false ∧
      (0 : Tick) = opened.count :=
  ⟨opened_takes _, rfl, rfl⟩

/-! ### Witnesses of the invariants: a state beside the reset state that meets them, and a step from it -/

/-- The grant state with a KEEPALIVE waiting. -/
def busy : State := { caseGrant with pending := [.keepalive .supervisor 1] }

theorem witness_StepKeepsGrantsLegal : busy.grantsLegal ∧ ∃ t, step busy = .next t := ⟨caseGrant_grantsLegal, _, rfl⟩

theorem witness_StepKeepsOwnership :
    busy.disabledHoldsNothing ∧ busy.fallbackHolds ∧ busy.mediaGrantsLent ∧ ∃ t, step busy = .next t :=
  ⟨fun h => (by cases h), ⟨rfl, fun h => (by cases h)⟩, ⟨rfl, by decide⟩, _, rfl⟩

/-- A panel in its frame 0 is legal. -/
theorem running_powerLegal (p : Panel) : (running p).powerLegal := by
  intro r
  cases p <;> cases r <;> exact ⟨⟨rfl, rfl, rfl⟩, by unfold Power.marksLegal; decide⟩

/-- A panel in its frame 0 is legal, and so is the panel that stands still beside it. -/
theorem running_scanLegal (p : Panel) : (running p).scanLegal := by
  intro r
  cases p <;> cases r <;>
    (refine ⟨?_, ?_, fun _ => by unfold Dimmer.dark; decide⟩ <;> intro h <;> first | decide | exact absurd rfl h | cases h)

/-- A panel in its frame 0 has a legal configuration and legal frame lengths. -/
theorem running_framesLegal : (running .cluster).framesLegal := by
  refine ⟨configLegal_of_live _ factory_legal rfl rfl, fun p => ?_⟩
  cases p
  · intro _
    refine ⟨fun n h => ?_, fun n h => (by cases h), by unfold PanelState.lengthLegal; decide, fun r h => (by cases h),
      fun b h => (by cases h)⟩
    obtain rfl := Option.some.inj h
    unfold PanelState.lengthLegal
    decide
  · intro h
    cases h

/-- The plan of a frame 0 that has just started is legal. -/
theorem running_plansLegal : (running .cluster).plansLegal := by
  refine ⟨fun h => absurd rfl h, fun p => ?_⟩
  cases p
  · intro _ start length hs hl
    obtain rfl := Option.some.inj hs
    obtain rfl := Option.some.inj hl
    refine ⟨by decide, ⟨by decide, by decide, by decide⟩, by decide, ?_, fun _ _ => by decide, fun h => absurd rfl h,
      fun r h => (by cases h), fun y h => (by cases h)⟩
    intro i hi b hb
    rw [show refreshedBands ((running .cluster).panel .cluster).toCome = [0] from rfl] at hi
    obtain rfl := List.mem_singleton.mp hi
    obtain rfl := Option.some.inj hb
    decide
  · intro h
    cases h

theorem witness_StepKeepsQueuesAndHolds :
    busy.queuesBounded ∧ busy.holdsBounded ∧ busy.expectationsApart ∧ (∃ t, step busy = .next t) ∧
      (running .cluster).powerLegal ∧ (running .cluster).scanLegal ∧ (running .cluster).framesLegal ∧
      (running .cluster).plansLegal ∧ (running .cluster).balancesBounded ∧ ∃ t, step (running .cluster) = .next t := by
  refine ⟨by unfold State.queuesBounded; decide, fun p => ?_, by unfold State.expectationsApart; decide, ⟨_, rfl⟩,
    running_powerLegal _, running_scanLegal _, running_framesLegal, running_plansLegal, fun p => ?_, _, rfl⟩ <;>
  cases p <;> decide

theorem witness_StepKeepsPowerAndScan :
    (running .cluster).powerLegal ∧ (running .cluster).scanLegal ∧ ∃ t, step (running .cluster) = .next t :=
  ⟨running_powerLegal _, running_scanLegal _, _, rfl⟩

theorem witness_StepKeepsConfigLegal : opened.configLegal ∧ ∃ t, step opened = .next t := ⟨opened_configLegal, _, rfl⟩

theorem witness_StepKeepsFrameLengths :
    (running .cluster).powerLegal ∧ (running .cluster).scanLegal ∧ (running .cluster).framesLegal ∧
      ∃ t, step (running .cluster) = .next t :=
  ⟨running_powerLegal _, running_scanLegal _, running_framesLegal, _, rfl⟩

end Sys2Proof.Tests
end

/-!
PROOF. LOCK_MODE answers by the table of R13 (O12): a rule per check for requests that answer by a table of checks, the
checks of LOCK_MODE as such a chain, and the effect of R14 with the notice of R20.
-/

namespace Sys2Proof.Machine

open Sys2Proof

/-! ### Requests that answer by a table of checks -/

/-- What a serve hands on agrees with its table of checks: `AnswersWith` before the reply is placed. -/
def ServedBy (s : State) (checks : List (Prop × OutcomeCode)) (ok : State → Results → Prop)
    (refusal : OutcomeCode → Results) (served : State × Answer) : Prop :=
  ∀ o, FirstFails checks o →
    (o = .ok → ∃ t r, ok t r ∧ served = (t, accept r)) ∧
    (o ≠ .ok → served = (s, { outcome := o, results := refusal o }))

/-- The first check of the table is the outermost `if` of the serve. -/
theorem servedBy_ite {s : State} {rest : List (Prop × OutcomeCode)} {ok : State → Results → Prop}
    {refusal : OutcomeCode → Results} {bad : Prop} [Decidable bad] {code : OutcomeCode} {served : State × Answer}
    (hcode : code ≠ .ok) (hrest : ¬bad → ServedBy s rest ok refusal served) :
    ServedBy s ((bad, code) :: rest) ok refusal
      (if bad then (s, { outcome := code, results := refusal code }) else served) := by
  rintro o (⟨hbad, rfl⟩ | ⟨hgood, hfirst⟩)
  · exact ⟨fun h => absurd h hcode, fun _ => if_pos hbad⟩
  · rw [if_neg hgood]
    exact hrest hgood o hfirst

/-- A request that passed every check is accepted. -/
theorem servedBy_accept {s t : State} {ok : State → Results → Prop} {refusal : OutcomeCode → Results} {r : Results}
    (h : ok t r) : ServedBy s [] ok refusal (t, accept r) :=
  fun _ ho => ⟨fun _ => ⟨t, r, h, rfl⟩, fun hne => absurd ho hne⟩

/-- A port that takes requests locks none of them (R166, check 2). -/
theorem State.takes.portLocks_eq_false {s : State} {q : Port} (h : s.takes q) (kind : Byte) :
    s.portLocks q kind = false := by
  obtain ⟨-, -, henabled⟩ := h
  cases q with
  | supervisor => rfl
  | media => simp [State.portLocks, henabled rfl]

/-- A port that takes requests answers with what the serve hands on. -/
theorem answersWith_of_servedBy {s : State} {q : Port} {tag kind : Byte} {serve : State → State × Answer}
    {checks : List (Prop × OutcomeCode)} {ok : State → Results → Prop} {refusal : OutcomeCode → Results}
    (htakes : s.takes q) (h : ServedBy s checks ok refusal (serve s)) :
    AnswersWith q tag kind (.next (takeRequest q tag kind serve s)) s checks ok refusal := by
  intro o hfirst
  obtain ⟨haccept, hrefuse⟩ := h o hfirst
  have hlocks := htakes.portLocks_eq_false kind
  obtain ⟨hreset, hreply, -⟩ := htakes
  rw [takeRequest_taken hreset hreply hlocks]
  refine ⟨fun ho => ?_, fun ho => by rw [hrefuse ho]⟩
  obtain ⟨t, r, hok, hserve⟩ := haccept ho
  exact ⟨t, r, hok, by rw [hserve]⟩

/-! ### Operands of a request -/

@[simp] theorem inRange_iff {lo hi n : Nat} : inRange lo hi n = true ↔ lo ≤ n ∧ n ≤ hi := by simp [inRange]

@[simp] theorem panelOf_panelNumber (p : Panel) : panelOf (panelNumber p) = some p := by cases p <;> rfl

@[simp] theorem panelNumber_eq_zero {p : Panel} : panelNumber p = 0 ↔ p = .cluster := by cases p <;> decide

@[simp] theorem panelNumber_eq_one {p : Panel} : panelNumber p = 1 ↔ p = .centre := by cases p <;> decide

/-- Every field of LOCK_MODE lies in its range (R13, check 3). -/
abbrev lockInRange (r : LockRequest) : Prop :=
  r.slewLimit ≤ 65535 ∧ r.lockWindow ≤ 65535 ∧ 1 ≤ r.missLimit ∧ r.missLimit ≤ 15 ∧ r.source.isSome = true

/-- The settings a LOCK_MODE with every field in range carries. -/
def lockCarried (r : LockRequest) : LockSettings :=
  { source := r.source.getD .none, slewLimit := r.slewLimit, lockWindow := r.lockWindow, missLimit := r.missLimit,
    partnerOffset := r.partnerOffset }

theorem lockSettingsOf_of_inRange {r : LockRequest} (h : lockInRange r) : lockSettingsOf r = some (lockCarried r) := by
  obtain ⟨hslew, hwindow, hlow, hhigh, hsource⟩ := h
  obtain ⟨source, hr⟩ := Option.isSome_iff_exists.mp hsource
  simp [lockSettingsOf, lockCarried, hr, hslew, hwindow, hlow, hhigh]

theorem lockSettingsOf_of_not_inRange {r : LockRequest} (h : ¬lockInRange r) : lockSettingsOf r = none := by
  cases hr : r.source with
  | none => simp [lockSettingsOf, hr]
  | some source =>
    simp only [lockSettingsOf, hr, Bool.and_eq_true, inRange_iff, ite_eq_right_iff]
    rintro ⟨⟨⟨-, hslew⟩, -, hwindow⟩, hlow, hhigh⟩
    exact absurd ⟨hslew, hwindow, hlow, hhigh, by simp [hr]⟩ h

/-- The two ways to name the partner source agree: an absent source stands for another one. -/
theorem lockCarried_source_eq_partner {r : LockRequest} :
    (lockCarried r).source = .partner ↔ r.source = some .partner := by
  cases hr : r.source <;> simp [lockCarried, hr]

/-! ### The lock after LOCK_MODE (R14) -/

theorem FrameLock.setMode_of_source_eq {settings : LockSettings} {l : FrameLock}
    (h : settings.source = l.settings.source) (tNom : Nat) (scanning : Bool) :
    l.setMode settings tNom scanning = { l with settings := settings } := if_pos h

/-- A scanning panel's lock seeks a source it has; every other lock is FREE. -/
theorem lockStateFor_eq (source : MarkerSource) (scanning : Bool) :
    (if scanning = true then lockStateFor source else .free) =
      if scanning = true ∧ source ≠ .none then LockState.seek else .free := by
  cases source <;> simp [lockStateFor]

theorem FrameLock.setMode_of_source_ne {settings : LockSettings} {l : FrameLock}
    (h : settings.source ≠ l.settings.source) (tNom : Nat) (scanning : Bool) :
    l.setMode settings tNom scanning =
      { settings := settings, state := if scanning = true ∧ settings.source ≠ .none then .seek else .free,
        tBase := tNom, correction := none, capture := none, previous := none, gapRef := none, good := 0, miss := 0,
        inFlight := [], glitches := l.glitches } := by
  simp only [FrameLock.setMode, FrameLock.restart, if_neg h, lockStateFor_eq]

/-! ### The notice of a lock left (R20) -/

theorem leavesLock_self (state : LockState) : leavesLock state state = false := by cases state <;> rfl

/-- SEEK and FREE are neither LOCKED nor HOLD, whichever of them is entered. -/
theorem leavesLock_seek_or_free (left : LockState) (c : Prop) [Decidable c] :
    leavesLock left (if c then .seek else .free) = true ↔ left = .locked ∨ left = .hold := by
  split <;> cases left <;> decide

/-! ### LOCK_MODE -/

/-- The state a LOCK_MODE that passes its checks leaves, before its notice. -/
def State.lockMode (s : State) (p : Panel) (settings : LockSettings) : State :=
  s.updLock p (FrameLock.setMode settings (s.panel p).timing.tNom (s.scanning p))

/-- The effect of a LOCK_MODE that passes its checks, with the notice it posts. -/
def State.lockModeTold (s : State) (p : Panel) (settings : LockSettings) : State :=
  if leavesLock (s.panel p).lock.state ((s.lockMode p settings).panel p).lock.state then
    postLockState p (s.panel p).lock.state (s.lockMode p settings)
  else s.lockMode p settings

/-- The checks of R13 in order, on a panel that exists. -/
theorem serveLockMode_panelNumber (q : Port) (p : Panel) (r : LockRequest) (s : State) :
    serveLockMode q (panelNumber p) r s =
      if q = .media ∧ p = .cluster then (s, refuse .notPermitted)
      else if q = .media ∧ p = .centre ∧ s.timingLock = true then (s, refuse .timingLocked)
      else if ¬lockInRange r then (s, refuse .badParam)
      else if (s.panel p).timing.tMax ≤ r.partnerOffset then (s, refuse .badParam)
      else if r.source = some .partner ∧ (s.panel (otherPanel p)).lock.settings.source = .partner then
        (s, refuse .badParam)
      else (s.lockModeTold p (lockCarried r), accept (.lock ((s.lockMode p (lockCarried r)).panel p).lock.state)) := by
  unfold serveLockMode
  by_cases h : lockInRange r
  · simp only [panelNumber_eq_zero, panelNumber_eq_one, panelOf_panelNumber, lockSettingsOf_of_inRange h,
      lockCarried_source_eq_partner, if_neg (not_not_intro h)]
    rfl
  · simp only [panelNumber_eq_zero, panelNumber_eq_one, panelOf_panelNumber, lockSettingsOf_of_not_inRange h,
      if_pos h]

/-- A LOCK_MODE that keeps the source replaces the settings alone. -/
theorem State.lockMode_of_source_eq {s : State} {p : Panel} {settings : LockSettings}
    (h : settings.source = (s.panel p).lock.settings.source) :
    s.lockMode p settings =
      s.setPanel p { s.panel p with lock := { (s.panel p).lock with settings := settings } } := by
  simp only [State.lockMode, State.updLock, State.updPanel, FrameLock.setMode_of_source_eq h]

theorem State.lockModeTold_of_source_eq {s : State} {p : Panel} {settings : LockSettings}
    (h : settings.source = (s.panel p).lock.settings.source) :
    s.lockModeTold p settings = s.lockMode p settings := by
  simp [State.lockModeTold, State.lockMode_of_source_eq h, leavesLock_self]

/-- A LOCK_MODE that changes the source restarts the lock (R14). -/
theorem State.lockMode_of_source_ne {s : State} {p : Panel} {settings : LockSettings}
    (h : settings.source ≠ (s.panel p).lock.settings.source) :
    s.lockMode p settings = s.setPanel p { s.panel p with
      lock := {
        settings := settings
        state := if (s.panel p).power.state = .scanning ∧ settings.source ≠ .none then .seek else .free
        tBase := (s.panel p).timing.tNom, correction := none, capture := none, previous := none, gapRef := none
        good := 0, miss := 0, inFlight := [], glitches := (s.panel p).lock.glitches } } := by
  simp only [State.lockMode, State.updLock, State.updPanel, FrameLock.setMode_of_source_ne h, State.scanning,
    beq_iff_eq]

/-- LOCK_STATE carries the state left, the one entered and T_nom, and the frame number that stands. -/
theorem State.lockModeTold_of_source_ne {s : State} {p : Panel} {settings : LockSettings}
    (h : settings.source ≠ (s.panel p).lock.settings.source) :
    s.lockModeTold p settings =
      if (s.panel p).lock.state = .locked ∨ (s.panel p).lock.state = .hold then
        postOwn p (s.noticeOf p (.lockState (s.panel p).lock.state
          (if (s.panel p).power.state = .scanning ∧ settings.source ≠ .none then .seek else .free)
          (s.panel p).timing.tNom)) (s.lockMode p settings)
      else s.lockMode p settings := by
  simp only [State.lockModeTold, State.lockMode_of_source_ne h, panel_setPanel, leavesLock_seek_or_free, postLockState,
    State.panelNotice, State.noticeOf]

/-- Settles O12: the checks of R13 one after the other, then the effect of R14 as the source stays or changes. -/
theorem lockModeByTable : Obligations.LockModeByTable := by
  intro q tag p r s htakes x l settings entered changed lock t told n
  refine answersWith_of_servedBy htakes ?_
  rw [serveLockMode_panelNumber]
  iterate 5 refine servedBy_ite (by decide) fun _ => ?_
  refine servedBy_accept ?_
  by_cases h : settings.source = l.settings.source
  · have hmode : s.lockMode p settings = t := by
      simp only [State.lockMode_of_source_eq h, t, lock, if_pos h, x, l]
    have hquiet : ¬told := fun htold => htold.1 h
    rw [show lockCarried r = settings from rfl, State.lockModeTold_of_source_eq h, hmode]
    refine ⟨?_, fun _ => rfl, fun htold => absurd htold hquiet⟩
    simp only [t, panel_setPanel, lock, entered, if_pos h]
  · have hmode : s.lockMode p settings = t := by
      simp only [State.lockMode_of_source_ne h, t, lock, changed, entered, if_neg h, x, l]
    have htold : s.lockModeTold p settings = if l.state = .locked ∨ l.state = .hold then postOwn p n t else t := by
      simp only [State.lockModeTold_of_source_ne h, hmode, n, entered, if_neg h, x, l]
    rw [show lockCarried r = settings from rfl, htold, hmode]
    refine ⟨?_, fun hquiet => if_neg fun hleft => hquiet ⟨h, hleft⟩, fun ⟨_, hleft⟩ => if_pos hleft⟩
    simp only [t, panel_setPanel, lock, changed, if_neg h]

end Sys2Proof.Machine

/-!
PROOF. Every plan fits its frame (O22, R54): what placement keeps (R55, R58), how a plan is laid down around the placed
slots (R59), and the budget that bounds their costs (R50, R51).
-/

namespace Sys2Proof.Machine

open Sys2Proof

/-! ### Band slots -/

/-- The band whose slot this is. -/
def SlotKind.band? : SlotKind → Option Nat
  | .refresh i _ => some i
  | .skip i => some i
  | _ => none

@[simp] theorem SlotKind.band?_refresh (i : Nat) (polarity : FramePolarity) :
    (SlotKind.refresh i polarity).band? = some i := rfl

@[simp] theorem SlotKind.band?_skip (i : Nat) : (SlotKind.skip i).band? = some i := rfl

/-- The band items are those of the bands from `i` on, in band order. -/
theorem bandItems_band (t : Timing) (polarity : FramePolarity) (refreshed : Nat → Bool) (i : Nat) (lines : List Nat) :
    (bandItems t polarity refreshed i lines).filterMap (fun b => b.kind.band?) = List.range' i lines.length := by
  induction lines generalizing i with
  | nil => rfl
  | cons l ls ih => cases h : refreshed i <;> simp [bandItems, h, ih, List.range'_succ]

theorem bandItems_cost_sum (t : Timing) (polarity : FramePolarity) (refreshed : Nat → Bool) (i : Nat)
    (lines : List Nat) :
    ((bandItems t polarity refreshed i lines).map BandItem.cost).sum =
      ∑ k ∈ Finset.range lines.length, bandCost t (refreshed (i + k)) (lines.getD k 0) := by
  induction lines generalizing i with
  | nil => rfl
  | cons l ls ih =>
    have hshift : ∀ k, i + 1 + k = i + (k + 1) := fun k => by omega
    simp only [bandItems, List.map_cons, List.sum_cons, ih, List.length_cons, Finset.sum_range_succ',
      List.getD_cons_zero, List.getD_cons_succ, hshift, Nat.add_zero]
    omega

/-- Where each band's record says whether it is refreshed, the costs are those of the records. -/
theorem bandItems_cost_of_records (t : Timing) (polarity : FramePolarity) {refreshed : Nat → Bool}
    {refreshes : SnapBand → Bool} {i : Nat} {bs : List SnapBand}
    (h : ∀ k b, bs[k]? = some b → refreshed (i + k) = refreshes b) :
    (bandItems t polarity refreshed i (bs.map SnapBand.lines)).map BandItem.cost =
      bs.map fun b => bandCost t (refreshes b) b.lines := by
  induction bs generalizing i with
  | nil => rfl
  | cons b bs ih =>
    have hrest := ih (i := i + 1) fun k c hk => by rw [show i + 1 + k = i + (k + 1) by omega]; exact h (k + 1) c hk
    simp only [List.map_cons, bandItems, hrest, show refreshed i = refreshes b from h 0 b rfl]

/-- Bands that are all refreshed cost what R4 and R43 say. -/
theorem bandItems_cost_of_all (t : Timing) (polarity : FramePolarity) (i : Nat) (lines : List Nat) :
    (bandItems t polarity (fun _ => true) i lines).map BandItem.cost = lines.map (refreshCost t) := by
  induction lines generalizing i with
  | nil => rfl
  | cons l ls ih => simp [bandItems, bandCost, ih]

/-! ### Placed slots -/

/-- A placed slot as the plan holds it. -/
def PlacedTouch.slot (p : PlacedTouch) : Slot := { start := p.start, cost := p.item.cost, kind := p.item.kind }

/-- The end of a placed slot. -/
def PlacedTouch.finish (p : PlacedTouch) : Nat := p.start + p.item.cost

/-- The costs of these placed slots together. -/
def placedCost (placed : List PlacedTouch) : Nat := (placed.map fun p => p.item.cost).sum

/-- The costs of the slots placed at boundaries before `b`. -/
def costBefore (placed : List PlacedTouch) (b : Nat) : Nat := placedCost (placed.filter fun p => p.boundary < b)

theorem slotsAt_eq (placed : List PlacedTouch) (b : Nat) :
    slotsAt placed b = (placed.filter fun p => p.boundary == b).map PlacedTouch.slot := rfl

theorem mem_slotsAt {placed : List PlacedTouch} {b : Nat} {x : Slot} :
    x ∈ slotsAt placed b ↔ ∃ p ∈ placed, p.boundary = b ∧ p.slot = x := by
  simp [slotsAt_eq, and_assoc]

@[simp] theorem placedCost_nil : placedCost [] = 0 := rfl

@[simp] theorem placedCost_cons (p : PlacedTouch) (ps : List PlacedTouch) :
    placedCost (p :: ps) = p.item.cost + placedCost ps := by simp [placedCost]

@[simp] theorem placedCost_append (ps qs : List PlacedTouch) :
    placedCost (ps ++ qs) = placedCost ps + placedCost qs := by simp [placedCost]

theorem costBefore_append (ps qs : List PlacedTouch) (b : Nat) :
    costBefore (ps ++ qs) b = costBefore ps b + costBefore qs b := by simp [costBefore]

theorem costBefore_cons (p : PlacedTouch) (ps : List PlacedTouch) (b : Nat) :
    costBefore (p :: ps) b = (if p.boundary < b then p.item.cost else 0) + costBefore ps b := by
  by_cases h : p.boundary < b <;> simp [costBefore, h]

theorem costBefore_zero (placed : List PlacedTouch) : costBefore placed 0 = 0 := by simp [costBefore]

/-- The slots at `b` are what lies between the costs before `b` and those before the next boundary. -/
theorem costBefore_succ (placed : List PlacedTouch) (b : Nat) :
    costBefore placed (b + 1) = costBefore placed b + ((slotsAt placed b).map Slot.cost).sum := by
  induction placed with
  | nil => rfl
  | cons p ps ih =>
    rw [slotsAt_eq] at ih ⊢
    simp only [costBefore_cons, ih]
    rcases Nat.lt_trichotomy p.boundary b with h | h | h
    · simp [h, h.ne, Nat.lt_succ_of_lt h, Nat.add_assoc]
    · simp [h, PlacedTouch.slot, Nat.add_left_comm]
    · simp [h.ne', h.not_gt, show ¬p.boundary < b + 1 by omega]

theorem costBefore_mono (placed : List PlacedTouch) {b c : Nat} (h : b ≤ c) :
    costBefore placed b ≤ costBefore placed c :=
  monotone_nat_of_le_succ (fun n => by rw [costBefore_succ]; omega) h

theorem costBefore_le (placed : List PlacedTouch) (b : Nat) : costBefore placed b ≤ placedCost placed := by
  induction placed with
  | nil => rfl
  | cons p ps ih => rw [costBefore_cons, placedCost_cons]; split <;> omega

/-- Past the boundary of every slot placed, all their costs lie before. -/
theorem costBefore_of_forall_lt {placed : List PlacedTouch} {b : Nat} (h : ∀ p ∈ placed, p.boundary < b) :
    costBefore placed b = placedCost placed := by
  rw [costBefore, List.filter_eq_self.mpr fun p hp => decide_eq_true (h p hp)]

/-! ### Boundaries (R55) -/

/-- The boundary times never fall, from the first to the last, `B`. -/
def TimesRise (times : List Nat) (B : Nat) : Prop :=
  ∀ b c, b ≤ c → c ≤ B → boundaryTime times b ≤ boundaryTime times c

theorem boundaryTime_boundaries (x : Nat) (costs : List Nat) (b : Nat) (h : b ≤ costs.length) :
    boundaryTime (boundaries x costs) b = x + (costs.take b).sum := by
  induction costs generalizing x b with
  | nil => obtain rfl := Nat.le_zero.mp h; rfl
  | cons c cs ih =>
    cases b with
    | zero => rfl
    | succ b =>
      calc boundaryTime (boundaries x (c :: cs)) (b + 1) = boundaryTime (boundaries (x + c) cs) b := rfl
        _ = x + ((c :: cs).take (b + 1)).sum := by
          rw [ih _ _ (Nat.le_of_succ_le_succ h), List.take_succ_cons, List.sum_cons]; omega

theorem boundaries_length (x : Nat) (costs : List Nat) : (boundaries x costs).length = costs.length + 1 := by
  induction costs generalizing x with
  | nil => rfl
  | cons c cs ih => simp [boundaries, ih]

/-- A band lies between its boundary and the next. -/
theorem boundaryTime_succ {costs : List Nat} {b c : Nat} (h : costs[b]? = some c) :
    boundaryTime (boundaries 0 costs) (b + 1) = boundaryTime (boundaries 0 costs) b + c := by
  obtain ⟨hlt, rfl⟩ := List.getElem?_eq_some_iff.mp h
  rw [boundaryTime_boundaries _ _ _ hlt, boundaryTime_boundaries _ _ _ hlt.le, List.sum_take_succ _ _ hlt]
  omega

theorem boundaryTime_length (costs : List Nat) : boundaryTime (boundaries 0 costs) costs.length = costs.sum := by
  simp [boundaryTime_boundaries]

theorem boundaries_timesRise (costs : List Nat) : TimesRise (boundaries 0 costs) costs.length := by
  intro b c hbc hc
  rw [boundaryTime_boundaries _ _ _ hc, boundaryTime_boundaries _ _ _ (hbc.trans hc)]
  exact Nat.add_le_add_left (List.monotone_sum_take costs hbc) 0

theorem nearestFrom_lt (target n : Nat) (times : List Nat) (i best bestAt : Nat) (hbest : best < n)
    (hn : i + times.length ≤ n) : nearestFrom target i best bestAt times < n := by
  induction times generalizing i best bestAt with
  | nil => exact hbest
  | cons b bs ih =>
    have hn' : i + 1 + bs.length ≤ n := by rw [List.length_cons] at hn; omega
    rw [nearestFrom]
    split
    · exact ih _ _ _ (by omega) hn'
    · exact ih _ _ _ hbest hn'

/-- The nearest boundary is one of the boundaries 0 to `B`. -/
theorem nearestBoundary_le (target : Nat) {times : List Nat} {B : Nat} (h : times.length = B + 1) :
    nearestBoundary target times ≤ B := by
  cases times with
  | nil => cases h
  | cons t ts =>
    rw [List.length_cons] at h
    exact Nat.le_of_lt_succ (nearestFrom_lt _ _ _ _ _ _ (Nat.succ_pos B) (by omega))

/-! ### Placement (R55, R58) -/

/-- A slot may start here: from its boundary's time and the slots before it on, and exactly there unless in the tail. -/
def MayStart (times : List Nat) (B before lastEnd b start : Nat) : Prop :=
  max (boundaryTime times b + before) lastEnd ≤ start ∧
    (b < B → start = max (boundaryTime times b + before) lastEnd)

theorem mayStart_self (times : List Nat) (B before lastEnd b : Nat) :
    MayStart times B before lastEnd b (max (boundaryTime times b + before) lastEnd) := ⟨le_rfl, fun _ => rfl⟩

/-- The search moves forward, to no boundary past the last, and from one permitted start to another. -/
theorem seekStart_spec (qs : List Quiet) (times : List Nat) (B cost before lastEnd fuel b x : Nat) (hb : b ≤ B)
    (hx : MayStart times B before lastEnd b x) :
    b ≤ (seekStart qs times B cost before lastEnd fuel b x).1 ∧
      (seekStart qs times B cost before lastEnd fuel b x).1 ≤ B ∧
      ∀ start, (seekStart qs times B cost before lastEnd fuel b x).2 = some start →
        MayStart times B before lastEnd (seekStart qs times B cost before lastEnd fuel b x).1 start := by
  induction fuel generalizing b x with
  | zero => exact ⟨le_rfl, hb, fun start h => nomatch h⟩
  | succ fuel ih =>
    cases hmet : firstMet qs x cost with
    | none =>
      simp only [seekStart, hmet]
      exact ⟨le_rfl, hb, fun start h => by cases h; exact hx⟩
    | some q =>
      simp only [seekStart, hmet]
      by_cases hlt : b < B
      · obtain ⟨hle, hB, hstart⟩ := ih (b + 1) _ hlt (mayStart_self times B before lastEnd (b + 1))
        rw [if_pos hlt]
        exact ⟨by omega, hB, hstart⟩
      · have hpast : x ≤ (q.hi + 1).toNat := by
          have hmeets := List.find?_some hmet
          simp only [Quiet.meets, Bool.and_eq_true, decide_eq_true_eq] at hmeets
          omega
        rw [if_neg hlt]
        exact ih b _ hb ⟨hx.1.trans hpast, fun h => absurd h hlt⟩

/-- Placed slots leave each other and the bands room: they follow one another, each starts after its boundary and the
slots at earlier boundaries, ends before the band at its boundary starts, and ends by the limit. -/
structure LeavesRoom (times : List Nat) (B limit : Nat) (placed : List PlacedTouch) : Prop where
  apart : placed.Pairwise fun p q => p.finish ≤ q.start
  after : ∀ p ∈ placed, boundaryTime times p.boundary + costBefore placed p.boundary ≤ p.start
  clears : ∀ p ∈ placed, p.boundary < B →
    p.finish ≤ boundaryTime times p.boundary + costBefore placed (p.boundary + 1)
  within : ∀ p ∈ placed, p.finish ≤ limit
  inside : ∀ p ∈ placed, p.boundary ≤ B

theorem leavesRoom_nil (times : List Nat) (B limit : Nat) : LeavesRoom times B limit [] := by
  constructor <;> simp

theorem LeavesRoom.mono {times : List Nat} {B limit limit' : Nat} {placed : List PlacedTouch}
    (h : LeavesRoom times B limit placed) (hle : limit ≤ limit') : LeavesRoom times B limit' placed :=
  { h with within := fun p hp => (h.within p hp).trans hle }

/-- What placement keeps from slot to slot (R55). -/
structure Placing.Sound (times : List Nat) (B limit : Nat) (st : Placing) : Prop where
  room : LeavesRoom times B limit st.placed
  reach : st.boundary ≤ B
  sorted : ∀ p ∈ st.placed, p.boundary ≤ st.boundary
  before_eq : st.before = placedCost st.placed
  lastEnd_ge : ∀ p ∈ st.placed, p.finish ≤ st.lastEnd
  packed : st.boundary < B → st.lastEnd ≤ boundaryTime times st.boundary + st.before

section Placement

variable {times : List Nat} {B limit : Nat} {st : Placing}

/-- Dropping a slot moves on to a later boundary (R58, step 5). -/
theorem Placing.Sound.drop (hrise : TimesRise times B) (h : st.Sound times B limit) {b : Nat} (hb : st.boundary ≤ b)
    (hB : b ≤ B) : Placing.Sound times B limit { st with boundary := b } where
  room := h.room
  reach := hB
  sorted p hp := (h.sorted p hp).trans hb
  before_eq := h.before_eq
  lastEnd_ge := h.lastEnd_ge
  packed hlt := (h.packed (hb.trans_lt hlt)).trans (Nat.add_le_add_right (hrise _ _ hb hB) _)

/-- A slot put at a permitted start, and ending by the limit, leaves room. -/
theorem Placing.Sound.room_append (h : st.Sound times B limit) {p : PlacedTouch} (hb : st.boundary ≤ p.boundary)
    (hB : p.boundary ≤ B) (hstart : MayStart times B st.before st.lastEnd p.boundary p.start)
    (hpacked : p.boundary < B → st.lastEnd ≤ boundaryTime times p.boundary + st.before) (hlimit : p.finish ≤ limit) :
    LeavesRoom times B limit (st.placed ++ [p]) := by
  have hsorted : ∀ q ∈ st.placed, q.boundary ≤ p.boundary := fun q hq => (h.sorted q hq).trans hb
  have hbefore := h.before_eq
  obtain ⟨hge, hexact⟩ := hstart
  constructor
  case apart =>
    refine List.pairwise_append.mpr ⟨h.room.apart, List.pairwise_singleton _ _, fun q hq r hr => ?_⟩
    obtain rfl := List.mem_singleton.mp hr
    have hlast := h.lastEnd_ge q hq
    omega
  case after =>
    intro q hq
    have hown : ∀ b ≤ p.boundary, costBefore (st.placed ++ [p]) b = costBefore st.placed b := fun b hle => by
      rw [costBefore_append]
      simp [costBefore, hle]
    rcases List.mem_append.mp hq with hq | hq
    · rw [hown _ (hsorted q hq)]
      exact h.room.after q hq
    · obtain rfl := List.mem_singleton.mp hq
      rw [hown _ le_rfl]
      have hle := costBefore_le st.placed q.boundary
      omega
  case clears =>
    intro q hq hlt
    rw [costBefore_append]
    rcases List.mem_append.mp hq with hq | hq
    · have hclear := h.room.clears q hq hlt
      omega
    · obtain rfl := List.mem_singleton.mp hq
      have hall : costBefore st.placed (q.boundary + 1) = placedCost st.placed :=
        costBefore_of_forall_lt fun r hr => Nat.lt_succ_of_le (hsorted r hr)
      have hone : costBefore [q] (q.boundary + 1) = q.item.cost := by simp [costBefore]
      have hlast := hpacked hlt
      rw [PlacedTouch.finish, hexact hlt, hall, hone]
      omega
  case within => simpa [or_imp, forall_and] using ⟨h.room.within, hlimit⟩
  case inside => simpa [or_imp, forall_and] using ⟨h.room.inside, hB⟩

/-- Placing a slot at a permitted start keeps what placement keeps. -/
theorem Placing.Sound.place (hrise : TimesRise times B) (h : st.Sound times B limit) {b start : Nat} {x : TouchItem}
    (hb : st.boundary ≤ b) (hB : b ≤ B) (hstart : MayStart times B st.before st.lastEnd b start)
    (hlimit : start + x.cost ≤ limit) :
    Placing.Sound times B limit
      { placed := st.placed ++ [{ boundary := b, start := start, item := x }]
        before := st.before + x.cost
        lastEnd := start + x.cost
        boundary := b } := by
  have hdropped := h.drop hrise hb hB
  obtain ⟨hge, hexact⟩ := hstart
  constructor
  case room => exact h.room_append hb hB ⟨hge, hexact⟩ hdropped.packed hlimit
  case reach => exact hB
  case sorted => simpa [or_imp, forall_and] using hdropped.sorted
  case before_eq => simp [h.before_eq]
  case lastEnd_ge =>
    intro p hp
    rcases List.mem_append.mp hp with hp | hp
    · have hlast := h.lastEnd_ge p hp
      change _ ≤ start + x.cost
      omega
    · obtain rfl := List.mem_singleton.mp hp
      exact le_rfl
  case packed =>
    intro hlt
    have hlast := hdropped.packed hlt
    have heq := hexact hlt
    change start + x.cost ≤ boundaryTime times b + (st.before + x.cost)
    change st.lastEnd ≤ boundaryTime times b + st.before at hlast
    omega

/-- One slot is dropped, or placed at a permitted start by the limit. -/
theorem placeOne_sound (hrise : TimesRise times B) (hlength : times.length = B + 1) (h : st.Sound times B limit)
    (qs : List Quiet) (K k : Nat) (x : TouchItem) : (placeOne qs times B limit K st k x).Sound times B limit := by
  have hfirst : max (nearestBoundary ((k + 1) * boundaryTime times B / (K + 1)) times) st.boundary ≤ B :=
    Nat.max_le.mpr ⟨nearestBoundary_le _ hlength, h.reach⟩
  obtain ⟨hb, hB, hstart⟩ := seekStart_spec qs times B x.cost st.before st.lastEnd (B + qs.length + 2) _ _ hfirst
    (mayStart_self times B st.before st.lastEnd _)
  replace hb := (Nat.le_max_right _ _).trans hb
  unfold placeOne
  dsimp only
  split
  next => exact h.drop hrise hb hB
  next start hfound =>
    split
    next => exact h.drop hrise hb hB
    next hlimit => exact h.place hrise hb hB (hstart start hfound) (Nat.le_of_not_lt hlimit)

theorem placeFrom_sound (hrise : TimesRise times B) (hlength : times.length = B + 1) (qs : List Quiet) (K k : Nat)
    (xs : List TouchItem) (h : st.Sound times B limit) :
    (placeFrom qs times B limit K k st xs).Sound times B limit := by
  induction xs generalizing k st with
  | nil => exact h
  | cons x xs ih => exact ih _ (placeOne_sound hrise hlength h qs K k x)

theorem placeTouches_leavesRoom (hrise : TimesRise times B) (hlength : times.length = B + 1) (qs : List Quiet)
    (xs : List TouchItem) : LeavesRoom times B limit (placeTouches qs times B limit xs) := by
  refine (placeFrom_sound hrise hlength qs _ 0 xs ⟨leavesRoom_nil times B limit, ?_, ?_, rfl, ?_, ?_⟩).room <;> simp

/-- One slot is added at the end, or none. -/
theorem placeOne_items (qs : List Quiet) (K k : Nat) (x : TouchItem) :
    ∃ new, new.Sublist [x] ∧
      (placeOne qs times B limit K st k x).placed.map PlacedTouch.item = st.placed.map PlacedTouch.item ++ new := by
  unfold placeOne
  dsimp only
  split
  next => exact ⟨[], List.nil_sublist _, by simp⟩
  next =>
    split
    next => exact ⟨[], List.nil_sublist _, by simp⟩
    next => exact ⟨[x], List.Sublist.refl _, by simp⟩

theorem placeFrom_items (qs : List Quiet) (K k : Nat) (xs : List TouchItem) :
    ∃ new, new.Sublist xs ∧
      (placeFrom qs times B limit K k st xs).placed.map PlacedTouch.item = st.placed.map PlacedTouch.item ++ new := by
  induction xs generalizing k st with
  | nil => exact ⟨[], List.nil_sublist _, by simp [placeFrom]⟩
  | cons x xs ih =>
    obtain ⟨one, hone, heq⟩ := placeOne_items (times := times) (B := B) (limit := limit) (st := st) qs K k x
    obtain ⟨rest, hrest, hall⟩ := ih (st := placeOne qs times B limit K st k x) (k + 1)
    exact ⟨one ++ rest, hone.append hrest, by rw [placeFrom, hall, heq, List.append_assoc]⟩

/-- The slots placed are some of those offered, in their order (R55, R58). -/
theorem placeTouches_items (qs : List Quiet) (xs : List TouchItem) :
    ((placeTouches qs times B limit xs).map PlacedTouch.item).Sublist xs := by
  obtain ⟨new, hnew, heq⟩ := placeFrom_items (times := times) (B := B) (limit := limit)
    (st := { placed := [], before := 0, lastEnd := 0, boundary := 0 }) qs xs.length 0 xs
  rw [placeTouches, heq]
  exact hnew

end Placement

/-! ### The plan laid down (R59) -/

section LaidDown

variable {times : List Nat} {B limit : Nat} {placed : List PlacedTouch} {bands : List BandItem} {i : Nat}

/-- These bands stand at the boundaries from `i` on: each fills the time to the next boundary. -/
def StandAt (times : List Nat) (i : Nat) (bands : List BandItem) : Prop :=
  ∀ j b, bands[j]? = some b → boundaryTime times (i + j + 1) = boundaryTime times (i + j) + b.cost

theorem StandAt.head {b : BandItem} {bs : List BandItem} (h : StandAt times i (b :: bs)) :
    boundaryTime times (i + 1) = boundaryTime times i + b.cost := h 0 b rfl

theorem StandAt.tail {b : BandItem} {bs : List BandItem} (h : StandAt times i (b :: bs)) : StandAt times (i + 1) bs :=
  fun j c hj => by rw [show i + 1 + j = i + (j + 1) by omega]; exact h (j + 1) c hj

theorem standAt_boundaries (bands : List BandItem) : StandAt (boundaries 0 (bands.map BandItem.cost)) 0 bands := by
  intro j b hj
  rw [Nat.zero_add]
  exact boundaryTime_succ (by rw [List.getElem?_map, hj]; rfl)

/-- What is laid down at boundary `i`: its touch slots, its band behind them, and the rest from the next boundary. -/
theorem layDown_cons {b : BandItem} {bs : List BandItem} (h : StandAt times i (b :: bs)) :
    layDown placed i (boundaryTime times i + costBefore placed i) (b :: bs) =
      slotsAt placed i ++
        { start := boundaryTime times i + costBefore placed (i + 1), cost := b.cost, kind := b.kind } ::
        layDown placed (i + 1) (boundaryTime times (i + 1) + costBefore placed (i + 1)) bs := by
  have hstart : boundaryTime times i + costBefore placed i + ((slotsAt placed i).map Slot.cost).sum =
      boundaryTime times i + costBefore placed (i + 1) := by rw [costBefore_succ]; omega
  simp only [layDown, hstart, h.head, Nat.add_right_comm]

/-- A slot of the plan is a placed slot, or a band's between its boundary and the next, moved by the placed slots. -/
theorem mem_layDown (h : StandAt times i bands) {x : Slot}
    (hx : x ∈ layDown placed i (boundaryTime times i + costBefore placed i) bands) :
    (∃ p ∈ placed, i ≤ p.boundary ∧ p.slot = x) ∨
      ∃ k, i ≤ k ∧ k < i + bands.length ∧ x.start = boundaryTime times k + costBefore placed (k + 1) ∧
        x.start + x.cost = boundaryTime times (k + 1) + costBefore placed (k + 1) := by
  induction bands generalizing i with
  | nil =>
    obtain ⟨p, hp, hb, rfl⟩ := mem_slotsAt.mp hx
    exact .inl ⟨p, hp, hb.ge, rfl⟩
  | cons b bs ih =>
    rw [layDown_cons h] at hx
    rcases List.mem_append.mp hx with hx | hx
    · obtain ⟨p, hp, hb, rfl⟩ := mem_slotsAt.mp hx
      exact .inl ⟨p, hp, hb.ge, rfl⟩
    · rcases List.mem_cons.mp hx with rfl | hx
      · exact .inr ⟨i, le_rfl, by simp, rfl, by rw [h.head]; dsimp only; omega⟩
      · rcases ih h.tail hx with ⟨p, hp, hb, heq⟩ | ⟨k, hik, hk, hslot⟩
        · exact .inl ⟨p, hp, by omega, heq⟩
        · exact .inr ⟨k, by omega, by rw [List.length_cons]; omega, hslot⟩

/-- Nothing laid down from boundary `i` on starts before it and the slots placed ahead of it. -/
theorem le_start_of_mem_layDown (hrise : TimesRise times B) (hroom : LeavesRoom times B limit placed)
    (h : StandAt times i bands) (hB : i + bands.length = B) {x : Slot}
    (hx : x ∈ layDown placed i (boundaryTime times i + costBefore placed i) bands) :
    boundaryTime times i + costBefore placed i ≤ x.start := by
  rcases mem_layDown h hx with ⟨p, hp, hip, rfl⟩ | ⟨k, hik, hk, hstart, _⟩
  · exact (Nat.add_le_add (hrise _ _ hip (hroom.inside p hp)) (costBefore_mono placed hip)).trans (hroom.after p hp)
  · rw [hstart]
    exact Nat.add_le_add (hrise _ _ hik (by omega)) (costBefore_mono placed (by omega))

/-- The slots at one boundary follow one another. -/
theorem slotsAt_apart (hroom : LeavesRoom times B limit placed) (b : Nat) :
    (slotsAt placed b).Pairwise fun x y => x.start + x.cost ≤ y.start := by
  rw [slotsAt_eq, List.pairwise_map]
  exact hroom.apart.filter _

/-- The slots of the plan follow one another. -/
theorem layDown_apart (hrise : TimesRise times B) (hroom : LeavesRoom times B limit placed)
    (h : StandAt times i bands) (hB : i + bands.length = B) :
    (layDown placed i (boundaryTime times i + costBefore placed i) bands).Pairwise
      fun x y => x.start + x.cost ≤ y.start := by
  induction bands generalizing i with
  | nil => exact slotsAt_apart hroom i
  | cons b bs ih =>
    rw [List.length_cons] at hB
    have hB' : i + 1 + bs.length = B := by omega
    have hrest := fun y hy => le_start_of_mem_layDown (x := y) hrise hroom h.tail hB' hy
    have hnext := h.head
    rw [layDown_cons h]
    refine List.pairwise_append.mpr ⟨slotsAt_apart hroom i, List.pairwise_cons.mpr ⟨fun y hy => ?_, ih h.tail hB'⟩,
      fun x hx y hy => ?_⟩
    · have hle := hrest y hy
      dsimp only
      omega
    · obtain ⟨p, hp, rfl, rfl⟩ := mem_slotsAt.mp hx
      have hclear : p.slot.start + p.slot.cost ≤ _ := hroom.clears p hp (by omega)
      rcases List.mem_cons.mp hy with rfl | hy
      · exact hclear
      · have hle := hrest y hy
        omega

/-- Every slot of the plan ends by the limit, when the costs of all bands and all placed slots do. -/
theorem layDown_within (hrise : TimesRise times B) (hroom : LeavesRoom times B limit placed)
    (h : StandAt times i bands) (hB : i + bands.length = B)
    (hsum : boundaryTime times B + placedCost placed ≤ limit) {x : Slot}
    (hx : x ∈ layDown placed i (boundaryTime times i + costBefore placed i) bands) : x.start + x.cost ≤ limit := by
  rcases mem_layDown h hx with ⟨p, hp, -, rfl⟩ | ⟨k, -, hk, -, hend⟩
  · exact hroom.within p hp
  · rw [hend]
    exact (Nat.add_le_add (hrise _ _ (by omega) le_rfl) (costBefore_le placed _)).trans hsum

/-- The bands of the plan are those laid down, when no placed slot is a band's. -/
theorem layDown_band (hkind : ∀ p ∈ placed, p.item.kind.band? = none) (x : Nat) :
    (layDown placed i x bands).filterMap (fun s => s.kind.band?) = bands.filterMap fun b => b.kind.band? := by
  have hnone : ∀ b, (slotsAt placed b).filterMap (fun s => s.kind.band?) = [] := fun b =>
    List.filterMap_eq_nil_iff.mpr fun s hs => by
      obtain ⟨p, hp, -, rfl⟩ := mem_slotsAt.mp hs
      exact hkind p hp
  induction bands generalizing i x with
  | nil => exact hnone i
  | cons b bs ih => simp only [layDown, List.filterMap_append, hnone, List.nil_append, List.filterMap_cons, ih]

end LaidDown

/-! ### A plan and its limit -/

/-- The slots follow one another, and the tail starts when the last of them ends, by the limit. -/
structure Plan.Fits (plan : Plan) (limit : Nat) : Prop where
  apart : plan.slots.Pairwise fun x y => x.start + x.cost ≤ y.start
  ends : ∀ x ∈ plan.slots, x.start + x.cost ≤ plan.tail
  tail_le : plan.tail ≤ limit

/-- Slots that follow one another end by the end of the last. -/
theorem end_le_endOfSlots {slots : List Slot} (h : slots.Pairwise fun x y => x.start + x.cost ≤ y.start) {x : Slot}
    (hx : x ∈ slots) : x.start + x.cost ≤ endOfSlots slots := by
  rcases List.eq_nil_or_concat slots with rfl | ⟨init, last, rfl⟩
  · cases hx
  · rw [List.concat_eq_append] at h hx ⊢
    rw [endOfSlots, List.getLast?_append_cons, List.getLast?_singleton]
    rcases List.mem_append.mp hx with hx | hx
    · obtain ⟨-, -, hlast⟩ := List.pairwise_append.mp h
      exact (hlast x hx last (List.mem_singleton_self _)).trans (Nat.le_add_right _ _)
    · rw [List.mem_singleton.mp hx]

theorem endOfSlots_le {slots : List Slot} {limit : Nat} (h : ∀ x ∈ slots, x.start + x.cost ≤ limit) :
    endOfSlots slots ≤ limit := by
  unfold endOfSlots
  split
  next => exact Nat.zero_le _
  next x hlast => exact h x (List.mem_of_getLast? hlast)

/-- Slots between `lo` and `hi` that follow one another have no more cost than lies between. -/
theorem cost_sum_le {slots : List Slot} (h : slots.Pairwise fun x y => x.start + x.cost ≤ y.start) {lo hi : Nat}
    (hlo : ∀ x ∈ slots, lo ≤ x.start) (hhi : ∀ x ∈ slots, x.start + x.cost ≤ hi) (hle : lo ≤ hi) :
    lo + (slots.map Slot.cost).sum ≤ hi := by
  induction slots generalizing lo with
  | nil => exact hle
  | cons x xs ih =>
    obtain ⟨hfirst, hrest⟩ := List.pairwise_cons.mp h
    have hx := hlo x List.mem_cons_self
    have hsum := ih hrest hfirst (fun y hy => hhi y (List.mem_cons_of_mem _ hy)) (hhi x List.mem_cons_self)
    rw [List.map_cons, List.sum_cons]
    omega

theorem Plan.Fits.cost_sum_le {plan : Plan} {limit : Nat} (h : plan.Fits limit) :
    (plan.slots.map Slot.cost).sum ≤ limit := by
  have hsum := Machine.cost_sum_le h.apart (fun x _ => Nat.zero_le x.start) h.ends (Nat.zero_le _)
  have htail := h.tail_le
  omega

theorem Plan.Fits.mono {plan : Plan} {limit limit' : Nat} (h : plan.Fits limit) (hle : limit ≤ limit') :
    plan.Fits limit' := ⟨h.apart, h.ends, h.tail_le.trans hle⟩

/-- Bands and placed slots that leave room make a plan that fits, when their costs together do. -/
theorem assemble_fits {placed : List PlacedTouch} {bands : List BandItem} {limit : Nat}
    (hroom : LeavesRoom (boundaries 0 (bands.map BandItem.cost)) bands.length limit placed)
    (hsum : (bands.map BandItem.cost).sum + placedCost placed ≤ limit) : (assemble placed bands).Fits limit := by
  have hrise := boundaries_timesRise (bands.map BandItem.cost)
  have hlast := boundaryTime_length (bands.map BandItem.cost)
  rw [List.length_map] at hrise hlast
  have hzero : boundaryTime (boundaries 0 (bands.map BandItem.cost)) 0 + costBefore placed 0 = 0 := by
    rw [costBefore_zero, boundaryTime_boundaries _ _ _ (Nat.zero_le _)]
    simp
  have hstand := standAt_boundaries bands
  have hapart := layDown_apart hrise hroom hstand (Nat.zero_add _)
  have hwithin := fun x hx => layDown_within (x := x) hrise hroom hstand (Nat.zero_add _) (by rwa [hlast]) hx
  rw [hzero] at hapart hwithin
  exact ⟨hapart, fun x hx => end_le_endOfSlots hapart hx, endOfSlots_le hwithin⟩

/-- A plan holds one slot for each of its band items, in band order, when no placed slot is a band's. -/
theorem assemble_bandItems_band {placed : List PlacedTouch} (hkind : ∀ p ∈ placed, p.item.kind.band? = none)
    (t : Timing) (polarity : FramePolarity) (refreshed : Nat → Bool) (lines : List Nat) :
    (assemble placed (bandItems t polarity refreshed 0 lines)).slots.filterMap (fun x => x.kind.band?) =
      List.range lines.length := by
  rw [assemble, layDown_band hkind, bandItems_band, List.range_eq_range']

theorem bandPlan_fits (bands : List BandItem) : (bandPlan bands).Fits (bands.map BandItem.cost).sum :=
  assemble_fits (leavesRoom_nil _ _ _) le_rfl

/-- A plan without placed slots costs what its bands cost. -/
theorem layDown_nil_cost (bands : List BandItem) (i x : Nat) :
    (layDown [] i x bands).map Slot.cost = bands.map BandItem.cost := by
  induction bands generalizing i x with
  | nil => rfl
  | cons b bs ih => simp [layDown, slotsAt, ih]

/-! ### What the fill admits (R51) -/

@[simp] theorem admitsBand_nil (k : Nat) : admitsBand [] k = false := rfl

theorem fill_sublist (cost : FillItem → Nat) (T total : Nat) (xs : List FillItem) :
    (fill cost T total xs).Sublist xs := by
  induction xs generalizing total with
  | nil => exact List.Sublist.refl _
  | cons x xs ih =>
    rw [fill]
    split
    · exact (ih _).cons_cons x
    · exact (ih _).cons x

/-- The running total stays at or below T. -/
theorem fill_total_le (cost : FillItem → Nat) (T total : Nat) (xs : List FillItem) (h : total ≤ T) :
    total + ((fill cost T total xs).map cost).sum ≤ T := by
  induction xs generalizing total with
  | nil => exact h
  | cons x xs ih =>
    rw [fill]
    split
    next hfits =>
      have hsum := ih _ hfits
      rw [List.map_cons, List.sum_cons]
      omega
    next => exact ih _ h

theorem insertDescending_perm {α : Type} (key : α → Nat) (x : α) (ys : List α) :
    (insertDescending key x ys).Perm (x :: ys) := by
  induction ys with
  | nil => exact List.Perm.refl _
  | cons y ys ih =>
    rw [insertDescending]
    split
    · exact List.Perm.refl _
    · exact (ih.cons y).trans (List.Perm.swap x y ys)

theorem sortDescending_perm {α : Type} (key : α → Nat) (xs : List α) : (sortDescending key xs).Perm xs := by
  induction xs with
  | nil => exact List.Perm.refl _
  | cons x xs ih => exact (insertDescending_perm key x _).trans (ih.cons x)

theorem getElem?_of_mem_indexBands {i k : Nat} {bs : List SnapBand} {b : SnapBand} (h : (k, b) ∈ indexBands i bs) :
    i ≤ k ∧ bs[k - i]? = some b := by
  induction bs generalizing i with
  | nil => cases h
  | cons c cs ih =>
    rcases List.mem_cons.mp h with heq | hmem
    · obtain ⟨rfl, rfl⟩ := Prod.mk.inj heq
      simp
    · obtain ⟨hle, hget⟩ := ih hmem
      exact ⟨by omega, by rw [show k - i = k - (i + 1) + 1 by omega]; exact hget⟩

namespace Snapshot

variable (sn : Snapshot)

theorem getElem?_of_mem_deferrables {k : Nat} {b : SnapBand} (h : (k, b) ∈ sn.deferrables) : sn.bands[k]? = some b :=
  (getElem?_of_mem_indexBands (List.mem_filter.mp ((sortDescending_perm _ _).mem_iff.mp h)).1).2

/-- Each band item offered carries its band's line count. -/
theorem lineCount_of_mem_items {j l : Nat} (h : FillItem.band j l ∈ sn.items) : sn.lineCounts.getD j 0 = l := by
  have hband : FillItem.band j l ∈ sn.deferrables.map fun x => FillItem.band x.1 x.2.lines := by
    unfold items at h
    split at h
    · exact h
    · simpa using h
  obtain ⟨⟨k, b⟩, hmem, heq⟩ := List.mem_map.mp hband
  obtain ⟨rfl, rfl⟩ := FillItem.band.inj heq
  simp [lineCounts, List.getD_eq_getElem?_getD, sn.getElem?_of_mem_deferrables hmem]

theorem lineCount_of_mem_admitted {j l : Nat} (h : FillItem.band j l ∈ sn.admitted) :
    sn.lineCounts.getD j 0 = l := by
  unfold admitted at h
  split at h
  · cases h
  · exact sn.lineCount_of_mem_items ((fill_sublist _ _ _ _).mem h)

/-- What is admitted, on top of C_base, keeps to the frame's length, stretched or not (R50, R51). -/
theorem admitted_total_le : sn.baseCost + (sn.admitted.map sn.addedCost).sum ≤ sn.builtLength := by
  unfold admitted builtLength
  cases h : sn.stretches with
  | true => simp
  | false =>
    have hbase : sn.baseCost ≤ sn.length := by
      rw [stretches, decide_eq_false_iff_not] at h
      omega
    exact fill_total_le _ _ _ _ hbase

theorem length_le_builtLength : sn.length ≤ sn.builtLength := by
  unfold builtLength
  split
  next h => exact Nat.le_of_lt (of_decide_eq_true h)
  next => exact le_rfl

/-- What refreshing band `k` adds to a skip. -/
def refreshExtra (k : Nat) : Nat := refreshCost sn.timing (sn.lineCounts.getD k 0) - sn.timing.tSkip

theorem touchItems_cost_cons_touch (g : SnapGroup) (xs : List FillItem) :
    ((sn.touchItems (.touch g :: xs)).map TouchItem.cost).sum =
      sn.addedCost (.touch g) + ((sn.touchItems xs).map TouchItem.cost).sum := by
  cases h : sn.touch <;> simp [touchItems, addedCost, h]

theorem touchItems_cost_cons_listen (l : ListenItem) (xs : List FillItem) :
    ((sn.touchItems (.listen l :: xs)).map TouchItem.cost).sum =
      sn.addedCost (.listen l) + ((sn.touchItems xs).map TouchItem.cost).sum := by
  cases h : sn.touch <;> simp [touchItems, addedCost, h]

theorem touchItems_cons_band (j l : Nat) (xs : List FillItem) :
    sn.touchItems (.band j l :: xs) = sn.touchItems xs := by
  cases h : sn.touch <;> simp [touchItems, h]

/-- No touch or listen slot is a band's. -/
theorem band?_of_mem_touchItems {adm : List FillItem} {x : TouchItem} (hx : x ∈ sn.touchItems adm) :
    x.kind.band? = none := by
  unfold touchItems at hx
  split at hx
  · cases hx
  · obtain ⟨item, -, heq⟩ := List.mem_filterMap.mp hx
    cases item with
    | touch g => cases heq; rfl
    | band j l => cases heq
    | listen l => cases heq; rfl

/-- What the refreshes of the admitted bands add to skips. -/
def admittedExtra (adm : List FillItem) : Nat :=
  ∑ k ∈ Finset.range sn.bands.length, if admitsBand adm k = true then sn.refreshExtra k else 0

theorem admittedExtra_cons_band (j l : Nat) (xs : List FillItem) :
    sn.admittedExtra (.band j l :: xs) ≤ sn.refreshExtra j + sn.admittedExtra xs := by
  have hadmits : ∀ k, admitsBand (.band j l :: xs) k = (j == k || admitsBand xs k) := fun k => rfl
  have hone : (∑ k ∈ Finset.range sn.bands.length, if j = k then sn.refreshExtra k else 0) ≤ sn.refreshExtra j := by
    rw [Finset.sum_ite_eq]
    split <;> omega
  calc sn.admittedExtra (.band j l :: xs)
      ≤ ∑ k ∈ Finset.range sn.bands.length,
          ((if j = k then sn.refreshExtra k else 0) + if admitsBand xs k = true then sn.refreshExtra k else 0) := by
        refine Finset.sum_le_sum fun k _ => ?_
        rw [hadmits]
        by_cases hj : j = k <;> simp [hj]
    _ ≤ sn.refreshExtra j + sn.admittedExtra xs := by
        rw [Finset.sum_add_distrib]
        exact Nat.add_le_add_right hone _

/-- The admitted bands' refreshes and the touch and listen slots cost no more than the fill counted for them. -/
theorem admittedExtra_add_touchItems_le (adm : List FillItem)
    (hlines : ∀ j l, FillItem.band j l ∈ adm → sn.lineCounts.getD j 0 = l) :
    sn.admittedExtra adm + ((sn.touchItems adm).map TouchItem.cost).sum ≤ (adm.map sn.addedCost).sum := by
  induction adm with
  | nil => cases h : sn.touch <;> simp [admittedExtra, touchItems, h]
  | cons x xs ih =>
    replace ih := ih fun j l h => hlines j l (List.mem_cons_of_mem _ h)
    rw [List.map_cons, List.sum_cons]
    cases x with
    | touch g =>
      have hsame : sn.admittedExtra (.touch g :: xs) = sn.admittedExtra xs := rfl
      rw [hsame, touchItems_cost_cons_touch]
      omega
    | listen l =>
      have hsame : sn.admittedExtra (.listen l :: xs) = sn.admittedExtra xs := rfl
      rw [hsame, touchItems_cost_cons_listen]
      omega
    | band j l =>
      have hextra : sn.addedCost (.band j l) = sn.refreshExtra j := by
        rw [refreshExtra, hlines j l List.mem_cons_self]
        rfl
      have hcons := sn.admittedExtra_cons_band j l xs
      rw [touchItems_cons_band, hextra]
      omega

/-! ### The budget of the built plan (R50, R51) -/

/-- A plan refreshes the MANDATORY bands, and the DEFERRABLE ones admitted (R50, R51). -/
theorem refreshes_of_getElem? {k : Nat} {b : SnapBand} (h : sn.bands[k]? = some b) (adm : List FillItem) :
    sn.refreshes adm k = (sn.classify b == .mandatory || (sn.classify b == .deferrable && admitsBand adm k)) := by
  cases hclass : sn.classify b <;> simp [refreshes, h, hclass]

/-- C_base is the cost of the bands when the fill admits none, with the blank. -/
theorem baseCost_eq :
    sn.baseCost =
      ((bandItems sn.timing (polarityOf sn.number) (sn.refreshes []) 0 sn.lineCounts).map BandItem.cost).sum +
        blankTime sn.timing := by
  have hrefreshes : ∀ k b, sn.bands[k]? = some b → sn.refreshes [] (0 + k) = (sn.classify b == .mandatory) := by
    intro k b hk
    rw [Nat.zero_add, sn.refreshes_of_getElem? hk, admitsBand_nil, Bool.and_false, Bool.or_false]
  rw [baseCost, lineCounts, bandItems_cost_of_records _ _ hrefreshes]

/-- The fill adds refreshes to the MANDATORY ones, of the bands it admits alone. -/
theorem refreshes_cases (adm : List FillItem) (k : Nat) :
    sn.refreshes adm k = sn.refreshes [] k ∨
      (admitsBand adm k = true ∧ sn.refreshes adm k = true ∧ sn.refreshes [] k = false) := by
  cases hband : sn.bands[k]? with
  | none => simp [refreshes, hband]
  | some b =>
    rw [sn.refreshes_of_getElem? hband, sn.refreshes_of_getElem? hband, admitsBand_nil]
    cases admitsBand adm k with
    | false => exact .inl rfl
    | true => cases sn.classify b <;> simp

/-- The bands of the built plan cost no more than in C_base, and what the admitted refreshes add. -/
theorem builtBands_cost_le :
    (sn.builtBands.map BandItem.cost).sum + blankTime sn.timing ≤ sn.baseCost + sn.admittedExtra sn.admitted := by
  have hlength : sn.lineCounts.length = sn.bands.length := List.length_map ..
  rw [baseCost_eq, builtBands, bandItems_cost_sum, bandItems_cost_sum, admittedExtra, Nat.add_right_comm, hlength,
    ← Finset.sum_add_distrib]
  refine Nat.add_le_add_right (Finset.sum_le_sum fun k _ => ?_) _
  rw [Nat.zero_add]
  rcases sn.refreshes_cases sn.admitted k with hsame | ⟨hadm, hyes, hno⟩
  · rw [hsame]
    exact Nat.le_add_right _ _
  · rw [hadm, hyes, hno, if_pos rfl, refreshExtra, bandCost, bandCost, if_pos rfl, if_neg Bool.false_ne_true]
    omega

/-- The bands, the touch and listen slots admitted, and the blank keep to the frame's length (R50, R51, R54). -/
theorem built_cost_le :
    (sn.builtBands.map BandItem.cost).sum + ((sn.touchItems sn.admitted).map TouchItem.cost).sum +
      blankTime sn.timing ≤ sn.builtLength := by
  have hbands := sn.builtBands_cost_le
  have hitems := sn.admittedExtra_add_touchItems_le sn.admitted fun j l => sn.lineCount_of_mem_admitted
  have htotal := sn.admitted_total_le
  omega

/-! ### The built and the fallback plan (R54) -/

/-- The touch and listen slots placed are some of those admitted. -/
theorem builtTouches_items : (sn.builtTouches.map PlacedTouch.item).Sublist (sn.touchItems sn.admitted) := by
  unfold builtTouches
  split
  · exact List.nil_sublist _
  · exact placeTouches_items _ _

theorem builtTouches_leavesRoom :
    LeavesRoom (boundaries 0 (sn.builtBands.map BandItem.cost)) sn.builtBands.length
      (sn.length - blankTime sn.timing) sn.builtTouches := by
  unfold builtTouches
  split
  · exact leavesRoom_nil _ _ _
  · have hrise := boundaries_timesRise (sn.builtBands.map BandItem.cost)
    rw [List.length_map] at hrise
    exact placeTouches_leavesRoom hrise (by rw [boundaries_length, List.length_map]) _ _

theorem builtPlan_fits : sn.builtPlan.Fits (sn.builtLength - blankTime sn.timing) := by
  have hcost := sn.built_cost_le
  have hplaced : placedCost sn.builtTouches ≤ ((sn.touchItems sn.admitted).map TouchItem.cost).sum := by
    have hsum := (sn.builtTouches_items.map TouchItem.cost).sum_le_sum fun _ _ => Nat.zero_le _
    rwa [List.map_map] at hsum
  have hlength := sn.length_le_builtLength
  exact assemble_fits (sn.builtTouches_leavesRoom.mono (by omega)) (by omega)

theorem fallbackPlan_fits : sn.fallbackPlan.Fits (sn.fallbackLength - blankTime sn.timing) := by
  refine (bandPlan_fits sn.fallbackBands).mono ?_
  have hle : sn.fallbackCost ≤ sn.fallbackLength := Nat.le_max_right _ _
  rw [fallbackCost] at hle
  omega

/-- The blank fits the frame before any slot does. -/
theorem blankTime_le_builtLength : blankTime sn.timing ≤ sn.builtLength :=
  (Nat.le_add_left _ _).trans sn.built_cost_le

theorem blankTime_le_fallbackLength : blankTime sn.timing ≤ sn.fallbackLength :=
  (Nat.le_add_left _ _).trans (Nat.le_max_right sn.length sn.fallbackCost)

/-- The built plan has one slot for each band, in band order. -/
theorem builtPlan_bands :
    sn.builtPlan.slots.filterMap (fun x => x.kind.band?) = List.range sn.bands.length := by
  have hkind : ∀ p ∈ sn.builtTouches, p.item.kind.band? = none := fun p hp =>
    sn.band?_of_mem_touchItems (sn.builtTouches_items.mem (List.mem_map_of_mem hp))
  rw [builtPlan, builtBands, assemble_bandItems_band hkind, lineCounts, List.length_map]

/-- The fallback plan has one slot for each band, in band order. -/
theorem fallbackPlan_bands :
    sn.fallbackPlan.slots.filterMap (fun x => x.kind.band?) = List.range sn.bands.length := by
  have hkind : ∀ p ∈ ([] : List PlacedTouch), p.item.kind.band? = none := fun _ h => absurd h List.not_mem_nil
  rw [fallbackPlan, bandPlan, fallbackBands, assemble_bandItems_band hkind, lineCounts, List.length_map]

end Snapshot

/-- The plan of frame 0 costs the full refresh, without the blank (R4, R43). -/
theorem fullPlan_cost (t : Timing) (polarity : FramePolarity) (lines : List Nat) :
    (fullPlan t polarity lines).slots.map Slot.cost = lines.map (refreshCost t) :=
  (layDown_nil_cost _ 0 0).trans (bandItems_cost_of_all t polarity 0 lines)

/-- Settles O22: the built and the fallback plan fit their lengths less the blank, and frame 0's costs are the full
refresh's. -/
theorem plansFitTheirFrame : Obligations.PlansFitTheirFrame := by
  refine ⟨fun sn plan length hplan => ?_, fun timing lines => ?_⟩
  · have hfits : plan.slots.filterMap (fun x => x.kind.band?) = List.range sn.bands.length ∧
        plan.Fits (length - blankTime sn.timing) ∧ blankTime sn.timing ≤ length ∧ sn.length ≤ length := by
      rcases hplan with ⟨rfl, rfl⟩ | ⟨rfl, rfl⟩
      · exact ⟨sn.builtPlan_bands, sn.builtPlan_fits, sn.blankTime_le_builtLength, sn.length_le_builtLength⟩
      · exact ⟨sn.fallbackPlan_bands, sn.fallbackPlan_fits, sn.blankTime_le_fallbackLength, Nat.le_max_left _ _⟩
    obtain ⟨hbands, hfit, hblank, hlength⟩ := hfits
    exact ⟨hbands, hfit.apart, hfit.ends, Nat.add_le_of_le_sub hblank hfit.tail_le,
      Nat.add_le_of_le_sub hblank hfit.cost_sum_le, hlength⟩
  · have hcost := congrArg (fun costs => costs.sum + blankTime timing) (fullPlan_cost timing .pos lines)
    exact ⟨hcost, hcost.le.trans (Nat.le_max_right _ _)⟩

end Sys2Proof.Machine

/-!
PROOF. FREQ_TABLE answers by the table of R97 (O34): the candidates it leaves, entry by entry, and its checks in order.
-/

namespace Sys2Proof.Machine

open Sys2Proof

/-- A port that takes requests places what the serve answers. -/
theorem takeRequest_of_takes {s : State} {q : Port} (h : s.takes q) (tag kind : Byte)
    (serve : State → State × Answer) :
    takeRequest q tag kind serve s = placeReply q tag kind (serve s).2 (serve s).1 := by
  have hlocks := h.portLocks_eq_false kind
  obtain ⟨hreset, hreply, -⟩ := h
  exact takeRequest_taken hreset hreply hlocks

/-! ### Entries of FREQ_TABLE -/

theorem freqEntryInRange_iff {e : FreqEntry} :
    freqEntryInRange e = true ↔ 40 ≤ e.period ∧ e.period ≤ 400 ∧ e.permission.isSome = true := by
  rw [freqEntryInRange, Bool.and_eq_true, inRange_iff, and_assoc]

/-- An absent permission does not stand for ALLOWED. -/
theorem freqSpecOf_permission_eq_allowed {e : FreqEntry} :
    (freqSpecOf e).permission = .allowed ↔ e.permission = some .allowed := by
  cases h : e.permission <;> simp [freqSpecOf, h]

/-! ### The candidates after FREQ_TABLE -/

/-- As many entries as candidates replace them one for one. -/
theorem replaceCandidates_eq_zipWith {olds : List Candidate} {news : List FreqSpec} (h : olds.length = news.length) :
    replaceCandidates olds news = List.zipWith Candidate.replaceWith olds news := by
  induction olds, news using replaceCandidates.induct with
  | case1 old olds new news ih => rw [replaceCandidates, List.zipWith_cons_cons, ih (Nat.succ.inj h)]
  | case2 news => rw [List.length_eq_zero_iff.mp h.symm]; rfl
  | case3 => cases h

/-- A permission is replaced whether or not the period changes. -/
theorem replaceCandidates_permission {olds : List Candidate} {news : List FreqSpec} (h : olds.length = news.length) :
    (replaceCandidates olds news).map Candidate.permission = news.map FreqSpec.permission := by
  induction olds, news using replaceCandidates.induct with
  | case1 old olds new news ih =>
    rw [replaceCandidates, List.map_cons, ih (Nat.succ.inj h), List.map_cons, Candidate.replaceWith]
  | case2 news => rw [replaceCandidates, List.map_map]; rfl
  | case3 => cases h

theorem allowedCount_eq_count (cs : List Candidate) :
    allowedCount cs = (cs.map Candidate.permission).count .allowed := by
  rw [allowedCount, ← List.countP_eq_length_filter, List.count, List.countP_map]
  rfl

/-- The ALLOWED candidates afterwards are the ALLOWED entries. -/
theorem allowedCount_replaceCandidates {olds : List Candidate} {entries : List FreqEntry}
    (h : olds.length = entries.length) :
    allowedCount (replaceCandidates olds (entries.map freqSpecOf)) =
      entries.countP fun e => decide (e.permission = some .allowed) := by
  rw [allowedCount_eq_count, replaceCandidates_permission (by rw [h, List.length_map]), List.map_map, List.count,
    List.countP_map]
  refine List.countP_congr fun e _ => ?_
  simp only [Function.comp_apply, beq_iff_eq, decide_eq_true_eq, freqSpecOf_permission_eq_allowed]

/-! ### FREQ_TABLE -/

/-- The state a FREQ_TABLE that passes its checks leaves. -/
def State.freqTable (s : State) (entries : List FreqEntry) (hysteresis hopHold : Nat) : State :=
  s.updTouch fun t =>
    { t with candidates := replaceCandidates t.candidates (entries.map freqSpecOf), hysteresis := hysteresis,
             hopHold := hopHold }

/-- A list of another length than six does not fit the kind (R166, check 3). -/
theorem serveFreqTable_of_length_ne {entries : List FreqEntry} (h : entries.length ≠ 6) (hysteresis hopHold : Nat)
    (s : State) : serveFreqTable entries hysteresis hopHold s = (s, refuse .badParam) := if_pos h

/-- The checks of R97 in order, on six entries. -/
theorem serveFreqTable_of_length_eq {entries : List FreqEntry} (h : entries.length = 6) (hysteresis hopHold : Nat)
    (s : State) :
    serveFreqTable entries hysteresis hopHold s =
      if (∃ e ∈ entries, ¬(40 ≤ e.period ∧ e.period ≤ 400 ∧ e.permission.isSome = true)) ∨ 8192 < hysteresis ∨
          ¬(1 ≤ hopHold ∧ hopHold ≤ 255) then (s, refuse .badParam)
      else if ∀ e ∈ entries, e.permission = some .banned then (s, refuse .badParam)
      else (s.freqTable entries hysteresis hopHold,
        accept (.freqTable s.touch.active
          (allowedCount (replaceCandidates s.touch.candidates (entries.map freqSpecOf))))) := by
  have hentries : entries.all freqEntryInRange = false ↔
      ∃ e ∈ entries, ¬(40 ≤ e.period ∧ e.period ≤ 400 ∧ e.permission.isSome = true) := by
    simp only [List.all_eq_false, freqEntryInRange_iff]
  have hhysteresis : inRange 0 8192 hysteresis = false ↔ 8192 < hysteresis := by simp [inRange]
  have hhold : inRange 1 255 hopHold = false ↔ ¬(1 ≤ hopHold ∧ hopHold ≤ 255) := by
    rw [← inRange_iff, Bool.not_eq_true]
  rw [serveFreqTable, if_neg (not_not_intro h)]
  simp only [hentries, hhysteresis, hhold, List.all_eq_true, beq_iff_eq]
  rfl

/-- Six entries over six candidates replace them one for one; a changed period forgets its average (R97). -/
theorem State.freqTable_eq {s : State} {entries : List FreqEntry} (h : s.touch.candidates.length = entries.length)
    (hysteresis hopHold : Nat) :
    s.freqTable entries hysteresis hopHold =
      { s with touch := { s.touch with
        candidates := List.zipWith (fun old e => old.replaceWith (freqSpecOf e)) s.touch.candidates entries
        hysteresis := hysteresis
        hopHold := hopHold } } := by
  rw [State.freqTable, State.updTouch, replaceCandidates_eq_zipWith (by rw [h, List.length_map]),
    List.zipWith_map_right]

/-- Settles O34: a list of another length is refused; on six entries the checks of R97 one after the other, then the
candidates replaced one for one. -/
theorem freqTableByTable : Obligations.FreqTableByTable := by
  intro q tag entries hysteresis hopHold s htakes
  have hexec : exec (.freqTable q tag entries hysteresis hopHold) s =
      .next (takeRequest q tag 0x0C (serveFreqTable entries hysteresis hopHold) s) := rfl
  rw [hexec]
  refine ⟨fun hlength => ?_, fun hlength hsix => ?_⟩
  · rw [takeRequest_of_takes htakes, serveFreqTable_of_length_ne hlength]
  · have hsame : s.touch.candidates.length = entries.length := hsix.trans hlength.symm
    refine answersWith_of_servedBy htakes ?_
    rw [serveFreqTable_of_length_eq hlength]
    iterate 2 refine servedBy_ite (by decide) fun _ => ?_
    refine servedBy_accept ⟨State.freqTable_eq hsame hysteresis hopHold, ?_⟩
    rw [allowedCount_replaceCandidates hsame]

end Sys2Proof.Machine

/-!
PROOF. WINDOW_OPEN answers by the table of R116 (O39): the bands a window lends by their indices, the window that R117
normalises, and the checks of R116 in order.
-/

namespace Sys2Proof.Machine

open Sys2Proof

/-- `servedBy_ite` where the serve tests the check by a condition of its own. -/
theorem servedBy_ite_of_iff {s : State} {rest : List (Prop × OutcomeCode)} {ok : State → Results → Prop}
    {refusal : OutcomeCode → Results} {bad test : Prop} [Decidable test] {code : OutcomeCode} {served : State × Answer}
    (hcode : code ≠ .ok) (htest : test ↔ bad) (hrest : ServedBy s rest ok refusal served) :
    ServedBy s ((bad, code) :: rest) ok refusal
      (if test then (s, { outcome := code, results := refusal code }) else served) := by
  obtain rfl : test = bad := propext htest
  exact servedBy_ite hcode fun _ => hrest

/-! ### The bands a window lends (R29, R118) -/

/-- The band at place `k` from index `i` and line `l` on starts where the `k` bands before it end (R22). -/
theorem getElem?_placeBands (i l k : Nat) (bs : List Band) :
    (placeBands i l bs)[k]? =
      bs[k]?.map fun b => { index := i + k, first := l + ((bs.take k).map Band.lines).sum, band := b } := by
  induction bs generalizing i l k with
  | nil => rfl
  | cons b bs ih =>
    cases k with
    | zero => rfl
    | succ k =>
      simp only [placeBands, List.getElem?_cons_succ, ih, List.take_succ_cons, List.map_cons, List.sum_cons]
      rw [Nat.add_right_comm i 1 k, Nat.add_assoc l]
      rfl

/-- A window lends the NORMAL bands that lie wholly in its panel range. -/
theorem lends_iff {w : Window} {x : Placed} :
    lends w x = true ↔ x.band.cls = .normal ∧ w.panelBase ≤ x.first ∧ x.stop ≤ w.panelEnd := by
  simp only [lends, Bool.and_eq_true, beq_iff_eq, decide_eq_true_eq, and_assoc]

namespace BandTable

variable (t : BandTable) (w : Window)

theorem getElem?_placed (k : Nat) :
    t.placed[k]? = t.records[k]?.map fun b => { index := k, first := t.firstLine k, band := b } := by
  simp only [placed, getElem?_placeBands, Nat.zero_add, firstLine]

theorem mem_placed {x : Placed} :
    x ∈ t.placed ↔ ∃ k b, t.records[k]? = some b ∧ { index := k, first := t.firstLine k, band := b } = x := by
  simp only [List.mem_iff_getElem?, getElem?_placed, Option.map_eq_some_iff]

/-- The placed bands stand in index order. -/
theorem placed_map_index : t.placed.map Placed.index = List.range t.records.length := by
  refine List.ext_getElem? fun k => ?_
  rw [List.getElem?_map, getElem?_placed, Option.map_map]
  by_cases hk : k < t.records.length
  · simp [hk]
  · simp [Nat.le_of_not_lt hk]

/-- Band `j` of the table is one that the window, once OPEN, lends (R29). -/
def lendsAt (j : Nat) : Prop :=
  ∃ b, t.records[j]? = some b ∧ b.cls = .normal ∧ w.panelBase ≤ t.firstLine j ∧ t.firstLine j + b.lines ≤ w.panelEnd

/-- The indices of the bands the window lends. -/
def lentIndices : List Nat := (lentBands t w).map Placed.index

variable {t w}

theorem mem_lentIndices {j : Nat} : j ∈ t.lentIndices w ↔ t.lendsAt w j := by
  simp only [lentIndices, lentBands, List.mem_map, List.mem_filter, mem_placed, lends_iff]
  constructor
  · rintro ⟨x, ⟨⟨k, b, hb, rfl⟩, hx⟩, rfl⟩
    exact ⟨b, hb, hx⟩
  · rintro ⟨b, hb, hx⟩
    exact ⟨_, ⟨⟨j, b, hb, rfl⟩, hx⟩, rfl⟩

theorem lentIndices_sorted : (t.lentIndices w).Pairwise (· < ·) := by
  have hsub : (t.lentIndices w).Sublist (List.range t.records.length) :=
    t.placed_map_index ▸ List.filter_sublist.map Placed.index
  exact List.pairwise_lt_range.sublist hsub

/-- The reply counts every band lent once. -/
theorem countsBands_lentBands : CountsBands t.records.length (t.lendsAt w) (lentBands t w).length := by
  refine ⟨t.lentIndices w, lentIndices_sorted.imp Nat.ne_of_lt, fun j => ?_, (List.length_map ..).symm⟩
  rw [mem_lentIndices]
  refine ⟨fun h => ⟨?_, h⟩, And.right⟩
  obtain ⟨b, hb, -⟩ := h
  exact (List.getElem?_eq_some_iff.mp hb).1

theorem firstLent_eq_head? : firstLent t w = (t.lentIndices w).head?.getD 0xFF := by
  rw [firstLent, lentIndices, List.head?_map]

/-- The first band lent is the one with no band lent before it. -/
theorem firstLent_of_least {j : Nat} (h : t.lendsAt w j) (hleast : ∀ k, k < j → ¬t.lendsAt w k) : firstLent t w = j := by
  have hsorted : (t.lentIndices w).Pairwise (· < ·) := lentIndices_sorted
  rw [firstLent_eq_head?]
  simp only [← mem_lentIndices] at h hleast
  cases hindices : t.lentIndices w with
  | nil => simp [hindices] at h
  | cons k ks =>
    rw [hindices] at h hleast hsorted
    have hge : ¬k < j := fun hlt => hleast k hlt List.mem_cons_self
    rcases List.mem_cons.mp h with rfl | hmem
    · rfl
    · exact absurd (List.rel_of_pairwise_cons hsorted hmem) hge

theorem firstLent_of_none (h : ∀ j, ¬t.lendsAt w j) : firstLent t w = 0xFF := by
  have hnil : t.lentIndices w = [] := List.eq_nil_iff_forall_not_mem.mpr fun j hj => h j (mem_lentIndices.mp hj)
  rw [firstLent_eq_head?, hnil]
  rfl

end BandTable

/-! ### The window WINDOW_OPEN would open (R117) -/

/-- A limit of 0 or outside the window's full size is set aside; any other is stored and ends the panel range. -/
theorem windowFrom_eq (cb pb z limit : Nat) :
    windowFrom cb pb z limit =
      { canvasBase := cb, panelBase := pb, sizeCode := z
        storedLimit := if limit = 0 ∨ limit < pb ∨ pb + 2 ^ z < limit then 0 else limit
        panelEnd := if limit = 0 ∨ limit < pb ∨ pb + 2 ^ z < limit then pb + 2 ^ z else limit } := by
  unfold windowFrom normaliseLimit
  split <;> rfl

/-! ### The checks of R116 -/

theorem slotOpen_iff {slots : List (Option Window)} {i : Nat} :
    (slots.getD i none).isSome = true ↔ ∃ v, slots[i]? = some (some v) := by
  rw [List.getD_eq_getElem?_getD]
  rcases slots[i]? with - | - | v <;> simp

/-- Two half-open ranges share a line exactly when the later start lies before the earlier end. -/
theorem rangesMeet_iff {a b c d : Nat} :
    rangesMeet a b c d = true ↔ ∃ line, a ≤ line ∧ line < b ∧ c ≤ line ∧ line < d := by
  rw [rangesMeet, decide_eq_true_eq]
  refine ⟨fun h => ⟨max a c, ?_⟩, fun ⟨line, h⟩ => ?_⟩ <;> omega

theorem overlapsAny_iff {slots : List (Option Window)} {w : Window} :
    overlapsAny slots w = true ↔ ∃ v, some v ∈ slots ∧
      ((∃ line, v.panelBase ≤ line ∧ line < v.panelEnd ∧ w.panelBase ≤ line ∧ line < w.panelEnd) ∨
        ∃ line, v.canvasBase ≤ line ∧ line < canvasEnd v ∧ w.canvasBase ≤ line ∧ line < canvasEnd w) := by
  simp only [overlapsAny, windowsOverlap, List.any_eq_true, Option.any_eq_true, Bool.or_eq_true, rangesMeet_iff]
  exact ⟨fun ⟨_, hmem, v, hv, h⟩ => ⟨v, hv ▸ hmem, h⟩, fun ⟨v, hmem, h⟩ => ⟨some v, hmem, v, rfl, h⟩⟩

/-! ### WINDOW_OPEN -/

/-- Settles O39: the checks of R116 one after the other on the window that R117 normalises, then the bands it lends
counted and the first of them named (R118). -/
theorem windowOpenByTable : Obligations.WindowOpenByTable := by
  intro q tag i cb pb z limit s htakes size aside stored pe shares lends
  let w : Window := { canvasBase := cb, panelBase := pb, sizeCode := z, storedLimit := stored, panelEnd := pe }
  have hwindow : windowFrom cb pb z limit = w := windowFrom_eq cb pb z limit
  have hlends : lends = s.cluster.bands.lendsAt w := rfl
  have hsize : inRange 4 11 z = false ↔ ¬(4 ≤ z ∧ z ≤ 11) := by rw [← inRange_iff, Bool.not_eq_true]
  refine answersWith_of_servedBy htakes ?_
  rw [serveWindowOpen, hwindow, hlends]
  refine servedBy_ite_of_iff (by decide) Iff.rfl ?_
  refine servedBy_ite_of_iff (by decide) (by rw [hsize]) ?_
  refine servedBy_ite_of_iff (by decide) Iff.rfl ?_
  refine servedBy_ite_of_iff (by decide) slotOpen_iff ?_
  refine servedBy_ite_of_iff (by decide) Iff.rfl ?_
  refine servedBy_ite_of_iff (by decide) overlapsAny_iff ?_
  exact servedBy_accept ⟨_, _, BandTable.countsBands_lentBands, fun _ => BandTable.firstLent_of_least,
    BandTable.firstLent_of_none, rfl, rfl⟩

end Sys2Proof.Machine

/-!
PROOF. RECOVER and CLEAR_FAULT (O50): RECOVER by the checks of R158, the causes a CLEAR_FAULT leaves and refuses by the
table of R160, and the fault line of R159.
-/

namespace Sys2Proof.Machine

open Sys2Proof

/-! ### RECOVER -/

theorem MonitorState.ne_fault_iff {x : MonitorState} : x ≠ .fault ↔ x = .off ∨ x = .running := by
  cases x <;> decide

/-- RECOVER by the checks of R158: only a monitor in FAULT begins a new period, and no cause is cleared. -/
theorem recover_answersBy {s : State} {q : Port} (htakes : s.takes q) (tag : Byte) :
    AnswersBy q tag 0x1A (exec (.recover q tag) s) s
      [(q = .media, .notPermitted), (s.monitor.state = .off ∨ s.monitor.state = .running, .wrongState)]
      { s with monitor := s.monitor.begin s.count }
      (.recover s.monitor.period s.monitor.fraction s.monitor.openStart s.monitor.reason) := by
  refine answersWith_of_servedBy htakes (serve := serveRecover q) ?_
  refine servedBy_ite (by decide) fun _ => ?_
  refine servedBy_ite_of_iff (by decide) MonitorState.ne_fault_iff ?_
  exact servedBy_accept ⟨rfl, rfl⟩

/-! ### The causes that cannot be cleared (R160) -/

theorem State.keepsSupervision_iff {s : State} : s.keepsSupervision = true ↔ s.monitor.state = .fault := beq_iff_eq

theorem State.anyDrain_iff {s : State} : s.anyDrain = true ↔ ∃ p, (s.panel p).power.state = .drain := by
  rw [State.anyDrain, Bool.or_eq_true, beq_iff_eq, beq_iff_eq]
  constructor
  · rintro (hcluster | hcentre)
    · exact ⟨.cluster, hcluster⟩
    · exact ⟨.centre, hcentre⟩
  · rintro ⟨p, hdrain⟩
    cases p with
    | cluster => exact .inl hdrain
    | centre => exact .inr hdrain

theorem State.anyDrain_eq_false_iff {s : State} :
    s.anyDrain = false ↔ s.cluster.power.state ≠ .drain ∧ s.centre.power.state ≠ .drain := by
  rw [State.anyDrain, Bool.or_eq_false_iff, beq_eq_false_iff_ne, beq_eq_false_iff_ne]

theorem State.keepsPower_iff {s : State} :
    s.keepsPower = true ↔ s.faults.power = true ∧ ∃ p, (s.panel p).power.state = .drain := by
  rw [State.keepsPower, Bool.and_eq_true, State.anyDrain_iff]

/-! ### The causes after CLEAR_FAULT (R160) -/

/-- A set cause is cleared exactly where the condition for it holds; a clear one stays clear. -/
theorem and_not_eq_ite {cause clears : Bool} {P : Prop} [Decidable P] (h : cause = true → (clears = true ↔ P)) :
    (cause && !clears) = if P then false else cause := by
  cases cause with
  | false => exact (ite_self false).symm
  | true =>
    by_cases hP : P
    · rw [if_pos hP, (h rfl).mpr hP]; rfl
    · rw [if_neg hP, Bool.eq_false_iff.mpr (mt (h rfl).mp hP)]; rfl

/-- A named cause is cleared, but for SUPERVISION in FAULT and POWER while a panel is in DRAIN. -/
theorem State.causesAfter_eq (s : State) (m : CauseMask) :
    s.causesAfter m =
      { supervision := if m.supervision = true ∧ ¬s.monitor.state = .fault then false else s.faults.supervision
        integrity := if m.integrity = true then false else s.faults.integrity
        power := if m.power = true ∧ s.cluster.power.state ≠ .drain ∧ s.centre.power.state ≠ .drain then false
          else s.faults.power } := by
  rw [State.causesAfter, Causes.mk.injEq]
  refine ⟨and_not_eq_ite fun _ => ?_, and_not_eq_ite fun _ => Iff.rfl, and_not_eq_ite fun hset => ?_⟩
  · rw [Bool.and_eq_true, Bool.not_eq_true', Bool.eq_false_iff, ne_eq, State.keepsSupervision_iff]
  · rw [Bool.and_eq_true, Bool.not_eq_true', State.keepsPower, hset, Bool.true_and, State.anyDrain_eq_false_iff]

/-! ### CLEAR_FAULT -/

/-- A CLEAR_FAULT that names no cause, or something that is none, is BAD_PARAM. -/
theorem serveClearFault_of_bad {m : CauseMask}
    (h : ¬(m.supervision = true ∨ m.integrity = true ∨ m.power = true) ∨ m.other = true) (s : State) :
    serveClearFault .supervisor m s = (s, refuse .badParam) := by
  have hbad : m.other = true ∨ (m.supervision = false ∧ m.integrity = false ∧ m.power = false) := by
    simpa only [not_or, Bool.not_eq_true] using h.symm
  rw [serveClearFault, if_neg (by decide), if_pos hbad]

/-- Every other CLEAR_FAULT clears what may be cleared; its outcome says whether a named cause was refused. -/
theorem serveClearFault_of_named {m : CauseMask}
    (hnamed : m.supervision = true ∨ m.integrity = true ∨ m.power = true) (hother : m.other = false) (s : State) :
    serveClearFault .supervisor m s =
      ({ s with faults := s.causesAfter m },
       { outcome := if (m.supervision && s.keepsSupervision) || (m.power && s.keepsPower) then .wrongState else .ok
         results := .causes s.faults (s.causesAfter m) }) := by
  have hgood : ¬(m.other = true ∨ (m.supervision = false ∧ m.integrity = false ∧ m.power = false)) := by
    rintro (h | ⟨hsupervision, hintegrity, hpower⟩)
    · exact absurd h (by rw [hother]; decide)
    · simp only [hsupervision, hintegrity, hpower, Bool.false_eq_true, or_self] at hnamed
  rw [serveClearFault, if_neg (by decide), if_neg hgood]

/-- A named cause is refused: SUPERVISION in FAULT, or a set POWER while a panel is in DRAIN. -/
theorem clearFault_refuses_iff {s : State} {m : CauseMask} :
    ((m.supervision && s.keepsSupervision) || (m.power && s.keepsPower)) = true ↔
      (m.supervision = true ∧ s.monitor.state = .fault) ∨
        (m.power = true ∧ s.faults.power = true ∧ ∃ p, (s.panel p).power.state = .drain) := by
  rw [Bool.or_eq_true, Bool.and_eq_true, Bool.and_eq_true, State.keepsSupervision_iff, State.keepsPower_iff]

/-! ### The fault line -/

theorem State.faultLine_iff {s : State} :
    s.faultLine = true ↔ s.faults.supervision = true ∨ s.faults.integrity = true ∨ s.faults.power = true := by
  rw [State.faultLine, Bool.or_eq_true, Bool.or_eq_true, or_assoc]

/-- Settles O50: the checks of R158, the table of R160 as each named cause may be cleared or not, and the fault line of
R159. -/
theorem recoverAndClearFault : Obligations.RecoverAndClearFault := by
  intro q tag s htakes m
  refine ⟨recover_answersBy htakes tag, ?_, State.faultLine_iff⟩
  intro causes named keepsSupervision keepsPower after refused run done
  have hrun : run = .next (placeReply q tag 0x1B (serveClearFault q causes s).2 (serveClearFault q causes s).1) :=
    congrArg Host.Outcome.next (takeRequest_of_takes htakes tag 0x1B (serveClearFault q causes))
  have hafter : s.causesAfter causes = after := s.causesAfter_eq causes
  refine ⟨?_, ?_, ?_, ?_⟩
  · rintro rfl
    exact hrun
  · rintro rfl hbad
    rw [hrun, serveClearFault_of_bad hbad]
  · rintro rfl hnamed hother hcleared
    show run = _
    rw [hrun, serveClearFault_of_named hnamed hother, hafter, if_neg (mt clearFault_refuses_iff.mp hcleared)]
  · rintro rfl hnamed hother hrefused
    show run = _
    rw [hrun, serveClearFault_of_named hnamed hother, hafter, if_pos (clearFault_refuses_iff.mpr hrefused)]

end Sys2Proof.Machine

/-!
PROOF. What a step can do, said once: the effects of the requests and of the device's events with the checks that guard
them (`Effect`), what works in a reset too (`Outer`), and the bookkeeping of the ports and of the queue of commands
(`Bookkeeping`). Every step is a chain of these (`step_moves`), so a predicate they keep is kept by every step.
-/

namespace Sys2Proof.Machine

open Sys2Proof

/-! ### The moves a step is made of -/

/-- Bookkeeping: the queue of commands, the counter of free values, the mark of a REQUESTED reset, and changes of a port
that post no notice. -/
inductive Bookkeeping (s : State) : State → Prop
  | queue (is : List Instr) : Bookkeeping s { s with pending := is }
  | free (n : Nat) : Bookkeeping s { s with free := n }
  | requested : Bookkeeping s { s with resetLogic := { s.resetLogic with requested := true } }
  | port (q : Port) (f : PortState → PortState) (h : ∀ x, (f x).queue.length ≤ x.queue.length) :
    Bookkeeping s (s.updPort q f)

/-- The effects that set up the device, open or close windows and grants, or move the monitor, with the checks they
passed. Each needs a device that is not in a reset. -/
inductive Setup (s : State) : State → Prop
  | configure (p : Panel) (t : Timing) (hstate : s.configurable p = true)
      (hheld : t.nAct ≠ (s.panel p).timing.nAct → s.layoutHeld p = false) (hrange : timingInRange t = true)
      (hrelated : timingRelated t (s.panel p).lock.settings = true) (hcost : configCost (s.panel p) t ≤ t.tMax) :
    Setup s (s.updPanel p (PanelState.configure t))
  | lockMode (p : Panel) (r : LockRequest) (settings : LockSettings) (hsettings : lockSettingsOf r = some settings)
      (hoffset : settings.partnerOffset < (s.panel p).timing.tMax)
      (hpartner : ¬(settings.source = .partner ∧ (s.panel (otherPanel p)).lock.settings.source = .partner)) :
    Setup s (s.lockModeTold p settings)
  | bandLayout (p : Panel) (bMax : Nat) (layout : List BandSpec) (hstate : s.configurable p = true)
      (hheld : s.layoutHeld p = false) (hcount : inRange 1 32 layout.length = true) (hmax : inRange 1 7 bMax = true)
      (hentry : ∀ b ∈ layout, 8 ≤ b.lines ∧ inRange 1 15 b.holdLimit = true)
      (hsum : (layout.map BandSpec.lines).sum = (s.panel p).timing.nAct)
      (hcentre : p = .centre → ∀ b ∈ layout, b.cls = .normal)
      (hcost : fullRefreshCost (s.panel p).timing (layout.map BandSpec.lines) ≤ (s.panel p).timing.tMax) :
    Setup s (s.updPanel p fun x => { x with bands := .fresh bMax layout })
  | lineWatch (p : Panel) (q : Port) (position : Nat) (content : Option Watch)
      (hport : q = .media → s.mediaEnabled = true) :
    Setup s (s.updPanel p fun x => x.setWatches q ((x.watches q).put position content))
  | crcSet (band : Nat) (crc : Crc) (limit : Nat) (b : Placed) (hb : s.bandAt .cluster band = some b)
      (hclass : b.band.cls ≠ .normal) (hlimit : limit ≤ 7) :
    Setup s (dropExpectation band ((if limit = 0 then s else replaceLimit limit s).updBands .cluster
      (modifyBand band (Band.setCheck (some crc)))))
  | touchGroups (specs : List GroupSpec) (r : ScanRequest) (scan : ScanSettings) (hstate : s.touch.state = .disabled)
      (hcount : inRange 1 16 specs.length = true)
      (hentry : ∀ g ∈ specs, g.id ≤ 15 ∧ inRange 1 8 g.interval = true ∧ inRange 8 255 g.bursts = true)
      (hids : specs.Pairwise fun g h => g.id ≠ h.id) (hscan : scanSettingsOf r = some scan) :
    Setup s (s.updTouch fun t => { t with groups := (sortGroups specs).map Group.fresh, scan := scan })
  | freqTable (specs : List FreqSpec) (hysteresis hopHold : Nat) (hcount : specs.length = 6)
      (hperiod : ∀ c ∈ specs, inRange 40 400 c.period = true) (hallowed : ∃ c ∈ specs, c.permission = .allowed)
      (hhysteresis : inRange 0 8192 hysteresis = true) (hhold : inRange 1 255 hopHold = true) :
    Setup s (s.updTouch fun t =>
      { t with candidates := replaceCandidates t.candidates specs, hysteresis := hysteresis, hopHold := hopHold })
  | backlight (p : Panel) (r : DimmerRequest) (settings : DimmerSettings)
      (hsettings : dimmerSettingsOf r = some settings) :
    Setup s (s.updDimmer p fun d => { d with settings := settings })
  | windowOpen (i : Nat) (w : Window) (n : Notice) (hindex : i ≤ 3) (hstate : s.monitor.state ≠ .fault)
      (hclosed : s.windows.slots.getD i none = none) :
    Setup s (post .media n { s with windows := { s.windows with slots := s.windows.slots.set i (some w) } })
  | windowClose (i : Nat) (w : Window) (hopen : s.windows.slots.getD i none = some w) :
    Setup s (closeWindow i w .request s)
  | writeOpen (q : Port) (p : Panel) (first last lifetime : Nat) (hport : q = .media → s.mediaEnabled = true)
      (hrange : first ≤ last) (hlast : last < (s.panel p).bands.records.length) (hlife : lifetime ≤ 63)
      (hstate : (s.panel p).power.state = .ready ∨ (s.panel p).power.state = .scanning)
      (howner : ∀ b ∈ s.bandsIn p first last, s.owner p b = ownerOfPort q) (hmeets : s.grantMeets p first last = false)
      (hroom : s.grants.records.length < Config.grantLimit) (hport' : (s.grantsOf q).length < Config.grantPortLimit) :
    Setup s { s with grants := s.grants.append (s.newGrant q p first last lifetime) }
  | panelOn (p : Panel) (tA tB tC : Nat) (ha : tA ≤ 255) (hb : tB ≤ 255) (hc : tC ≤ 255)
      (hstate : (s.panel p).power.state = .off) : Setup s (turnOn p tA tB tC s)
  | superviseStart (w f : Nat) (hw : inRange 10 2000 w = true ∨ w = s.monitor.defPeriod)
      (hf : (f = 25 ∨ f = 50 ∨ f = 75 ∨ f = 100) ∨ f = s.monitor.defFraction) :
    Setup s { s with
      monitor := Monitor.begin s.count { s.monitor with period := w, fraction := f, defPeriod := w, defFraction := f } }
  | newPeriod : Setup s { s with monitor := s.monitor.begin s.count }
  | enterFault (reason : FaultReason) (elapsed : Nat) : Setup s (enterFault reason elapsed s)
  | clearFault (m : CauseMask) : Setup s { s with faults := s.causesAfter m }
  | mediaEnable : Setup s { s with mediaEnabled := true }
  | mediaDisable (henabled : s.mediaEnabled = true) : Setup s (disableMedia s)
  | profileWrite (autoCluster autoCentre : Bool) (done : Tick) :
    Setup s { s with profile :=
      { s.profile with stored := none, writing := some { copy := s.liveProfile autoCluster autoCentre, done := done } } }
  | profileWriteDone (w : ProfileWriting) (hw : s.profile.writing = some w) : Setup s (finishWrite w s)

/-- The effects of the other requests taken OK, and of the device's own events with the condition that makes them due.
Each needs a device that is not in a reset. -/
inductive Running (s : State) : State → Prop
  | damagePanel (p : Panel) (ranges : List LineRange) : Running s (damagePanel p ranges s).1
  | damageCanvas (ranges : List LineRange) : Running s (damageCanvas ranges s).1
  | fullRefresh (p : Panel) : Running s (s.updBands p (markWhere fun _ => true))
  | subscribe (p : Panel) (q : Port) (on : Bool) :
    Running s (s.updPanel p fun x => { x with builder := x.builder.subscribe q on })
  | touchEnable : Running s (s.updTouch fun t => { t with state := .enabled, missing := 0 })
  | touchDisable : Running s (s.updTouch fun t => { t with state := .disabled })
  | writeClose (g : Grant) (crcs : List Crc) (hg : g ∈ s.grants.records) : Running s (closeGrant g crcs s)
  | panelStart (p : Panel) (hstate : (s.panel p).power.state = .ready) : Running s (startScanning p s)
  | panelStop (p : Panel) (hstate : (s.panel p).power.state = .scanning) : Running s (stopPanel p s)
  | panelOff (p : Panel) : Running s (offPanel p s)
  | timingLock (on : Bool) : Running s { s with timingLock := on }
  | planPoint (p : Panel) (hdue : s.planPointDue p = true) : Running s (planPoint p s)
  | buildComplete (p : Panel) (hdue : s.buildDue p = true) :
    Running s (s.updPanel p fun x => { x with builder := x.builder.complete })
  | frameEnd (p : Panel) (hdue : s.frameEndDue p = true) : Running s (frameEnd p s)
  | grantExpiry (id : Nat) (g : Grant) (hg : s.expiryDue id = some g) : Running s (expireGrant s g.hold)
  | passSlot (p : Panel) (slot : Slot) (i : Nat) (hslot : s.slotDue p = some slot)
      (hkind : slot.kind.band? = some i) (hb : s.bandAt p i = none) : Running s (passSlot p s)
  | startRefresh (p : Panel) (slot : Slot) (i : Nat) (polarity : FramePolarity) (b : Placed)
      (hslot : s.slotDue p = some slot) (hkind : slot.kind = .refresh i polarity) (hb : s.bandAt p i = some b) :
    Running s (startRefresh p b slot.cost (polarityOf (s.panel p).frame.number) s)
  | refreshSlotEnd (p : Panel) (d : Drive) :
    Running s (readyGrants p d.band (s.updSeq p fun e => { e with driving := e.driving.tail }))
  | startSkip (p : Panel) (slot : Slot) (i : Nat) (b : Placed) (hslot : s.slotDue p = some slot)
      (hkind : slot.kind = .skip i) (hb : s.bandAt p i = some b) : Running s (startSkip p b s)
  | touchSlot (slot : Slot) (id : Nat) (code : Byte) (bursts candidate period : Nat)
      (hslot : s.slotDue .centre = some slot) (hkind : slot.kind = .touch id code bursts candidate period) :
    Running s ((pauseFor slot.cost s).updTouch fun t =>
      Touch.command code bursts period candidate (some id) (s.count.after slot.cost)
        { t with groups := zeroAge id t.groups })
  | listenSlot (slot : Slot) (candidate period bursts : Nat) (hslot : s.slotDue .centre = some slot)
      (hkind : slot.kind = .listen candidate period bursts) :
    Running s ((pauseFor slot.cost s).updTouch fun t =>
      Touch.command 0 bursts period candidate none (s.count.after slot.cost)
        { t with listenPtr := nextCandidate candidate })
  | blankStart (p : Panel) :
    Running s (sendLink p (.idleBlank (blankTime (s.panel p).timing))
      (s.updSeq p fun e => { e with blankBegun := true }))
  | pwmEdge (p : Panel) (freeLevel : Bool) (hdue : s.edgeDue p = true) :
    Running s ({ s with free := s.free + 1 }.updDimmer p (Dimmer.drive freeLevel))
  | markerEdge (p : Panel) (hscan : s.scanning p = true) : Running s (s.updPanel p (takeEdge s.count))
  | partnerMarker (p : Panel) (hdue : s.partnerDue p = true) :
    Running s (s.updPanel p fun x =>
      useMarker s.count id { x with lock := { x.lock with inFlight := x.lock.inFlight.tail } })
  | bandReport (e : Expectation) (crc : Crc) (he : e ∈ s.cluster.link.expectations) :
    Running s (compareReport e crc (dropExpectation e.band s))
  | senseResult (tag : Byte) (n : Nat) : Running s (s.updTouch (Touch.takeResult tag n))
  | resultDeadline (tag : Byte) : Running s (s.updTouch (Touch.expire tag s.count))
  | suspended (tag : Byte) (n : Notice) : Running s (post .media n (s.updTouch (Touch.expire tag s.count)))
  | gateWait (p : Panel) (hdue : s.stepDue p .gateWait = true) : Running s (endGateWait p s)
  | settle (p : Panel) (powerGood : Bool) (hdue : s.stepDue p .settle = true) : Running s (endSettle p powerGood s)
  | discharge (p : Panel) (hdue : s.stepDue p .discharge = true) : Running s (endDischarge p s)
  | losePower (p : Panel) (hwatched : s.watchesPower p = true) : Running s (losePower p s)
  | beginHold : Running s (beginHold s)
  | endHold : Running s (endHold s)

/-- What a request taken OK or an event does. -/
inductive Effect (s t : State) : Prop
  | setup (h : Setup s t)
  | running (h : Running s t)

/-- What takes place in a reset too: the levels of input pins, the resets themselves, and the passing of a tu, which
needs that no event is due. -/
inductive Outer (s : State) : State → Prop
  | powerGood (p : Panel) (level : Bool) : Outer s (s.updPower p fun w => { w with powerGood := level })
  | warningPin (level : Bool) : Outer s { s with supply := { s.supply with warningPin := level } }
  | beginReset (cause : ResetCause) : Outer s (beginReset cause s)
  | finishReset (h : HeldReset) (hheld : s.resetLogic.held = some h) : Outer s (finishReset h s)
  | tick (hquiet : s.dueEvents = []) : Outer s (tick s)

/-- One move of a step. -/
inductive Move (s t : State) : Prop
  | bookkeeping (h : Bookkeeping s t)
  | effect (hreset : s.inReset = false) (h : Effect s t)
  | outer (h : Outer s t)

/-- A chain of moves. -/
abbrev Moves : State → State → Prop := Relation.ReflTransGen Move

theorem Bookkeeping.moves {s t : State} (h : Bookkeeping s t) : Moves s t := .single (.bookkeeping h)

theorem Outer.moves {s t : State} (h : Outer s t) : Moves s t := .single (.outer h)

theorem Effect.moves {s t : State} (hreset : s.inReset = false) (h : Effect s t) : Moves s t :=
  .single (.effect hreset h)

/-- The effect of a taken request, or nothing where it is refused or reads. -/
def EffectOrSame (s t : State) : Prop := t = s ∨ Effect s t

theorem EffectOrSame.refl (s : State) : EffectOrSame s s := .inl rfl

theorem Setup.orSame {s t : State} (h : Setup s t) : EffectOrSame s t := .inr (.setup h)

theorem Running.orSame {s t : State} (h : Running s t) : EffectOrSame s t := .inr (.running h)

theorem EffectOrSame.moves {s t : State} (hreset : s.inReset = false) (h : EffectOrSame s t) : Moves s t := by
  obtain rfl | h := h
  · exact .refl
  · exact h.moves hreset

end Sys2Proof.Machine

/-!
PROOF. Every request taken is one effect or none: the serve of each request, by the checks it passes.
-/

namespace Sys2Proof.Machine

open Sys2Proof

section Served

variable {s : State}

/-- A check that fails refuses the request and changes nothing. -/
theorem EffectOrSame.check {bad : Prop} [Decidable bad] {a : Answer} {x : State × Answer}
    (h : ¬bad → EffectOrSame s x.1) : EffectOrSame s (if bad then (s, a) else x).1 := by
  by_cases hbad : bad
  · rw [if_pos hbad]; exact .refl s
  · rw [if_neg hbad]; exact h hbad

/-- Checks 1 and 2 of a power request. -/
theorem EffectOrSame.target (q : Port) (panel : Nat) {x : Panel → State × Answer}
    (h : ∀ p, EffectOrSame s (x p).1) :
    EffectOrSame s (match powerTarget q panel with | .error a => (s, a) | .ok p => x p).1 := by
  cases powerTarget q panel with
  | error a => exact .refl s
  | ok p => exact h p

theorem bnot_eq_false {b : Bool} (h : ¬b = false) : b = true := by simpa using h

theorem servePanelConfig_effect (q : Port) (panel : Nat) (t : Timing) :
    EffectOrSame s (servePanelConfig q panel t s).1 := by
  unfold servePanelConfig
  refine .check fun _ => .check fun _ => ?_
  cases panelOf panel with
  | none => exact .refl s
  | some p =>
    refine .check fun hstate => .check fun hheld => .check fun hrange => .check fun hrelated => .check fun hcost => ?_
    refine (Setup.configure p t (bnot_eq_false hstate) (fun hne => ?_) (bnot_eq_false hrange)
      (bnot_eq_false hrelated) (Nat.le_of_not_lt hcost)).orSame
    exact Bool.eq_false_iff.mpr fun h => hheld ⟨hne, h⟩

theorem serveLockMode_effect (q : Port) (panel : Nat) (r : LockRequest) :
    EffectOrSame s (serveLockMode q panel r s).1 := by
  unfold serveLockMode
  refine .check fun _ => .check fun _ => ?_
  cases panelOf panel with
  | none => exact .refl s
  | some p =>
    cases hsettings : lockSettingsOf r with
    | none => exact .refl s
    | some settings =>
      refine .check fun hoffset => .check fun hpartner => ?_
      exact (Setup.lockMode p r settings hsettings (Nat.lt_of_not_le hoffset) hpartner).orSame

/-- A layout whose entries pass the checks of R25. -/
theorem bandSpecOf_checked {list : Carried BandEntry} {bandCount : Nat}
    (hcount : inRange 1 32 bandCount = true) (hlist : list.counts bandCount = true)
    (hentry : list.entries.all bandEntryInRange = true)
    (hlines : list.entries.all (fun e => decide (8 ≤ e.lines)) = true) :
    inRange 1 32 (list.entries.map bandSpecOf).length = true ∧
      ∀ b ∈ list.entries.map bandSpecOf, 8 ≤ b.lines ∧ inRange 1 15 b.holdLimit = true := by
  obtain ⟨-, rfl⟩ := (Carried.counts_iff list bandCount).mp hlist
  refine ⟨by rwa [List.length_map], fun b hb => ?_⟩
  obtain ⟨e, he, rfl⟩ := List.mem_map.mp hb
  have hlimit := List.all_eq_true.mp hentry e he
  rw [bandEntryInRange, Bool.and_eq_true] at hlimit
  exact ⟨by simpa [bandSpecOf] using List.all_eq_true.mp hlines e he, hlimit.2⟩

theorem serveBandLayout_effect (q : Port) (panel bMax bandCount : Nat) (list : Carried BandEntry) :
    EffectOrSame s (serveBandLayout q panel bMax bandCount list s).1 := by
  unfold serveBandLayout
  refine .check fun _ => ?_
  cases panelOf panel with
  | none => exact .refl s
  | some p =>
    refine .check fun hstate => .check fun hheld => .check fun hcount => .check fun hentry => .check fun hlines =>
      .check fun hcentre => .check fun hcost => ?_
    simp only [not_or, Bool.not_eq_false, ne_eq, Decidable.not_not] at hstate hcount hentry hlines
    obtain ⟨hcount, hlist, hmax⟩ := hcount
    obtain ⟨hlines, hsum⟩ := hlines
    obtain ⟨hlength, hall⟩ := bandSpecOf_checked hcount hlist hentry hlines
    refine (Setup.bandLayout p bMax _ hstate (by simpa using hheld) hlength hmax hall ?_ ?_
      (Nat.le_of_not_lt hcost)).orSame
    · rw [List.map_map]; exact hsum
    · intro hp b hb
      have hguard : ¬(b.cls == .guarded) = true := fun h => hcentre ⟨hp, List.any_eq_true.mpr ⟨b, hb, h⟩⟩
      cases hcls : b.cls with
      | normal => rfl
      | guarded => exact absurd (by rw [hcls]; rfl) hguard

theorem serveDamage_effect (q : Port) (target : Option DamageTarget) (rangeCount : Nat) (list : Carried LineRange) :
    EffectOrSame s (serveDamage q target rangeCount list s).1 := by
  unfold serveDamage
  cases target with
  | none => exact .refl s
  | some target =>
    refine .check fun _ => .check fun _ => .check fun _ => .check fun _ => ?_
    cases target with
    | cluster => exact (Running.damagePanel .cluster _).orSame
    | centre => exact (Running.damagePanel .centre _).orSame
    | canvas => exact (Running.damageCanvas _).orSame

theorem serveFullRefresh_effect (q : Port) (panel : Nat) : EffectOrSame s (serveFullRefresh q panel s).1 := by
  unfold serveFullRefresh
  refine .check fun _ => ?_
  cases panelOf panel with
  | none => exact .refl s
  | some p => exact (Running.fullRefresh p).orSame

theorem serveSubscribe_effect (q : Port) (panel : Nat) (setting : Option Bool) :
    EffectOrSame s (serveSubscribe q panel setting s).1 := by
  unfold serveSubscribe
  cases panelOf panel with
  | none => exact .refl s
  | some p =>
    cases setting with
    | none => exact .refl s
    | some on => exact (Running.subscribe p q on).orSame

theorem serveLineWatch_effect (q : Port) (panel position line : Nat) (mode : Option WatchMode)
    (hport : q = .media → s.mediaEnabled = true) : EffectOrSame s (serveLineWatch q panel position line mode s).1 := by
  unfold serveLineWatch
  cases panelOf panel with
  | none => exact .refl s
  | some p =>
    refine .check fun _ => ?_
    by_cases hline : line = 0xFFFF
    · rw [if_pos hline]; exact (Setup.lineWatch p q position none hport).orSame
    · rw [if_neg hline]
      cases mode with
      | none => exact .refl s
      | some mode =>
        refine .check fun _ => .check fun _ => ?_
        exact (Setup.lineWatch p q position _ hport).orSame

theorem serveCrcSet_effect (q : Port) (band : Nat) (crc : Crc) (limit : Nat) :
    EffectOrSame s (serveCrcSet q band crc limit s).1 := by
  unfold serveCrcSet
  refine .check fun _ => ?_
  cases hb : s.bandAt .cluster band with
  | none => exact .refl s
  | some b =>
    refine .check fun hclass => .check fun hlimit => ?_
    exact (Setup.crcSet band crc limit b hb hclass (Nat.le_of_not_lt hlimit)).orSame

theorem distinctIds_pairwise {entries : List GroupEntry} (h : distinctIds entries = true) :
    (entries.map groupSpecOf).Pairwise fun g h => g.id ≠ h.id := by
  induction entries with
  | nil => exact .nil
  | cons e es ih =>
    rw [distinctIds, Bool.and_eq_true, List.all_eq_true] at h
    obtain ⟨hhead, htail⟩ := h
    refine .cons (fun g hg => ?_) (ih htail)
    obtain ⟨x, hx, rfl⟩ := List.mem_map.mp hg
    exact fun heq => absurd (hhead x hx) (by simpa [groupSpecOf] using heq.symm)

theorem serveTouchGroups_effect (scan : ScanRequest) (groupCount : Nat) (list : Carried GroupEntry) :
    EffectOrSame s (serveTouchGroups scan groupCount list s).1 := by
  unfold serveTouchGroups
  refine .check fun hstate => .check fun hcount => .check fun hids => .check fun hentry => ?_
  cases hscan : scanSettingsOf scan with
  | none => exact .refl s
  | some settings =>
    simp only [not_or, Bool.not_eq_false, ne_eq, Decidable.not_not] at hstate hcount hids hentry
    obtain ⟨hcount, hlist⟩ := hcount
    obtain ⟨hid, hdistinct⟩ := hids
    obtain ⟨-, rfl⟩ := (Carried.counts_iff list groupCount).mp hlist
    refine (Setup.touchGroups (list.entries.map groupSpecOf) scan settings hstate (by rwa [List.length_map]) ?_
      (distinctIds_pairwise hdistinct) hscan).orSame
    intro g hg
    obtain ⟨e, he, rfl⟩ := List.mem_map.mp hg
    have hfields := List.all_eq_true.mp hentry e he
    rw [groupEntryInRange, Bool.and_eq_true, Bool.and_eq_true] at hfields
    exact ⟨(inRange_iff.mp (List.all_eq_true.mp hid e he)).2, hfields.1.1, hfields.1.2⟩

theorem serveFreqTable_effect (entries : List FreqEntry) (hysteresis hopHold : Nat) :
    EffectOrSame s (serveFreqTable entries hysteresis hopHold s).1 := by
  unfold serveFreqTable
  refine .check fun hcount => .check fun hentry => .check fun hbanned => ?_
  simp only [not_or, Bool.not_eq_false, ne_eq, Decidable.not_not] at hcount hentry
  obtain ⟨hentry, hhysteresis, hhold⟩ := hentry
  have hin := fun e he => freqEntryInRange_iff.mp (List.all_eq_true.mp hentry e he)
  refine (Setup.freqTable (entries.map freqSpecOf) hysteresis hopHold (by rwa [List.length_map]) ?_ ?_
    hhysteresis hhold).orSame
  · intro c hc
    obtain ⟨e, he, rfl⟩ := List.mem_map.mp hc
    exact inRange_iff.mpr ⟨(hin e he).1, (hin e he).2.1⟩
  · rw [Bool.not_eq_true, List.all_eq_false] at hbanned
    obtain ⟨e, he, hne⟩ := hbanned
    refine ⟨freqSpecOf e, List.mem_map.mpr ⟨e, he, rfl⟩, freqSpecOf_permission_eq_allowed.mpr ?_⟩
    obtain ⟨x, hx⟩ := Option.isSome_iff_exists.mp (hin e he).2.2
    cases x with
    | allowed => exact hx
    | banned => exact absurd (by rw [hx]; rfl) hne

theorem serveBacklight_effect (q : Port) (panel : Nat) (r : DimmerRequest) :
    EffectOrSame s (serveBacklight q panel r s).1 := by
  unfold serveBacklight
  refine .check fun _ => .check fun _ => ?_
  cases panelOf panel with
  | none => exact .refl s
  | some p =>
    cases hsettings : dimmerSettingsOf r with
    | none => exact .refl s
    | some settings =>
      refine .check fun _ => ?_
      exact (Setup.backlight p r settings hsettings).orSame

theorem serveWindowOpen_effect (q : Port) (i cb pb z limit : Nat) :
    EffectOrSame s (serveWindowOpen q i cb pb z limit s).1 := by
  unfold serveWindowOpen
  refine .check fun _ => .check fun hindex => .check fun hstate => .check fun hclosed => .check fun _ =>
    .check fun _ => ?_
  exact (Setup.windowOpen i _ _ (by omega) hstate (by simpa using hclosed)).orSame

theorem serveWindowClose_effect (q : Port) (i : Nat) : EffectOrSame s (serveWindowClose q i s).1 := by
  unfold serveWindowClose
  refine .check fun _ => .check fun _ => ?_
  cases hopen : s.windows.slots.getD i none with
  | none => exact .refl s
  | some w => exact (Setup.windowClose i w hopen).orSame

theorem serveWriteOpen_effect (q : Port) (panel first last lifetime : Nat) (hport : q = .media → s.mediaEnabled = true) :
    EffectOrSame s (serveWriteOpen q panel first last lifetime s).1 := by
  unfold serveWriteOpen
  cases panelOf panel with
  | none => exact .refl s
  | some p =>
    refine .check fun hrange => .check fun hstate => .check fun howner => .check fun hmeets => .check fun hroom => ?_
    simp only [Bool.not_eq_false, List.all_eq_true, beq_iff_eq, Bool.not_eq_true] at howner hmeets
    exact (Setup.writeOpen q p first last lifetime hport (by omega) (by omega) (by omega) (by tauto) howner hmeets
      (by omega) (by omega)).orSame

theorem serveWriteClose_effect (q : Port) (id : Nat) (list : Carried Crc) :
    EffectOrSame s (serveWriteClose q id list s).1 := by
  unfold serveWriteClose
  cases hg : s.grantNamed q id with
  | none => exact .refl s
  | some g =>
    refine .check fun _ => ?_
    exact (Running.writeClose g list.entries (List.mem_of_find?_eq_some hg)).orSame

theorem servePanelOn_effect (q : Port) (panel tA tB tC : Nat) : EffectOrSame s (servePanelOn q panel tA tB tC s).1 := by
  refine .target q panel fun p => .check fun htimes => .check fun hstate => ?_
  exact (Setup.panelOn p tA tB tC (by omega) (by omega) (by omega) (not_not.mp hstate)).orSame

theorem servePanelStart_effect (q : Port) (panel : Nat) : EffectOrSame s (servePanelStart q panel s).1 :=
  .target q panel fun p => .check fun hstate => (Running.panelStart p (not_not.mp hstate)).orSame

theorem servePanelStop_effect (q : Port) (panel : Nat) : EffectOrSame s (servePanelStop q panel s).1 :=
  .target q panel fun p => .check fun hstate => (Running.panelStop p (not_not.mp hstate)).orSame

theorem servePanelOff_effect (q : Port) (panel : Nat) : EffectOrSame s (servePanelOff q panel s).1 :=
  .target (x := fun p => (offPanel p s, accept (.power ((offPanel p s).panel p).power.reply))) q panel fun p =>
    (Running.panelOff p).orSame

theorem fractionInRange_cases {f : Nat} (h : fractionInRange f = true) :
    f = 0 ∨ f = 25 ∨ f = 50 ∨ f = 75 ∨ f = 100 := by
  simpa [fractionInRange, or_assoc] using h

theorem serveSuperviseStart_effect (q : Port) (period fraction : Nat) :
    EffectOrSame s (serveSuperviseStart q period fraction s).1 := by
  unfold serveSuperviseStart
  refine .check fun _ => .check fun hfields => .check fun _ => (Setup.superviseStart _ _ ?_ ?_).orSame
  · simp only [inRange_iff, not_or] at hfields ⊢
    split
    · exact .inr rfl
    · exact .inl (by omega)
  · simp only [not_or, Bool.not_eq_false] at hfields
    obtain ⟨-, -, hfraction⟩ := hfields
    split
    · exact .inr rfl
    · exact .inl ((fractionInRange_cases hfraction).resolve_left ‹_›)

theorem serveKeepalive_effect (q : Port) : EffectOrSame s (serveKeepalive q s).1 := by
  unfold serveKeepalive
  refine .check fun _ => ?_
  cases s.monitor.state with
  | off => exact .refl s
  | fault => exact .refl s
  | running =>
    by_cases hopen : s.monitor.openStart ≤ s.monitor.elapsed.toNat
    · simp only [if_pos hopen]; exact Setup.newPeriod.orSame
    · simp only [if_neg hopen]; exact (Setup.enterFault .early _).orSame

theorem serveRecover_effect (q : Port) : EffectOrSame s (serveRecover q s).1 :=
  .check fun _ => .check fun _ => Setup.newPeriod.orSame

theorem serveClearFault_effect (q : Port) (m : CauseMask) : EffectOrSame s (serveClearFault q m s).1 := by
  unfold serveClearFault
  exact .check fun _ => .check fun _ => (Setup.clearFault m).orSame

theorem serveMediaEnable_effect (q : Port) : EffectOrSame s (serveMediaEnable q s).1 :=
  .check fun _ => Setup.mediaEnable.orSame

theorem serveMediaDisable_effect (q : Port) : EffectOrSame s (serveMediaDisable q s).1 := by
  refine .check fun _ => ?_
  by_cases henabled : s.mediaEnabled = true
  · simp only [if_pos henabled]; exact (Setup.mediaDisable henabled).orSame
  · simp only [if_neg henabled]; exact .refl s

theorem serveSetTimingLock_effect (q : Port) (setting : Option Bool) :
    EffectOrSame s (serveSetTimingLock q setting s).1 := by
  unfold serveSetTimingLock
  refine .check fun _ => ?_
  cases setting with
  | none => exact .refl s
  | some on => exact (Running.timingLock on).orSame

theorem serveProfileWrite_effect (q : Port) (autoCluster autoCentre : Option Bool) :
    EffectOrSame s (serveProfileWrite q autoCluster autoCentre s).1 := by
  unfold serveProfileWrite
  refine .check fun _ => ?_
  cases autoCluster with
  | none => exact .refl s
  | some a =>
    cases autoCentre with
    | none => exact .refl s
    | some b => exact .check fun _ => (Setup.profileWrite a b _).orSame

theorem serveStatus_same (portion : Nat) : (serveStatus portion s).1 = s := by
  unfold serveStatus; split <;> rfl

theorem serveProfileRead_same (portion : Nat) : (serveProfileRead portion s).1 = s := by
  simp only [serveProfileRead, apply_ite Prod.fst, accept, ite_self]

/-- What a taken request can do: the effect of its checks passed, or nothing. -/
theorem serveRequest_effect (q : Port) (r : Request) (hport : s.portLocks q r.code = false) :
    EffectOrSame s (serveRequest q r s).1 := by
  have henabled : ∀ code : Byte, code ≠ 0x20 → code ≠ 0x1F → s.portLocks q code = false → q = .media →
      s.mediaEnabled = true := by
    rintro code h1 h2 hlocks rfl
    rw [State.portLocks, bne_iff_ne.mpr h1, bne_iff_ne.mpr h2, Bool.and_true, Bool.and_true, Bool.not_eq_false'] at hlocks
    exact hlocks
  cases r with
  | panelConfig panel t => exact servePanelConfig_effect q panel t
  | lockMode panel settings => exact serveLockMode_effect q panel settings
  | bandLayout panel bMax bandCount entries => exact serveBandLayout_effect q panel bMax bandCount entries
  | damage target rangeCount ranges => exact serveDamage_effect q target rangeCount ranges
  | fullRefresh panel => exact serveFullRefresh_effect q panel
  | subscribe panel setting => exact serveSubscribe_effect q panel setting
  | lineWatch panel position line mode =>
    exact serveLineWatch_effect q panel position line mode (henabled 0x07 (by decide) (by decide) hport)
  | crcSet band crc limit => exact serveCrcSet_effect q band crc limit
  | touchGroups scan groupCount entries => exact serveTouchGroups_effect scan groupCount entries
  | touchEnable => exact Running.touchEnable.orSame
  | touchDisable => exact Running.touchDisable.orSame
  | freqTable candidates hysteresis hopHold => exact serveFreqTable_effect candidates hysteresis hopHold
  | touchRead => exact .refl s
  | backlight panel settings => exact serveBacklight_effect q panel settings
  | windowOpen i cb pb z limit => exact serveWindowOpen_effect q i cb pb z limit
  | windowClose i => exact serveWindowClose_effect q i
  | windowRead => exact .refl s
  | writeOpen panel first last lifetime =>
    exact serveWriteOpen_effect q panel first last lifetime (henabled 0x12 (by decide) (by decide) hport)
  | writeClose id crcs => exact serveWriteClose_effect q id crcs
  | panelOn panel tA tB tC => exact servePanelOn_effect q panel tA tB tC
  | panelStart panel => exact servePanelStart_effect q panel
  | panelStop panel => exact servePanelStop_effect q panel
  | panelOff panel => exact servePanelOff_effect q panel
  | superviseStart period fraction => exact serveSuperviseStart_effect q period fraction
  | keepalive => exact serveKeepalive_effect q
  | recover => exact serveRecover_effect q
  | clearFault causes => exact serveClearFault_effect q causes
  | mediaEnable => exact serveMediaEnable_effect q
  | mediaDisable => exact serveMediaDisable_effect q
  | setTimingLock setting => exact serveSetTimingLock_effect q setting
  | status portion => exact .inl (serveStatus_same portion)
  | identify => exact .refl s
  | resetDevice => exact .refl s
  | profileWrite autoCluster autoCentre => exact serveProfileWrite_effect q autoCluster autoCentre
  | profileRead portion => exact .inl (serveProfileRead_same portion)

end Served

end Sys2Proof.Machine

/-!
PROOF. Every step is a chain of moves: request rows, transactions byte by byte, the device's own events, resets and the
passing of time.
-/

namespace Sys2Proof.Machine

open Sys2Proof

/-! ### Requests -/

/-- A request row is the taking of its request. -/
theorem exec_of_requestOfInstr {i : Instr} {q : Port} {tag : Byte} {r : Request}
    (h : requestOfInstr i = some (q, tag, r)) (s : State) :
    exec i s = .next (takeRequest q tag r.code (serveRequest q r) s) := by
  cases i <;> cases h <;> rfl

/-- A change of a port that posts no notice. -/
theorem updPort_moves {s : State} {q : Port} {f : PortState → PortState}
    (h : ∀ x, (f x).queue.length ≤ x.queue.length) : Moves s (s.updPort q f) := (Bookkeeping.port q f h).moves

/-- A reply placed in a port. -/
theorem placeReply_moves (q : Port) (tag kind : Byte) (a : Answer) (s : State) : Moves s (placeReply q tag kind a s) :=
  updPort_moves fun _ => Nat.le_refl _

theorem takeRequest_moves (q : Port) (tag : Byte) (r : Request) (s : State) :
    Moves s (takeRequest q tag r.code (serveRequest q r) s) := by
  rcases takeRequest_cases s q tag r.code (serveRequest q r) with
    ⟨-, h⟩ | ⟨-, -, h⟩ | ⟨-, -, -, h⟩ | ⟨hreset, -, hlocks, h⟩
  · rw [h]
  · rw [h]; exact updPort_moves fun _ => Nat.le_refl _
  · rw [h]; exact placeReply_moves ..
  · rw [h]; exact ((serveRequest_effect q r hlocks).moves hreset).trans (placeReply_moves ..)

/-! ### Transactions -/

theorem plainRequest_code {kind : Byte} {r : Request} (h : plainRequest kind = some r) : r.code = kind := by
  simpa using List.find?_some h

theorem spellRequest_code {kind : Byte} {f : Nat → Nat} {list : Carried (Nat → Nat)} {r : Request}
    (h : spellRequest kind f list = some r) : r.code = kind := by
  unfold spellRequest at h
  split at h <;> cases h
  all_goals exact BitVec.eq_of_toNat_eq (Eq.symm ‹kind.toNat = _›)

/-- The request that some bytes spell has the kind they were read for. -/
theorem requestOf_code {kind : Byte} {params : List Byte} {r : Request} (h : requestOf kind params = some r) :
    r.code = kind := by
  unfold requestOf at h
  split at h
  · split at h
    · cases h; exact plainRequest_code ‹_›
    · exact spellRequest_code h
  · cases h

theorem dispatch_moves (q : Port) (tag kind : Byte) (params : List Byte) (s : State) :
    Moves s (dispatch q tag kind params s) := by
  unfold dispatch
  split
  · exact placeReply_moves ..
  · split
    · exact placeReply_moves ..
    · split
      · exact placeReply_moves ..
      · rename_i r hr
        rw [← requestOf_code hr]
        exact takeRequest_moves ..

theorem judgeWrite_moves (q : Port) (rest : List Byte) (s : State) : Moves s (judgeWrite q rest s) := by
  unfold judgeWrite
  split
  · exact .refl
  · split
    · exact updPort_moves fun _ => Nat.le_refl _
    · split
      · exact updPort_moves fun _ => Nat.le_refl _
      · split
        · exact placeReply_moves ..
        · exact dispatch_moves ..

theorem deliver_moves (q : Port) (s : State) : Moves s (deliver q s) := by
  unfold deliver
  split
  · have hport : Moves s (s.updPort q PortState.deliverReply) :=
      updPort_moves fun _ => Nat.le_refl _
    dsimp only
    split
    · exact hport.trans Bookkeeping.requested.moves
    · exact hport
  · refine updPort_moves fun x => ?_
    simp

theorem readOut_moves (q : Port) (n : Nat) (s : State) : Moves s (readOut q n s) := by
  unfold readOut
  split
  · exact .refl
  · split
    · exact deliver_moves q s
    · exact .refl

theorem rejectTransaction_moves (q : Port) (n : Nat) (s : State) : Moves s (rejectTransaction q n s) := by
  have hshift : ∀ bytes, Moves s ({ s with free := s.free + 1 }.updPort q (PortState.shift bytes)) := fun _ =>
    (Bookkeeping.free _).moves.trans (updPort_moves fun _ => Nat.le_refl _)
  unfold rejectTransaction
  split
  · exact hshift _
  · exact (hshift _).trans (updPort_moves fun _ => Nat.le_refl _)

theorem transaction_moves (q : Port) (bytes : List Byte) (s : State) : Moves s (transaction q bytes s) := by
  have hshift : ∀ out, Moves s (s.updPort q (PortState.shift out)) := fun _ =>
    updPort_moves fun _ => Nat.le_refl _
  unfold transaction
  split
  · exact .refl
  · split
    · dsimp only
      split
      · exact hshift _
      · exact (hshift _).trans (judgeWrite_moves ..)
    · split
      · exact (hshift _).trans (readOut_moves ..)
      · exact rejectTransaction_moves ..

/-! ### The device's own events -/

/-- An event that acts under a condition of its own, outside a reset. -/
theorem unlessReset_moves {s : State} {f : State → State} (h : EffectOrSame s (f s)) : Moves s (unlessReset s f) := by
  rcases unlessReset_cases s f with ⟨-, hf⟩ | ⟨hreset, hf⟩
  · rw [hf]
  · rw [hf]; exact h.moves hreset

theorem EffectOrSame.due {s t : State} {c : Prop} [Decidable c] (h : c → Effect s t) :
    EffectOrSame s (if c then t else s) := by
  by_cases hc : c
  · rw [if_pos hc]; exact .inr (h hc)
  · rw [if_neg hc]; exact .refl s

theorem refreshSlotStart_moves {p : Panel} {s t : State} (h : execRefreshSlotStart p s = .next t) : Moves s t := by
  cases h
  refine unlessReset_moves ?_
  cases hslot : s.slotDue p with
  | none => exact .refl s
  | some slot =>
    cases hkind : slot.kind with
    | refresh i polarity =>
      simp only [hkind]
      cases hb : s.bandAt p i with
      | none => exact (Running.passSlot p slot i hslot (by rw [hkind]; rfl) hb).orSame
      | some b => exact (Running.startRefresh p slot i polarity b hslot hkind hb).orSame
    | skip => simp only [hkind]; exact .refl s
    | touch => simp only [hkind]; exact .refl s
    | listen => simp only [hkind]; exact .refl s

theorem skipSlotStart_moves {p : Panel} {s t : State} (h : execSkipSlotStart p s = .next t) : Moves s t := by
  cases h
  refine unlessReset_moves ?_
  cases hslot : s.slotDue p with
  | none => exact .refl s
  | some slot =>
    cases hkind : slot.kind with
    | skip i =>
      simp only [hkind]
      cases hb : s.bandAt p i with
      | none => exact (Running.passSlot p slot i hslot (by rw [hkind]; rfl) hb).orSame
      | some b => exact (Running.startSkip p slot i b hslot hkind hb).orSame
    | refresh => simp only [hkind]; exact .refl s
    | touch => simp only [hkind]; exact .refl s
    | listen => simp only [hkind]; exact .refl s

theorem touchSlotStart_moves {s t : State} (h : execTouchSlotStart s = .next t) : Moves s t := by
  cases h
  refine unlessReset_moves ?_
  cases hslot : s.slotDue .centre with
  | none => exact .refl s
  | some slot =>
    cases hkind : slot.kind with
    | touch id code bursts candidate period =>
      simp only [hkind]
      exact (Running.touchSlot slot id code bursts candidate period hslot hkind).orSame
    | refresh => simp only [hkind]; exact .refl s
    | skip => simp only [hkind]; exact .refl s
    | listen => simp only [hkind]; exact .refl s

theorem listenSlotStart_moves {s t : State} (h : execListenSlotStart s = .next t) : Moves s t := by
  cases h
  refine unlessReset_moves ?_
  cases hslot : s.slotDue .centre with
  | none => exact .refl s
  | some slot =>
    cases hkind : slot.kind with
    | listen candidate period bursts =>
      simp only [hkind]
      exact (Running.listenSlot slot candidate period bursts hslot hkind).orSame
    | refresh => simp only [hkind]; exact .refl s
    | skip => simp only [hkind]; exact .refl s
    | touch => simp only [hkind]; exact .refl s

theorem bandReport_effect (p : Panel) (frame : FrameNo) (band : Nat) (crc : Crc) (linkOk : Bool) (s : State) :
    EffectOrSame s (if linkOk then takeReport p frame band crc s else s) := by
  cases linkOk with
  | false => exact .refl s
  | true =>
    cases p with
    | centre => exact .refl s
    | cluster =>
      simp only [takeReport, if_true]
      cases he : s.expectationFor .cluster frame band with
      | none => exact .refl s
      | some e =>
        have hband : e.band = band := by
          have := List.find?_some he
          simp only [Bool.and_eq_true, beq_iff_eq] at this
          exact this.2
        subst hband
        exact (Running.bandReport e crc (List.mem_of_find?_eq_some he)).orSame

theorem resultDeadline_effect (tag : Byte) (s : State) :
    EffectOrSame s (if s.deadlineDue tag then
      let s1 := s.updTouch (Touch.expire tag s.count)
      if s.touch.state = .enabled ∧ s1.touch.state = .suspended then
        post .media (s.panelNotice .centre (.touchFrontendFault tag s1.touch.waits.length)) s1
      else s1
    else s) := by
  split
  · dsimp only
    split
    · exact (Running.suspended tag _).orSame
    · exact (Running.resultDeadline tag).orSame
  · exact .refl s

theorem refreshSlotEnd_moves {p : Panel} {s t : State} (h : execRefreshSlotEnd p s = .next t) : Moves s t := by
  cases h
  refine unlessReset_moves ?_
  cases s.slotEndDue p with
  | none => exact .refl s
  | some d => exact (Running.refreshSlotEnd p d).orSame

theorem grantExpiry_moves {id : Nat} {s t : State} (h : execGrantExpiry id s = .next t) : Moves s t := by
  cases h
  refine unlessReset_moves ?_
  cases hg : s.expiryDue id with
  | none => exact .refl s
  | some g => exact (Running.grantExpiry id g hg).orSame

theorem profileWriteDone_moves {s t : State} (h : execProfileWriteDone s = .next t) : Moves s t := by
  cases h
  refine unlessReset_moves ?_
  cases hdue : s.writeDue with
  | none => exact .refl s
  | some w =>
    unfold State.writeDue at hdue
    split at hdue
    · cases hdue
    · split at hdue
      · cases hdue; exact (Setup.profileWriteDone w ‹_›).orSame
      · cases hdue

theorem blankStart_effect (p : Panel) (s : State) :
    EffectOrSame s (if s.blankDue p then
      sendLink p (.idleBlank (blankTime (s.panel p).timing)) (s.updSeq p fun e => { e with blankBegun := true })
    else s) := .due fun _ => .running (.blankStart p)

theorem pwmEdge_effect (p : Panel) (s : State) :
    EffectOrSame s (if s.edgeDue p then
      { s with free := s.free + 1 }.updDimmer p (Dimmer.drive (Config.fullDutyTail p s.free))
    else s) := .due fun hdue => .running (.pwmEdge p _ hdue)

/-! ### Every step -/

/-- What a command that is no request can do. -/
theorem exec_moves_of_event {i : Instr} {s t : State} (hi : requestOfInstr i = none) (h : exec i s = .next t) :
    Moves s t := by
  cases i with
  | writeTransaction q bytes => cases h; exact transaction_moves q bytes s
  | readTransaction q bytes => cases h; exact transaction_moves q bytes s
  | profileWriteDone => exact profileWriteDone_moves h
  | planPoint p => cases h; exact unlessReset_moves (.due fun hdue => .running (.planPoint p hdue))
  | buildComplete p => cases h; exact unlessReset_moves (.due fun hdue => .running (.buildComplete p hdue))
  | frameEnd p => cases h; exact unlessReset_moves (.due fun hdue => .running (.frameEnd p hdue))
  | grantExpiry id => exact grantExpiry_moves h
  | refreshSlotStart p => exact refreshSlotStart_moves h
  | refreshSlotEnd p => exact refreshSlotEnd_moves h
  | skipSlotStart p => exact skipSlotStart_moves h
  | touchSlotStart => exact touchSlotStart_moves h
  | listenSlotStart => exact listenSlotStart_moves h
  | blankStart p => cases h; exact unlessReset_moves (blankStart_effect p s)
  | pwmEdge p => cases h; exact unlessReset_moves (pwmEdge_effect p s)
  | markerEdge p => cases h; exact unlessReset_moves (.due fun hdue => .running (.markerEdge p hdue.1))
  | partnerMarker p => cases h; exact unlessReset_moves (.due fun hdue => .running (.partnerMarker p hdue))
  | bandReport p frame band crc linkOk => cases h; exact unlessReset_moves (bandReport_effect p frame band crc linkOk s)
  | senseResult tag noise saturated linkOk => cases h; exact unlessReset_moves (.due fun _ => .running (.senseResult tag _))
  | resultDeadline tag => cases h; exact unlessReset_moves (resultDeadline_effect tag s)
  | gateWaitExpiry p => cases h; exact unlessReset_moves (.due fun hdue => .running (.gateWait p hdue))
  | settleExpiry p powerGood => cases h; exact unlessReset_moves (.due fun hdue => .running (.settle p powerGood hdue))
  | dischargeExpiry p => cases h; exact unlessReset_moves (.due fun hdue => .running (.discharge p hdue))
  | powerGoodLoss p =>
    cases h
    exact (Outer.powerGood p false).moves.trans (unlessReset_moves (.due fun hdue => .running (.losePower p hdue)))
  | supplyWarningAssert =>
    cases h
    refine (Outer.warningPin true).moves.trans (unlessReset_moves ?_)
    split
    · exact .refl _
    · exact Running.beginHold.orSame
  | supplyWarningRelease =>
    cases h
    exact (Outer.warningPin false).moves.trans (unlessReset_moves (.due fun _ => .running (.endHold)))
  | supervisionPeriodExpiry => cases h; exact unlessReset_moves (.due fun _ => .setup (.enterFault .missed _))
  | powerOnReset => cases h; exact (Outer.beginReset .powerOn).moves
  | brownOutReset => cases h; exact (Outer.beginReset .brownOut).moves
  | pinReset => cases h; exact (Outer.beginReset .pin).moves
  | requestedReset =>
    cases h
    split
    · exact (Outer.beginReset .requested).moves
    · exact .refl
  | resetRelease =>
    cases h
    split
    · exact .refl
    · exact (Outer.finishReset _ ‹_›).moves
  | _ => cases hi

theorem exec_moves {i : Instr} {s t : State} (h : exec i s = .next t) : Moves s t := by
  cases hi : requestOfInstr i with
  | none => exact exec_moves_of_event hi h
  | some x =>
    obtain ⟨q, tag, r⟩ := x
    rw [exec_of_requestOfInstr hi] at h
    cases h
    exact takeRequest_moves q tag r s

theorem idle_moves (s : State) : Moves s (idle s) := by
  unfold idle
  split
  · exact (Outer.tick ‹_›).moves
  · exact (Bookkeeping.queue _).moves
  · exact (Bookkeeping.moves (.free (s.free + 1))).trans (Bookkeeping.moves (.queue _))

/-- Every step is a chain of moves. -/
theorem step_moves {s t : State} (h : step s = .next t) : Moves s t := by
  unfold step at h
  split at h
  · exact (Bookkeeping.queue _).moves.trans (exec_moves h)
  · cases h; exact idle_moves s

/-- A predicate that every move keeps is kept by every step. -/
theorem step_keeps {P : State → Prop} (hP : ∀ s t, Move s t → P s → P t) {s t : State} (h : step s = .next t)
    (hs : P s) : P t := by
  have hmoves := step_moves h
  clear h
  induction hmoves with
  | refl => exact hs
  | tail _ hmove ih => exact hP _ _ hmove ih

end Sys2Proof.Machine

/-!
PROOF. What the running device leaves as it was: a frame (`Frame`) that every operation of the device keeps which neither
sets up its configuration, nor opens or closes a window, nor resets it. A frame fixes the configuration and the fields of
the device as a whole, lets grants end, and keeps the bounds of queues, hold counts and expectations.
-/

namespace Sys2Proof.Machine

open Sys2Proof

/-! ### What a frame says -/

/-- A grant without its state and its frames held: what its opening fixed. -/
def Grant.shape (g : Grant) : Grant := { g with state := .pending, held := 0 }

theorem Grant.shape_eq_iff {g h : Grant} :
    g.shape = h.shape ↔
      g.id = h.id ∧ g.port = h.port ∧ g.panel = h.panel ∧ g.first = h.first ∧ g.last = h.last ∧
        g.lifetime = h.lifetime := by
  simp only [Grant.shape, Grant.mk.injEq, true_and]

theorem exists_shape {gs hs : List Grant} (h : (hs.map Grant.shape).Sublist (gs.map Grant.shape)) {g : Grant}
    (hg : g ∈ hs) : ∃ x ∈ gs, x.shape = g.shape := List.mem_map.mp (h.subset (List.mem_map.mpr ⟨g, hg, rfl⟩))

/-- Every grant has fewer frames held than its lifetime limit (R135). -/
def GrantList.HeldBelow (l : GrantList) : Prop := ∀ g ∈ l.records, g.held < g.lifetime

/-- The list has lost grants, gained none, its next id stays, and no grant is held to its limit. -/
structure GrantList.Trims (l l' : GrantList) : Prop where
  records : (l'.records.map Grant.shape).Sublist (l.records.map Grant.shape)
  nextId : l'.nextId = l.nextId
  held : l.HeldBelow → l'.HeldBelow

/-- What the running device leaves of a panel. -/
structure PanelFrame (x y : PanelState) : Prop where
  items : y.items = x.items
  holds : (∀ b ∈ x.bands.records, b.hold ≤ b.holdLimit) → ∀ b ∈ y.bands.records, b.hold ≤ b.holdLimit
  apart : (x.link.expectations.map Expectation.band).Nodup → (y.link.expectations.map Expectation.band).Nodup
  mediaWatch : x.mediaWatch = .empty → y.mediaWatch = .empty

/-- What the running device leaves of the state. -/
structure Frame (s t : State) : Prop where
  count : t.count = s.count
  resetLogic : t.resetLogic = s.resetLogic
  windows : t.windows.slots = s.windows.slots
  mismatchLimit : t.mismatchLimit = s.mismatchLimit
  monitor : t.monitor = s.monitor
  mediaEnabled : t.mediaEnabled = s.mediaEnabled
  profile : t.profile = s.profile
  supervision : s.faults.supervision = true → t.faults.supervision = true
  queues : s.queuesBounded → t.queuesBounded
  touch : s.touch.items.legal → t.touch.items.legal
  grants : s.grants.Trims t.grants
  panel : ∀ p, PanelFrame (s.panel p) (t.panel p)

theorem GrantList.Trims.refl (l : GrantList) : l.Trims l := ⟨.refl _, rfl, id⟩

theorem GrantList.Trims.trans {l m n : GrantList} (h : l.Trims m) (h' : m.Trims n) : l.Trims n :=
  ⟨h'.records.trans h.records, h'.nextId.trans h.nextId, h'.held ∘ h.held⟩

theorem GrantList.Trims.filter (l : GrantList) (keep : Grant → Bool) :
    l.Trims { l with records := l.records.filter keep } :=
  ⟨List.filter_sublist.map _, rfl, fun h g hg => h g (List.mem_filter.mp hg).1⟩

theorem map_shape {f : Grant → Grant} (h : ∀ g, (f g).shape = g.shape) (gs : List Grant) :
    (gs.map f).map Grant.shape = gs.map Grant.shape := by
  rw [List.map_map, show Grant.shape ∘ f = Grant.shape from funext h]

theorem GrantList.Trims.map (l : GrantList) {f : Grant → Grant} (h : ∀ g, (f g).shape = g.shape)
    (hheld : ∀ g, (f g).held = g.held) : l.Trims { l with records := l.records.map f } := by
  refine ⟨by rw [map_shape h], rfl, fun hl g hg => ?_⟩
  obtain ⟨x, hx, rfl⟩ := List.mem_map.mp hg
  have hlife : (f x).lifetime = x.lifetime := (congrArg Grant.lifetime (h x) :)
  rw [hheld, hlife]
  exact hl x hx

theorem PanelFrame.refl (x : PanelState) : PanelFrame x x := ⟨rfl, id, id, id⟩

theorem PanelFrame.trans {x y z : PanelState} (h : PanelFrame x y) (h' : PanelFrame y z) : PanelFrame x z :=
  ⟨h'.items.trans h.items, h'.holds ∘ h.holds, h'.apart ∘ h.apart, h'.mediaWatch ∘ h.mediaWatch⟩

theorem Frame.refl (s : State) : Frame s s :=
  ⟨rfl, rfl, rfl, rfl, rfl, rfl, rfl, id, id, id, .refl _, fun _ => .refl _⟩

theorem Frame.trans {s t u : State} (h : Frame s t) (h' : Frame t u) : Frame s u :=
  ⟨h'.count.trans h.count, h'.resetLogic.trans h.resetLogic, h'.windows.trans h.windows,
    h'.mismatchLimit.trans h.mismatchLimit, h'.monitor.trans h.monitor,
    h'.mediaEnabled.trans h.mediaEnabled, h'.profile.trans h.profile, h'.supervision ∘ h.supervision,
    h'.queues ∘ h.queues, h'.touch ∘ h.touch, h.grants.trans h'.grants, fun p => (h.panel p).trans (h'.panel p)⟩

theorem Frame.ite {s t u : State} {c : Prop} [Decidable c] (ht : Frame s t) (hu : Frame s u) :
    Frame s (if c then t else u) := by
  split
  · exact ht
  · exact hu

theorem Frame.foldl {α : Type} {f : State → α → State} (h : ∀ s x, Frame s (f s x)) (xs : List α) (s : State) :
    Frame s (xs.foldl f s) := by
  induction xs generalizing s with
  | nil => exact .refl s
  | cons x xs ih => exact (h s x).trans (ih (f s x))

/-! ### Single changes -/

/-- A change of one panel. -/
theorem Frame.updPanel {s : State} {p : Panel} {f : PanelState → PanelState}
    (h : PanelFrame (s.panel p) (f (s.panel p))) : Frame s (s.updPanel p f) where
  count := updPanel_count ..
  resetLogic := updPanel_resetLogic ..
  windows := by rw [updPanel_windows]
  mismatchLimit := updPanel_mismatchLimit ..
  monitor := updPanel_monitor ..
  mediaEnabled := updPanel_mediaEnabled ..
  profile := updPanel_profile ..
  supervision := by rw [updPanel_faults]; exact id
  queues := by unfold State.queuesBounded; rw [updPanel_supervisor, updPanel_media]; exact id
  touch := by rw [updPanel_touch]; exact id
  grants := by rw [updPanel_grants]; exact .refl _
  panel := fun p' => by
    rw [panel_updPanel_ite]
    split
    · subst p'; exact h
    · exact .refl _

/-- A change of a panel that keeps its configuration, its records, its expectations and its watches. -/
theorem PanelFrame.of_eq {x y : PanelState} (hitems : y.items = x.items) (hbands : y.bands.records = x.bands.records)
    (hlink : y.link.expectations = x.link.expectations) (hwatch : y.mediaWatch = x.mediaWatch) : PanelFrame x y :=
  ⟨hitems, by rw [hbands]; exact id, by rw [hlink]; exact id, by rw [hwatch]; exact id⟩

/-- What a record's change must keep: the layout's part of the record, and the bound of the hold count. -/
def Band.KeepsLayout (b c : Band) : Prop :=
  c.lines = b.lines ∧ c.cls = b.cls ∧ c.holdLimit = b.holdLimit ∧ (b.hold ≤ b.holdLimit → c.hold ≤ c.holdLimit)

theorem Band.KeepsLayout.of_hold {b c : Band} (hlines : c.lines = b.lines) (hcls : c.cls = b.cls)
    (hlimit : c.holdLimit = b.holdLimit) (hhold : c.hold = b.hold) : b.KeepsLayout c :=
  ⟨hlines, hcls, hlimit, by rw [hlimit, hhold]; exact id⟩

/-- The layout part of a record. -/
def Band.spec (b : Band) : BandSpec := { lines := b.lines, cls := b.cls, holdLimit := b.holdLimit }

theorem PanelState.items_bands (x : PanelState) : x.items.bands = x.bands.records.map Band.spec := rfl

theorem forall₂_keepsLayout_spec {bs cs : List Band} (h : List.Forall₂ Band.KeepsLayout bs cs) :
    cs.map Band.spec = bs.map Band.spec := by
  induction h with
  | nil => rfl
  | cons hbc _ ih =>
    obtain ⟨hlines, hcls, hlimit, -⟩ := hbc
    simp only [List.map_cons, ih, Band.spec, hlines, hcls, hlimit]

theorem forall₂_keepsLayout_hold {bs cs : List Band} (h : List.Forall₂ Band.KeepsLayout bs cs)
    (hb : ∀ b ∈ bs, b.hold ≤ b.holdLimit) : ∀ c ∈ cs, c.hold ≤ c.holdLimit := by
  induction h with
  | nil => exact hb
  | cons hbc _ ih =>
    obtain ⟨-, -, -, hhold⟩ := hbc
    rw [List.forall_mem_cons] at hb ⊢
    exact ⟨hhold hb.1, ih hb.2⟩

/-- Records changed one by one, each within its layout. -/
theorem PanelFrame.records {x : PanelState} {bs : List Band}
    (h : List.Forall₂ Band.KeepsLayout x.bands.records bs) :
    PanelFrame x { x with bands := { x.bands with records := bs } } := by
  refine ⟨?_, forall₂_keepsLayout_hold h, id, id⟩
  have hitems : ({ x with bands := { x.bands with records := bs } } : PanelState).items =
      { x.items with bands := bs.map Band.spec } := rfl
  rw [hitems, forall₂_keepsLayout_spec h]
  rfl

theorem forall₂_mapBands {R : Band → Band → Prop} {f : Placed → Band} (h : ∀ x : Placed, R x.band (f x)) (i l : Nat)
    (bs : List Band) : List.Forall₂ R bs (mapBands f i l bs) := by
  induction bs generalizing i l with
  | nil => exact .nil
  | cons b bs ih => exact .cons (h { index := i, first := l, band := b }) (ih _ _)

theorem forall₂_modifyBand {R : Band → Band → Prop} {f : Band → Band} (hrefl : ∀ b, R b b) (h : ∀ b, R b (f b)) (i : Nat)
    (bs : List Band) : List.Forall₂ R bs (modifyBand i f bs) := by
  induction bs generalizing i with
  | nil => rw [modifyBand]; exact .nil
  | cons b bs ih =>
    cases i with
    | zero => exact .cons (h b) (List.forall₂_same.mpr fun b _ => hrefl b)
    | succ i => exact .cons (hrefl b) (ih i)

theorem forall₂_map {R : Band → Band → Prop} {f : Band → Band} (h : ∀ b, R b (f b)) (bs : List Band) :
    List.Forall₂ R bs (bs.map f) :=
  List.forall₂_map_right_iff.mpr (List.forall₂_same.mpr fun b _ => h b)

theorem Band.KeepsLayout.refl (b : Band) : b.KeepsLayout b := .of_hold rfl rfl rfl rfl

theorem forall₂_markWhere (hit : Placed → Bool) (bs : List Band) :
    List.Forall₂ Band.KeepsLayout bs (markWhere hit bs) :=
  forall₂_mapBands (fun x => by split <;> exact .of_hold rfl rfl rfl rfl) 0 0 bs

theorem Frame.updBands {s : State} {p : Panel} {f : List Band → List Band}
    (h : List.Forall₂ Band.KeepsLayout (s.panel p).bands.records (f (s.panel p).bands.records)) :
    Frame s (s.updBands p f) := .updPanel (.records h)

theorem Frame.markWhere (s : State) (p : Panel) (hit : Placed → Bool) : Frame s (s.updBands p (markWhere hit)) :=
  .updBands (forall₂_markWhere hit _)

theorem Frame.updPower {s : State} {p : Panel} {f : Power → Power} (h : (f (s.panel p).power).times = (s.panel p).power.times) :
    Frame s (s.updPower p f) :=
  .updPanel (.of_eq (by simp only [PanelState.items, h]) rfl rfl rfl)

theorem Frame.updLock {s : State} {p : Panel} {f : FrameLock → FrameLock}
    (h : (f (s.panel p).lock).settings = (s.panel p).lock.settings) : Frame s (s.updLock p f) :=
  .updPanel (.of_eq (by simp only [PanelState.items, h]) rfl rfl rfl)

theorem Frame.updDimmer {s : State} {p : Panel} {f : Dimmer → Dimmer}
    (h : (f (s.panel p).dimmer).settings = (s.panel p).dimmer.settings) : Frame s (s.updDimmer p f) :=
  .updPanel (.of_eq (by simp only [PanelState.items, h]) rfl rfl rfl)

theorem Frame.updSeq (s : State) (p : Panel) (f : Executing → Executing) : Frame s (s.updSeq p f) :=
  .updPanel (.of_eq rfl rfl rfl rfl)

theorem Frame.sendLink (p : Panel) (c : LinkCommand) (s : State) : Frame s (sendLink p c s) :=
  .updPanel (.of_eq rfl rfl rfl rfl)

theorem Frame.updTouch {s : State} {f : Touch → Touch} (h : s.touch.items.legal → (f s.touch).items.legal) :
    Frame s (s.updTouch f) :=
  ⟨rfl, rfl, rfl, rfl, rfl, rfl, rfl, id, id, h, .refl _, fun p => by cases p <;> exact .refl _⟩

/-- A change of the touch scheduler that leaves its configuration. -/
theorem Frame.updTouch_of_items {s : State} {f : Touch → Touch} (h : (f s.touch).items = s.touch.items) :
    Frame s (s.updTouch f) := .updTouch fun hlegal => by rwa [h]

theorem Frame.faults (s : State) {f : Causes} (h : s.faults.supervision = true → f.supervision = true) :
    Frame s { s with faults := f } :=
  ⟨rfl, rfl, rfl, rfl, rfl, rfl, rfl, h, id, id, .refl _, fun p => by cases p <;> exact .refl _⟩

theorem Frame.grantList {s : State} {l : GrantList} (h : s.grants.Trims l) : Frame s { s with grants := l } :=
  ⟨rfl, rfl, rfl, rfl, rfl, rfl, rfl, id, id, id, h, fun p => by cases p <;> exact .refl _⟩

/-! ### Posting -/

theorem updPort_queuesBounded {s : State} {q : Port} {f : PortState → PortState}
    (h : (s.port q).queue.length ≤ Config.queueLimit → (f (s.port q)).queue.length ≤ Config.queueLimit)
    (hs : s.queuesBounded) : (s.updPort q f).queuesBounded := by
  obtain ⟨hsupervisor, hmedia⟩ := hs
  cases q with
  | supervisor => exact ⟨h hsupervisor, hmedia⟩
  | media => exact ⟨hsupervisor, h hmedia⟩

/-- A change of one port that keeps its queue within its limit. -/
theorem Frame.updPort {s : State} {q : Port} {f : PortState → PortState}
    (h : (s.port q).queue.length ≤ Config.queueLimit → (f (s.port q)).queue.length ≤ Config.queueLimit) :
    Frame s (s.updPort q f) where
  count := updPort_count ..
  resetLogic := updPort_resetLogic ..
  windows := by rw [updPort_windows]
  mismatchLimit := updPort_mismatchLimit ..
  monitor := updPort_monitor ..
  mediaEnabled := updPort_mediaEnabled ..
  profile := updPort_profile ..
  supervision := by rw [updPort_faults]; exact id
  queues := updPort_queuesBounded h
  touch := by rw [updPort_touch]; exact id
  grants := by rw [updPort_grants]; exact .refl _
  panel := fun p => by rw [panel_updPort]; exact .refl _

theorem Frame.post (q : Port) (n : Notice) (s : State) : Frame s (post q n s) := by
  cases q with
  | supervisor => exact .updPort offer_bounded
  | media => exact .ite (.updPort offer_bounded) (.refl s)

theorem Frame.postBoth (n : Notice) (s : State) : Frame s (postBoth n s) := (Frame.post ..).trans (.post ..)

theorem Frame.postOwn (p : Panel) (n : Notice) (s : State) : Frame s (postOwn p n s) := by
  cases p with
  | cluster => exact .post (q := .supervisor) ..
  | centre => exact .postBoth n s

theorem Frame.postPanelState (p : Panel) (left : PowerState) (reason : PanelReason) (s : State) :
    Frame s (postPanelState p left reason s) := .postOwn ..

theorem Frame.postLockState (p : Panel) (left : LockState) (s : State) : Frame s (postLockState p left s) := .postOwn ..

/-! ### Grants -/

theorem Frame.endGrant (g : Grant) (s : State) : Frame s (endGrant g s) :=
  (Frame.grantList (.filter ..)).trans (.markWhere ..)

theorem Frame.revokeGrant (reason : RevokeReason) (s : State) (g : Grant) : Frame s (revokeGrant reason s g) :=
  (Frame.endGrant g s).trans (.post ..)

theorem Frame.revokeAll (reason : RevokeReason) (gs : List Grant) (s : State) : Frame s (revokeAll reason gs s) :=
  .foldl (Frame.revokeGrant reason) gs s

theorem Frame.setGrantState (id : Nat) (st : GrantState) (s : State) : Frame s (setGrantState id st s) :=
  .grantList (.map _ (fun g => by split <;> rfl) fun g => by split <;> rfl)

theorem Frame.tearGrant (p : Panel) (i : Nat) (s : State) : Frame s (tearGrant p i s) := by
  unfold Machine.tearGrant
  cases s.coveringGrant p i with
  | none => exact .refl s
  | some g => exact .ite (.refl s) ((Frame.setGrantState ..).trans (.post ..))

theorem Frame.readyGrants (p : Panel) (i : Nat) (s : State) : Frame s (readyGrants p i s) :=
  .foldl (f := readyGrant) (fun s g => (Frame.setGrantState g.id .granted s).trans (.post ..)) _ s

theorem Frame.expireGrant (s : State) (g : Grant) : Frame s (expireGrant s g) := (Frame.endGrant g s).trans (.post ..)

/-- The grants left once some have expired. -/
theorem foldl_expireGrant_grants (gs : List Grant) (s : State) :
    (gs.foldl expireGrant s).grants =
      { s.grants with records := s.grants.records.filter fun x => gs.all fun g => x.id != g.id } := by
  induction gs generalizing s with
  | nil => simp
  | cons g gs ih =>
    have hone : (expireGrant s g).grants = (endGrant g s).grants := post_grants ..
    rw [List.foldl_cons, ih, hone, endGrant_grants]
    simp [List.filter_filter, Bool.and_comm]

theorem Grant.raise_shape (p : Panel) (g : Grant) : (if g.panel = p then g.hold else g).shape = g.shape := by
  split <;> rfl

/-- The work of a frame end: a grant whose frames held reach its limit ends (R135). -/
theorem grantFrameEnd_trims (p : Panel) (s : State) : s.grants.Trims (grantFrameEnd p s).grants := by
  have hgrants := foldl_expireGrant_grants ((raiseHeld p s).expired p) (raiseHeld p s)
  rw [grantFrameEnd, hgrants]
  refine ⟨?_, rfl, fun hheld x hx => ?_⟩
  · have hshapes : (raiseHeld p s).grants.records.map Grant.shape = s.grants.records.map Grant.shape :=
      map_shape (Grant.raise_shape p) _
    rw [← hshapes]
    exact List.filter_sublist.map _
  · obtain ⟨hmem, hkeep⟩ := List.mem_filter.mp hx
    by_cases hpanel : x.panel = p
    · refine Nat.lt_of_not_le fun hle => ?_
      have hexpired : x ∈ (raiseHeld p s).expired p := List.mem_filter.mpr ⟨hmem, by simp [hpanel, hle]⟩
      simpa using List.all_eq_true.mp hkeep x hexpired
    · obtain ⟨y, hy, hxy⟩ := List.mem_map.mp hmem
      split at hxy
      · subst hxy; exact absurd ‹_› hpanel
      · subst hxy; exact hheld y hy

theorem raiseHeld_panel (p p' : Panel) (s : State) : (raiseHeld p s).panel p' = s.panel p' := by cases p' <;> rfl

theorem Frame.grantFrameEnd (p : Panel) (s : State) : Frame s (grantFrameEnd p s) := by
  have h : Frame (raiseHeld p s) (Machine.grantFrameEnd p s) := .foldl .expireGrant _ _
  exact ⟨h.count, h.resetLogic, h.windows, h.mismatchLimit, h.monitor, h.mediaEnabled, h.profile,
    h.supervision, h.queues, h.touch, grantFrameEnd_trims p s, fun p' => raiseHeld_panel p p' s ▸ h.panel p'⟩

/-! ### Slots -/

theorem PanelFrame.setWatches {x : PanelState} {q : Port} {w : WatchPair} (h : x.mediaWatch = .empty → w = .empty) :
    PanelFrame x (x.setWatches q w) := by
  cases q with
  | supervisor => exact .of_eq rfl rfl rfl rfl
  | media => exact ⟨rfl, id, id, h⟩

theorem WatchPair.put_none_empty {w : WatchPair} (h : w = .empty) (position : Nat) :
    w.put position none = .empty := by
  subst h; unfold WatchPair.put; split <;> rfl

theorem Frame.dropWatch (s : State) (p : Panel) (q : Port) (position : Nat) :
    Frame s (s.updPanel p fun x => x.setWatches q ((x.watches q).put position none)) := by
  refine .updPanel ?_
  cases q with
  | supervisor => exact .of_eq rfl rfl rfl rfl
  | media => exact .setWatches (q := .media) fun h => WatchPair.put_none_empty h position

theorem Frame.fireWatch (p : Panel) (b : Placed) (refreshed : Bool) (q : Port) (position : Nat) (s : State) :
    Frame s (fireWatch p b refreshed q position s) := by
  unfold Machine.fireWatch
  cases ((s.panel p).watches q).get position with
  | none => exact .refl s
  | some w =>
    refine .ite ?_ (.refl s)
    cases hmode : w.mode with
    | repeating => exact .post ..
    | oneShot => exact (Frame.dropWatch s p q position).trans (.post ..)

theorem Frame.fireWatches (p : Panel) (b : Placed) (refreshed : Bool) (s : State) :
    Frame s (fireWatches p b refreshed s) :=
  (((Frame.fireWatch ..).trans (.fireWatch ..)).trans (.fireWatch ..)).trans (.fireWatch ..)

theorem Frame.passSlot (p : Panel) (s : State) : Frame s (passSlot p s) := .updSeq ..

theorem Frame.updExpectations {s : State} {p : Panel} {f : List Expectation → List Expectation}
    (h : ((s.panel p).link.expectations.map Expectation.band).Nodup →
      ((f (s.panel p).link.expectations).map Expectation.band).Nodup) :
    Frame s (s.updPanel p fun x => { x with link := { x.link with expectations := f x.link.expectations } }) :=
  .updPanel ⟨rfl, id, h, id⟩

theorem nodup_dropBand {es : List Expectation} (h : (es.map Expectation.band).Nodup) (keep : Expectation → Bool) :
    ((es.filter keep).map Expectation.band).Nodup := h.sublist (List.filter_sublist.map _)

theorem Frame.dropExpectation (band : Nat) (s : State) : Frame s (dropExpectation band s) :=
  .updExpectations fun h => nodup_dropBand h _

theorem Frame.enterExpectation (p : Panel) (e : Expectation) (s : State) : Frame s (enterExpectation p e s) := by
  refine .updExpectations (f := fun es => es.filter (fun y => y.band != e.band) ++ [e]) fun h => ?_
  rw [List.map_append, List.nodup_append]
  refine ⟨nodup_dropBand h _, List.nodup_singleton _, fun a ha b hb => ?_⟩
  obtain ⟨y, hy, rfl⟩ := List.mem_map.mp ha
  obtain rfl := List.mem_singleton.mp hb
  simpa using (List.mem_filter.mp hy).2

theorem Band.refreshed_keepsLayout (pol : FramePolarity) (b : Band) : b.KeepsLayout (b.refreshed pol) :=
  ⟨rfl, rfl, rfl, fun _ => Nat.zero_le _⟩

theorem Frame.startRefresh (p : Panel) (b : Placed) (cost : Nat) (pol : FramePolarity) (s : State) :
    Frame s (startRefresh p b cost pol s) := by
  unfold Machine.startRefresh
  dsimp only
  refine Frame.trans ?_ (.fireWatches ..)
  refine Frame.trans ?_ (.updSeq ..)
  refine Frame.trans ?_ (.sendLink ..)
  have htorn : Frame s (Machine.tearGrant p b.index (s.updBands p (modifyBand b.index (Band.refreshed pol)))) :=
    (Frame.updBands (forall₂_modifyBand .refl (Band.refreshed_keepsLayout pol) ..)).trans
      (.tearGrant ..)
  cases expectedCrc p (s.coveringGrant p b.index).isSome b with
  | none => exact htorn
  | some crc => exact htorn.trans (.enterExpectation ..)

theorem Frame.startSkip (p : Panel) (b : Placed) (s : State) : Frame s (startSkip p b s) :=
  ((Frame.passSlot p s).trans (.sendLink ..)).trans (.fireWatches ..)

theorem Frame.pauseFor (cost : Nat) (s : State) : Frame s (pauseFor cost s) := (Frame.updSeq ..).trans (.sendLink ..)

/-! ### The integrity checker -/

theorem Frame.setIntegrityCause (s : State) : Frame s (setIntegrityCause s) := .faults s id

theorem Frame.countMismatch (e : Expectation) (received : Option Crc) (s : State) :
    Frame s (countMismatch e received s) := by
  have hbands : Frame s (s.updBands .cluster (modifyBand e.band (Band.mismatch s.mismatchLimit))) :=
    .updBands (forall₂_modifyBand .refl (fun _ => .of_hold rfl rfl rfl rfl) ..)
  unfold Machine.countMismatch
  dsimp only
  cases (s.updBands .cluster (modifyBand e.band (Band.mismatch s.mismatchLimit))).bandAt .cluster e.band with
  | none => exact hbands
  | some b =>
    have hcause := hbands.trans (.setIntegrityCause _)
    exact .ite (.ite hcause (hcause.trans (.post ..))) hbands

theorem Frame.compareReport (e : Expectation) (crc : Crc) (s : State) : Frame s (compareReport e crc s) :=
  .ite (.updBands (forall₂_modifyBand .refl (fun _ => .of_hold rfl rfl rfl rfl) ..)) (.countMismatch ..)

theorem Frame.judgeMissing (p : Panel) (s : State) : Frame s (judgeMissing p s) := by
  cases p with
  | centre => exact .refl s
  | cluster => exact (Frame.foldl (fun s e => .countMismatch e none s) _ s).trans (.updExpectations (f := fun _ => []) fun _ => .nil)

/-! ### Touch -/

theorem map_modifyCandidate {α : Type} {g : Candidate → α} {f : Candidate → Candidate} (h : ∀ c, g (f c) = g c) (i : Nat)
    (cs : List Candidate) : (modifyCandidate i f cs).map g = cs.map g := by
  induction cs generalizing i with
  | nil => rw [modifyCandidate]
  | cons c cs ih => cases i <;> simp [modifyCandidate, h, ih]

theorem Touch.learn_items (w : Wait) (n : Nat) (t : Touch) : (t.learn w n).items = t.items := by
  simp only [Touch.items, Touch.learn]
  rw [map_modifyCandidate fun c => by split <;> rfl]

theorem Touch.takeResult_items (tag : Byte) (n : Nat) (t : Touch) : (t.takeResult tag n).items = t.items := by
  unfold Touch.takeResult
  split
  · rfl
  · rename_i w _
    exact Touch.learn_items w n t

theorem Touch.zeroAge_items (id : Nat) (t : Touch) : ({ t with groups := zeroAge id t.groups } : Touch).items = t.items := by
  simp only [Touch.items, zeroAge, List.map_map]
  congr 1
  refine List.map_congr_left fun g _ => ?_
  simp only [Function.comp_apply]
  split <;> rfl

/-- An ALLOWED candidate found from index `i` on stands in the table. -/
theorem mem_allowedFrom {x : Nat × Candidate} {i : Nat} {cs : List Candidate} (h : x ∈ allowedFrom i cs) :
    i ≤ x.1 ∧ cs[x.1 - i]? = some x.2 ∧ x.2.permission = .allowed := by
  induction cs generalizing i with
  | nil => cases h
  | cons c cs ih =>
    have hlater : x ∈ allowedFrom (i + 1) cs →
        i ≤ x.1 ∧ (c :: cs)[x.1 - i]? = some x.2 ∧ x.2.permission = .allowed := fun hx => by
      obtain ⟨hle, hget, hallowed⟩ := ih hx
      refine ⟨by omega, ?_, hallowed⟩
      rw [show x.1 - i = (x.1 - (i + 1)) + 1 by omega]
      exact hget
    rw [allowedFrom] at h
    split at h
    · rcases List.mem_cons.mp h with rfl | h
      · exact ⟨Nat.le_refl i, by simp, ‹_›⟩
      · exact hlater h
    · exact hlater h

theorem mem_of_lowestOf {xs : List (Nat × Candidate)} {x : Nat × Candidate} (h : lowestOf xs = some x) : x ∈ xs := by
  induction xs generalizing x with
  | nil => cases h
  | cons y ys ih =>
    rw [lowestOf] at h
    split at h
    · cases h; exact List.mem_cons_self
    · split at h
      · cases h; exact List.mem_cons_self
      · cases h; exact List.mem_cons_of_mem _ (ih ‹_›)

theorem lowestAllowed_lt {cs : List Candidate} {x : Nat × Candidate} (h : lowestAllowed cs = some x) :
    x.1 < cs.length := by
  obtain ⟨-, hget, -⟩ := mem_allowedFrom (mem_of_lowestOf h)
  exact (List.getElem?_eq_some_iff.mp hget).1

/-- A hop takes a candidate of the table. -/
theorem Touch.hop_lt {t : Touch} {reason : HopReason} {i : Nat} {c : Candidate} (h : t.hop = some (reason, i, c)) :
    i < t.candidates.length := by
  unfold Touch.hop at h
  split at h
  · cases h
  · split at h
    · obtain ⟨x, hx, hr⟩ := Option.map_eq_some_iff.mp h
      cases hr
      exact lowestAllowed_lt hx
    · split at h
      · split at h
        · split at h
          · cases h; exact lowestAllowed_lt ‹_›
          · cases h
        · cases h
      · cases h

/-- A legal configuration with another active candidate of the table. -/
theorem Touch.legal_active {t : Touch} (h : t.items.legal) {i : Nat} (hi : i < t.candidates.length) (n : Nat) :
    ({ t with active := i, sinceHop := n } : Touch).items.legal := by
  obtain ⟨hcount, hgroups, hids, hguard, hbursts, hedge, htimeout, hsix, hperiod, hallowed, hhyst, hhold, -⟩ := h
  rw [Touch.items, List.length_map] at hsix
  refine ⟨hcount, hgroups, hids, hguard, hbursts, hedge, htimeout, ?_, hperiod, hallowed, hhyst, hhold, ?_⟩
  · rw [Touch.items, List.length_map, hsix]
  · show i ≤ 5
    omega

theorem Frame.decideFrequency (s : State) : Frame s (decideFrequency s) := by
  unfold Machine.decideFrequency
  cases hhop : s.touch.hop with
  | none => exact .refl s
  | some x =>
    obtain ⟨reason, i, c⟩ := x
    exact (Frame.updTouch fun hlegal => Touch.legal_active hlegal (Touch.hop_lt hhop) 0).trans (.post ..)

/-! ### Frames -/

theorem FrameLock.decision_settings (l : FrameLock) : l.decision.settings = l.settings := by
  unfold FrameLock.decision
  split <;> (try split) <;> rfl

theorem Frame.lockPlanPoint (p : Panel) (s : State) : Frame s (lockPlanPoint p s) := by
  have hpanel : ∀ n, Frame s (s.updPanel p fun x =>
      { x with lock := x.lock.planPoint, frame := { x.frame with next := some n } }) := fun n =>
    .updPanel (.of_eq (by simp only [PanelState.items, FrameLock.planPoint, FrameLock.closeInterval,
      FrameLock.decision_settings]) rfl rfl rfl)
  exact .ite ((hpanel _).trans (.postLockState ..)) (hpanel _)

theorem Frame.hopDecision (p : Panel) (s : State) : Frame s (hopDecision p s) := by
  cases p with
  | cluster => exact .refl s
  | centre => exact .decideFrequency s

theorem Frame.beginBuild (p : Panel) (s : State) : Frame s (beginBuild p s) := .updPanel (.of_eq rfl rfl rfl rfl)

theorem Frame.planPoint (p : Panel) (s : State) : Frame s (planPoint p s) := by
  refine Frame.trans (Frame.trans (Frame.trans (.lockPlanPoint p s) ?_) (.hopDecision p _)) (.beginBuild p _)
  exact .updDimmer rfl

theorem Frame.producePartnerMarker (p : Panel) (s : State) : Frame s (producePartnerMarker p s) :=
  .ite (.updLock rfl) (.refl s)

theorem Frame.postPlanNotice (p : Panel) (lent : Bool) (b : NoticeBody) (s : State) :
    Frame s (postPlanNotice p lent b s) := by
  cases p with
  | centre => exact .post .media _ s
  | cluster => exact .ite (.postBoth ..) (.post ..)

theorem Frame.postPlanNotices (p : Panel) (h : Handed) (s : State) : Frame s (postPlanNotices p h s) := by
  have hstretched : Frame s
      (if h.stretched then Machine.postPlanNotice p h.mediaOwned (.frameStretched h.fixed h.length h.late) s else s) :=
    .ite (.postPlanNotice ..) (.refl s)
  exact .ite (hstretched.trans (.postPlanNotice ..)) hstretched

theorem Frame.countDeferred (p : Panel) (n : Nat) (s : State) : Frame s (countDeferred p n s) := by
  cases p with
  | cluster => exact .refl s
  | centre => exact .updTouch_of_items (f := fun t => { t with deferred := t.deferred + BitVec.ofNat 16 n }) rfl

theorem Frame.frameStart (p : Panel) (h : Handed) (s : State) : Frame s (frameStart p h s) := by
  have hstart : Frame s (s.updPanel p (PanelState.startFrame s.count h)) := .updPanel (.of_eq rfl rfl rfl rfl)
  exact (((hstart.trans (.sendLink ..)).trans (.countDeferred ..)).trans (.postPlanNotices ..)).trans
    (.producePartnerMarker ..)

theorem Frame.raiseHolds (p : Panel) (s : State) : Frame s (raiseHolds p s) := by
  refine .updBands (forall₂_mapBands (fun x => ?_) 0 0 _)
  split
  · exact ⟨rfl, rfl, rfl, fun _ => Nat.min_le_right _ _⟩
  · exact .refl _

theorem Frame.ageTouch (p : Panel) (s : State) : Frame s (ageTouch p s) := by
  cases p with
  | cluster => exact .refl s
  | centre =>
    refine .updTouch_of_items (f := fun t =>
      { t with groups := t.groups.map fun g => { g with age := min (g.age + 1) 255 }
               sinceHop := min (t.sinceHop + 1) 255 }) ?_
    simp only [Touch.items, List.map_map, Function.comp_def]

theorem Frame.dimFrameEnd (p : Panel) (s : State) : Frame s (dimFrameEnd p s) := .ite (.refl s) (.updDimmer rfl)

theorem Frame.reportFrame (p : Panel) (s : State) : Frame s (reportFrame p s) := by
  have hsupervisor : Frame s (if (s.panel p).builder.subSupervisor then
      Machine.post .supervisor (s.panelNotice p (s.panel p).frameReport) s else s) := .ite (.post ..) (.refl s)
  exact .ite (hsupervisor.trans (.post ..)) hsupervisor

theorem Frame.frameEndWork (p : Panel) (s : State) : Frame s (frameEndWork p s) :=
  (((((Frame.raiseHolds p s).trans (.ageTouch ..)).trans (.grantFrameEnd ..)).trans (.dimFrameEnd ..)).trans
    (.judgeMissing ..)).trans (.reportFrame ..)

theorem Frame.stopScan (p : Panel) (s : State) : Frame s (stopScan p s) := by
  refine Frame.trans (.updPanel (.of_eq rfl rfl rfl rfl)) (.updLock rfl)

theorem Frame.enterDrain (p : Panel) (reason : PanelReason) (s : State) : Frame s (enterDrain p reason s) := by
  refine Frame.trans (Frame.trans (Frame.trans (.updPower rfl) (.revokeAll ..)) (.updPower ?_)) (.postPanelState ..)
  rfl

theorem Frame.nextNumber (p : Panel) (s : State) : Frame s (nextNumber p s) := .updPanel (.of_eq rfl rfl rfl rfl)

theorem Frame.finishScan (p : Panel) (s : State) : Frame s (finishScan p s) := by
  have hready : Frame s (Machine.postPanelState p .scanning .stopDone
      ((Machine.stopScan p s).updPower p fun w => { w with state := .ready, stopPending := false })) :=
    ((Frame.stopScan p s).trans (.updPower rfl)).trans (.postPanelState ..)
  exact .ite ((hready.trans (.updPower rfl)).trans (.enterDrain ..)) hready

theorem Frame.frameEnd (p : Panel) (s : State) : Frame s (frameEnd p s) :=
  .ite (((Frame.frameEndWork p s).trans (.finishScan ..)).trans (.nextNumber ..))
    (((Frame.frameEndWork p s).trans (.nextNumber ..)).trans (.frameStart ..))

theorem Band.atStart_keepsLayout (b : Band) : b.KeepsLayout b.atStart := ⟨rfl, rfl, rfl, fun _ => Nat.zero_le _⟩

theorem PanelFrame.beginScan (x : PanelState) : PanelFrame x x.beginScan :=
  (PanelFrame.records (forall₂_map Band.atStart_keepsLayout x.bands.records)).trans (.of_eq rfl rfl rfl rfl)

theorem Frame.startScanning (p : Panel) (s : State) : Frame s (startScanning p s) :=
  ((Frame.updPanel (.beginScan _)).trans (.postPanelState ..)).trans (.frameStart ..)

/-! ### Closing a grant -/

theorem forall₂_setChecks (first last i : Nat) (crcs : List Crc) (bs : List Band) :
    List.Forall₂ Band.KeepsLayout bs (setChecks first last i crcs bs) := by
  induction bs generalizing i crcs with
  | nil => rw [setChecks]; exact .nil
  | cons b bs ih =>
    rw [setChecks]
    split
    · exact .cons (.of_hold rfl rfl rfl rfl) (ih ..)
    · exact .cons (.refl b) (ih ..)

theorem Frame.closeGrant (g : Grant) (crcs : List Crc) (s : State) : Frame s (closeGrant g crcs s) := by
  refine ((Frame.endGrant g s).trans (.updBands (forall₂_setChecks ..))).trans (.foldl (fun s i => ?_) _ _)
  cases g.panel with
  | centre => exact .refl s
  | cluster => exact .dropExpectation i s

/-! ### Power and supply -/

theorem Frame.stopPanel (p : Panel) (s : State) : Frame s (stopPanel p s) :=
  .ite (.refl s) ((Frame.updDimmer rfl).trans (.updPower rfl))

theorem Frame.offPanel (p : Panel) (s : State) : Frame s (offPanel p s) := by
  unfold Machine.offPanel
  cases (s.panel p).power.state with
  | off => exact .refl s
  | drain => exact .refl s
  | ramp => exact .enterDrain ..
  | ready => exact .enterDrain ..
  | scanning => exact (Frame.stopPanel p s).trans (.updPower rfl)

/-- A PANEL_ON leaves what it found but for the step times it carries. -/
theorem Frame.turnOn (p : Panel) (tA tB tC : Nat) (s : State) :
    Frame (s.updPower p fun w => { w with times := w.times.given tA tB tC }) (turnOn p tA tB tC s) := by
  have hpower : Machine.turnOn p tA tB tC s = Machine.postPanelState p .off .request
      ((s.updPower p fun w => { w with times := w.times.given tA tB tC }).updPower p fun w =>
        { w with
          logicEn := true
          state := .ramp
          step := some { step := .gateWait, deadline := s.count.after (w.times.tA * Config.tuPerMs) } }) := by
    cases p <;> rfl
  rw [hpower]
  exact (Frame.updPower rfl).trans (.postPanelState ..)

theorem Frame.endGateWait (p : Panel) (s : State) : Frame s (endGateWait p s) := .updPower rfl

theorem Frame.reachReady (p : Panel) (s : State) : Frame s (reachReady p s) := by
  have hready : Frame s (Machine.postPanelState p .ramp .stepDone
      (s.updPower p fun w => { w with state := .ready, step := none })) := (Frame.updPower rfl).trans (.postPanelState ..)
  exact .ite (hready.trans (.startScanning ..)) hready

theorem Frame.setPowerCause (s : State) : Frame s (setPowerCause s) := .faults s id

theorem Frame.endSettle (p : Panel) (powerGood : Bool) (s : State) : Frame s (endSettle p powerGood s) :=
  .ite ((Frame.updPower rfl).trans (.reachReady ..))
    (((Frame.updPower rfl).trans (.setPowerCause _)).trans (.enterDrain ..))

theorem Frame.endDischarge (p : Panel) (s : State) : Frame s (endDischarge p s) :=
  (Frame.updPower rfl).trans (.postPanelState ..)

theorem Frame.clearWaits (p : Panel) (s : State) : Frame s (clearWaits p s) := by
  cases p with
  | cluster => exact .refl s
  | centre => exact .updTouch_of_items (f := fun t => { t with waits := [] }) rfl

theorem Frame.abandonScan (p : Panel) (s : State) : Frame s (abandonScan p s) := by
  refine Frame.trans (Frame.trans (.stopScan p s) (.updPanel ?_)) (.clearWaits p _)
  exact ⟨rfl, id, fun _ => .nil, id⟩

theorem Frame.losePower (p : Panel) (s : State) : Frame s (losePower p s) :=
  ((Frame.ite (.abandonScan p s) (.refl s)).trans (.setPowerCause _)).trans (.enterDrain ..)

/-- What a frame does not look at: the counter of free values, the supply flags and the timing lock, the canvas misses. -/
theorem Frame.unseen (s : State) (free : Nat) (supply : Supply) (timingLock : Bool) (misses : Counter16) :
    Frame s { s with free := free, supply := supply, timingLock := timingLock
                     windows := { s.windows with misses := misses } } :=
  ⟨rfl, rfl, rfl, rfl, rfl, rfl, rfl, id, id, id, .refl _, fun p => by cases p <;> exact .refl _⟩

theorem Frame.capPanel (p : Panel) (s : State) : Frame s (capPanel p s) := .ite (.updDimmer rfl) (.refl s)

theorem Frame.beginHold (s : State) : Frame s (beginHold s) :=
  (((Frame.unseen s s.free { s.supply with hold := true } s.timingLock s.windows.misses).trans (.capPanel ..)).trans
    (.capPanel ..)).trans (.postBoth ..)

theorem Frame.endHold (s : State) : Frame s (endHold s) :=
  (Frame.unseen s s.free { s.supply with hold := false } s.timingLock s.windows.misses).trans (.postBoth ..)

/-! ### Settings -/

/-- A LOCK_MODE leaves what it found but for the settings it carries. -/
theorem Frame.lockMode (s : State) (p : Panel) (settings : LockSettings) :
    Frame (s.updLock p fun l => { l with settings := settings }) (s.lockModeTold p settings) := by
  have hmode : Frame (s.updLock p fun l => { l with settings := settings }) (s.lockMode p settings) := by
    have hlock : s.lockMode p settings = (s.updLock p fun l => { l with settings := settings }).updLock p fun _ =>
        (s.panel p).lock.setMode settings (s.panel p).timing.tNom (s.scanning p) := by cases p <;> rfl
    rw [hlock]
    refine .updLock ?_
    rw [show ((s.updLock p fun l => { l with settings := settings }).panel p).lock.settings = settings by
      simp [State.updLock]]
    unfold FrameLock.setMode
    split <;> rfl
  unfold State.lockModeTold
  split
  · exact hmode.trans (.postLockState ..)
  · exact hmode

/-- A CRC_SET leaves what it found but for the mismatch limit. -/
theorem Frame.crcSet (s : State) (band : Nat) (crc : Crc) (limit : Nat) :
    Frame (if limit = 0 then s else { s with mismatchLimit := limit })
      (Machine.dropExpectation band ((if limit = 0 then s else replaceLimit limit s).updBands .cluster
        (modifyBand band (Band.setCheck (some crc))))) := by
  refine Frame.trans (Frame.trans ?_ (.updBands (forall₂_modifyBand .refl (fun _ => .of_hold rfl rfl rfl rfl) ..)))
    (.dropExpectation band _)
  split
  · exact .refl s
  · exact .updBands (forall₂_map (fun _ => .of_hold rfl rfl rfl rfl) _)

theorem Frame.enterFault (reason : FaultReason) (elapsed : Nat) (s : State) :
    Frame (closeAllWindows .fault (setSupervisionCause { s with monitor := s.monitor.fail reason }))
      (enterFault reason elapsed s) := .ite (.refl _) (.postBoth ..)

/-! ### Markers -/

theorem FrameLock.countGlitch_settings (l : FrameLock) : l.countGlitch.settings = l.settings := rfl

theorem PanelFrame.lock {x : PanelState} {l : FrameLock} (h : l.settings = x.lock.settings) :
    PanelFrame x { x with lock := l } := .of_eq (by simp only [PanelState.items, h]) rfl rfl rfl

theorem PanelFrame.useMarker (now : Tick) {other : FrameLock → FrameLock} (h : ∀ l, (other l).settings = l.settings)
    (x : PanelState) : PanelFrame x (useMarker now other x) := by
  unfold Machine.useMarker
  split
  · exact .lock rfl
  · exact .lock (h _)

theorem PanelFrame.takeEdge (now : Tick) (x : PanelState) : PanelFrame x (takeEdge now x) := by
  unfold Machine.takeEdge
  split
  · exact PanelFrame.trans (y := { x with lock := { x.lock with gapRef := some now } }) (.lock rfl)
      (.useMarker now FrameLock.countGlitch_settings _)
  · exact .lock rfl

/-! ### The running device -/

/-- Every effect of the running device keeps the frame. -/
theorem Running.frame {s t : State} (h : Running s t) : Frame s t := by
  cases h with
  | damagePanel p ranges => exact .markWhere ..
  | damageCanvas ranges =>
    exact (Frame.markWhere s .cluster _).trans (.unseen _ _ _ _ _)
  | fullRefresh p => exact .markWhere ..
  | subscribe p q on => exact .updPanel (.of_eq rfl rfl rfl rfl)
  | touchEnable => exact .updTouch_of_items rfl
  | touchDisable => exact .updTouch_of_items rfl
  | writeClose g crcs hg => exact .closeGrant ..
  | panelStart p hstate => exact .startScanning p s
  | panelStop p hstate => exact .stopPanel p s
  | panelOff p => exact .offPanel p s
  | timingLock on => exact .unseen s s.free s.supply on s.windows.misses
  | planPoint p hdue => exact .planPoint p s
  | buildComplete p hdue => exact .updPanel (.of_eq rfl rfl rfl rfl)
  | frameEnd p hdue => exact .frameEnd p s
  | grantExpiry id g hg => exact .expireGrant s g.hold
  | passSlot p slot i hslot hkind hb => exact .passSlot p s
  | startRefresh p slot i polarity b hslot hkind hb => exact .startRefresh ..
  | refreshSlotEnd p d => exact (Frame.updSeq s p _).trans (.readyGrants ..)
  | startSkip p slot i b hslot hkind hb => exact .startSkip p b s
  | touchSlot slot id code bursts candidate period hslot hkind =>
    exact (Frame.pauseFor slot.cost s).trans (.updTouch_of_items (Touch.zeroAge_items id _))
  | listenSlot slot candidate period bursts hslot hkind =>
    exact (Frame.pauseFor slot.cost s).trans (.updTouch_of_items rfl)
  | blankStart p => exact (Frame.updSeq s p _).trans (.sendLink ..)
  | pwmEdge p freeLevel hdue =>
    refine (Frame.unseen s (s.free + 1) s.supply s.timingLock s.windows.misses).trans (.updDimmer ?_)
    unfold Dimmer.drive
    split <;> rfl
  | markerEdge p hscan => exact .updPanel (.takeEdge ..)
  | partnerMarker p hdue =>
    refine .updPanel (PanelFrame.trans ?_ (.useMarker s.count (other := id) (fun _ => rfl) _))
    exact .lock rfl
  | bandReport e crc he => exact (Frame.dropExpectation e.band s).trans (.compareReport ..)
  | senseResult tag n => exact .updTouch_of_items (Touch.takeResult_items tag n s.touch)
  | resultDeadline tag => exact .updTouch_of_items rfl
  | suspended tag n => exact (Frame.updTouch_of_items rfl).trans (.post ..)
  | gateWait p hdue => exact .endGateWait p s
  | settle p powerGood hdue => exact .endSettle p powerGood s
  | discharge p hdue => exact .endDischarge p s
  | losePower p hwatched => exact .losePower p s
  | beginHold => exact .beginHold s
  | endHold => exact .endHold s

end Sys2Proof.Machine

/-!
PROOF. Every step keeps the grant list legal (O56): a list that has only lost grants stays legal, and the checks of
R129 make the one that gains a grant legal.
-/

namespace Sys2Proof.Machine

open Sys2Proof

/-! ### Legality of a grant list -/

/-- `State.grantsLegal` of the list alone, the frames held apart. -/
structure GrantList.Sound (l : GrantList) : Prop where
  room : l.records.length ≤ Config.grantLimit
  portRoom : ∀ q, (l.records.filter fun g => decide (g.port = q)).length ≤ Config.grantPortLimit
  ids : l.records.Pairwise idsApart
  apart : l.records.Pairwise grantsApart
  fields : ∀ g ∈ l.records, 1 ≤ g.id ∧ g.id ≤ 255 ∧ g.first ≤ g.last ∧ g.lifetime ≤ 63
  nextLow : 1 ≤ l.nextId
  nextHigh : l.nextId ≤ 255
  nextFree : ∀ g ∈ l.records, g.id ≠ l.nextId

theorem State.grantsLegal_iff {s : State} : s.grantsLegal ↔ s.grants.Sound ∧ s.grants.HeldBelow := by
  constructor
  · rintro ⟨hroom, hport, hids, hapart, hfields, hlow, hhigh, hfree⟩
    refine ⟨⟨hroom, hport, hids, hapart, fun g hg => ?_, hlow, hhigh, hfree⟩, fun g hg => ?_⟩
    · obtain ⟨h1, h2, h3, -, h5⟩ := hfields g hg
      exact ⟨h1, h2, h3, h5⟩
    · obtain ⟨-, -, -, h4, -⟩ := hfields g hg
      exact h4
  · rintro ⟨⟨hroom, hport, hids, hapart, hfields, hlow, hhigh, hfree⟩, hheld⟩
    refine ⟨hroom, hport, hids, hapart, fun g hg => ?_, hlow, hhigh, hfree⟩
    obtain ⟨h1, h2, h3, h5⟩ := hfields g hg
    exact ⟨h1, h2, h3, hheld g hg, h5⟩

/-- Soundness looks at what a grant's opening fixed alone. -/
theorem GrantList.Sound.of_shapes {l l' : GrantList} (h : l.Sound)
    (hsub : (l'.records.map Grant.shape).Sublist (l.records.map Grant.shape)) (hnext : l'.nextId = l.nextId) :
    l'.Sound := by
  have hlength : ∀ (gs : List Grant), (gs.map Grant.shape).length = gs.length := fun _ => List.length_map _
  have hfilter : ∀ (q : Port) (gs : List Grant), (gs.filter fun g => decide (g.port = q)).length =
      ((gs.map Grant.shape).filter fun g => decide (g.port = q)).length := fun q gs => by
    rw [List.filter_map, List.length_map]; rfl
  have hmem : ∀ g ∈ l'.records, ∃ x ∈ l.records, x.shape = g.shape := fun g hg => exists_shape hsub hg
  have hpairwise : ∀ {R : Grant → Grant → Prop}, (∀ g g', R g.shape g'.shape ↔ R g g') → l.records.Pairwise R →
      l'.records.Pairwise R := fun {R} hR hl => by
    have hshapes : (l.records.map Grant.shape).Pairwise R := List.pairwise_map.mpr (hl.imp fun {a b} => (hR a b).mpr)
    exact (List.pairwise_map.mp (hshapes.sublist hsub)).imp fun {a b} => (hR a b).mp
  refine ⟨?_, fun q => ?_, hpairwise (fun _ _ => Iff.rfl) h.ids, hpairwise (fun _ _ => Iff.rfl) h.apart, fun g hg => ?_,
    hnext ▸ h.nextLow, hnext ▸ h.nextHigh, fun g hg => ?_⟩
  · rw [← hlength]
    exact (hsub.length_le.trans_eq (hlength _)).trans h.room
  · rw [hfilter]
    exact ((hsub.filter _).length_le.trans_eq (hfilter q _).symm).trans (h.portRoom q)
  · obtain ⟨x, hx, hshape⟩ := hmem g hg
    obtain ⟨hid, -, -, hfirst, hlast, hlife⟩ := Grant.shape_eq_iff.mp hshape
    rw [← hid, ← hfirst, ← hlast, ← hlife]
    exact h.fields x hx
  · obtain ⟨x, hx, hshape⟩ := hmem g hg
    obtain ⟨hid, -⟩ := Grant.shape_eq_iff.mp hshape
    rw [hnext, ← hid]
    exact h.nextFree x hx

theorem State.grantsLegal_of_trims {s t : State} (h : s.grants.Trims t.grants) (hs : s.grantsLegal) : t.grantsLegal := by
  obtain ⟨hsound, hheld⟩ := State.grantsLegal_iff.mp hs
  exact State.grantsLegal_iff.mpr ⟨hsound.of_shapes h.records h.nextId, h.held hheld⟩

theorem State.grantsLegal_of_eq {s t : State} (h : t.grants = s.grants) (hs : s.grantsLegal) : t.grantsLegal := by
  refine State.grantsLegal_of_trims ?_ hs
  rw [h]; exact .refl _

/-! ### The next id (R128) -/

/-- The id after `id`, `k` times. -/
def idsFrom : Nat → Nat → List Nat
  | 0, _ => []
  | n + 1, id => id :: idsFrom n (idAfter id)

theorem freeId_spec (held : List Nat) (n id : Nat) :
    freeId held n id ∉ held ∨ ∀ i ∈ idsFrom n id, i ∈ held := by
  induction n generalizing id with
  | zero => exact .inr fun i hi => nomatch hi
  | succ n ih =>
    rw [freeId]
    split
    · refine (ih (idAfter id)).imp_right fun h i hi => ?_
      rcases List.mem_cons.mp hi with rfl | hi
      · exact List.contains_iff_mem.mp ‹_›
      · exact h i hi
    · exact .inl fun hmem => absurd (List.contains_iff_mem.mpr hmem) ‹_›

theorem idAfter_range {id : Nat} : 1 ≤ idAfter id ∧ idAfter id ≤ 255 := by
  unfold idAfter; split <;> omega

theorem freeId_range (held : List Nat) (n : Nat) {id : Nat} (h : 1 ≤ id ∧ id ≤ 255) :
    1 ≤ freeId held n id ∧ freeId held n id ≤ 255 := by
  induction n generalizing id with
  | zero => exact h
  | succ n ih =>
    rw [freeId]
    split
    · exact ih idAfter_range
    · exact h

theorem idsFrom_length (n id : Nat) : (idsFrom n id).length = n := by
  induction n generalizing id with
  | zero => rfl
  | succ n ih => rw [idsFrom, List.length_cons, ih]

/-- The ids from `id` on are `id`, `id + 1`, … around the 255 of them. -/
theorem idsFrom_eq {id : Nat} (n : Nat) (h : 1 ≤ id ∧ id ≤ 255) :
    idsFrom n id = (List.range n).map fun k => (id - 1 + k) % 255 + 1 := by
  induction n generalizing id with
  | zero => rfl
  | succ n ih =>
    rw [idsFrom, ih idAfter_range, List.range_succ_eq_map, List.map_cons, List.map_map]
    congr 1
    · omega
    · refine List.map_congr_left fun k _ => ?_
      simp only [Function.comp_apply, idAfter]
      split <;> omega

theorem idsFrom_nodup {id : Nat} (h : 1 ≤ id ∧ id ≤ 255) : (idsFrom 9 id).Nodup := by
  rw [idsFrom_eq 9 h]
  refine List.Nodup.map_on (fun a ha b hb hab => ?_) List.nodup_range
  simp only [List.mem_range] at ha hb
  omega

/-- At most eight ids are held, so one of the nine tried is free. -/
theorem freeId_not_mem {held : List Nat} (hroom : held.length ≤ 8) {id : Nat} (h : 1 ≤ id ∧ id ≤ 255) :
    freeId held 9 id ∉ held := by
  refine (freeId_spec held 9 id).resolve_right fun hall => ?_
  have hsub : (idsFrom 9 id).length ≤ held.length := ((idsFrom_nodup h).subperm hall).length_le
  rw [idsFrom_length] at hsub
  omega

/-! ### A grant joins the list (R129, R130) -/

/-- The grants that no checked range of R129 meets leave the range free. -/
theorem grantsApart_of_grantMeets {s : State} {p : Panel} {first last : Nat} (h : s.grantMeets p first last = false)
    {g x : Grant} (hg : g ∈ s.grants.records) (hpanel : x.panel = p) (hfirst : x.first = first) (hlast : x.last = last) :
    grantsApart g x := by
  intro hsame
  have hno := List.any_eq_false.mp h g hg
  simp only [Bool.and_eq_true, decide_eq_true_eq, not_and, not_le, and_imp] at hno
  have := hno (hsame.trans hpanel)
  omega

theorem writeOpen_grantsLegal {s : State} {q : Port} {p : Panel} {first last lifetime : Nat} (hrange : first ≤ last)
    (hlife : lifetime ≤ 63) (hmeets : s.grantMeets p first last = false)
    (hroom : s.grants.records.length < Config.grantLimit) (hport : (s.grantsOf q).length < Config.grantPortLimit)
    (hs : s.grantsLegal) :
    ({ s with grants := s.grants.append (s.newGrant q p first last lifetime) } : State).grantsLegal := by
  obtain ⟨hsound, hheld⟩ := State.grantsLegal_iff.mp hs
  let g := s.newGrant q p first last lifetime
  have hlast : ∀ {P : Grant → Prop}, (∀ x ∈ s.grants.records, P x) → P g → ∀ x ∈ s.grants.records ++ [g], P x :=
    fun {P} hl hg x hx => (List.mem_append.mp hx).elim (hl x) fun hx => (List.mem_singleton.mp hx) ▸ hg
  have happend : ∀ {R : Grant → Grant → Prop}, s.grants.records.Pairwise R → (∀ x ∈ s.grants.records, R x g) →
      (s.grants.records ++ [g]).Pairwise R := fun {R} hl hg =>
    List.pairwise_append.mpr ⟨hl, List.pairwise_singleton _ _, fun x hx y hy => (List.mem_singleton.mp hy) ▸ hg x hx⟩
  have hlifetime : 1 ≤ lifetimeOf lifetime ∧ lifetimeOf lifetime ≤ 63 := by
    unfold lifetimeOf; split <;> omega
  have hheldIds : ((s.grants.records ++ [g]).map Grant.id).length ≤ 8 := by
    simp only [List.length_map, List.length_append, List.length_singleton]
    exact hroom
  refine State.grantsLegal_iff.mpr ⟨⟨?_, fun q' => ?_, happend hsound.ids fun x hx => hsound.nextFree x hx,
    happend hsound.apart fun x hx => grantsApart_of_grantMeets hmeets hx rfl rfl rfl,
    hlast hsound.fields ⟨hsound.nextLow, hsound.nextHigh, hrange, hlifetime.2⟩,
    (freeId_range _ 9 idAfter_range).1, (freeId_range _ 9 idAfter_range).2, fun x hx hid => ?_⟩,
    hlast hheld hlifetime.1⟩
  · show (s.grants.records ++ [g]).length ≤ Config.grantLimit
    rw [List.length_append]
    exact hroom
  · show ((s.grants.records ++ [g]).filter fun x => decide (x.port = q')).length ≤ Config.grantPortLimit
    have hold := hsound.portRoom q'
    rw [List.filter_append, List.length_append, List.filter_singleton]
    by_cases hq : q = q'
    · subst hq
      have : (s.grants.records.filter fun x => decide (x.port = q)).length < Config.grantPortLimit := hport
      rw [show decide (g.port = q) = true from decide_eq_true rfl]
      exact this
    · rw [show decide (g.port = q') = false from decide_eq_false hq]
      exact hold
  · exact freeId_not_mem hheldIds idAfter_range (List.mem_map.mpr ⟨x, hx, hid⟩)

/-! ### The operations that change more than a frame -/

theorem closeWindow_trims (i : Nat) (w : Window) (reason : CloseReason) (s : State) :
    s.grants.Trims (closeWindow i w reason s).grants := by
  have hgrants : (closeWindow i w reason s).grants = (revokeAll (closeRevokeReason reason) (s.windowGrants w) s).grants := by
    simp only [closeWindow, post_grants]
  rw [hgrants]
  exact (Frame.revokeAll ..).grants

theorem closeIfOpen_trims (reason : CloseReason) (s : State) (i : Nat) :
    s.grants.Trims (closeIfOpen reason s i).grants := by
  unfold closeIfOpen
  split
  · exact closeWindow_trims ..
  · exact .refl _

theorem closeAllWindows_trims (reason : CloseReason) (s : State) : s.grants.Trims (closeAllWindows reason s).grants :=
  (((closeIfOpen_trims ..).trans (closeIfOpen_trims ..)).trans (closeIfOpen_trims ..)).trans (closeIfOpen_trims ..)

theorem enterFault_trims (reason : FaultReason) (elapsed : Nat) (s : State) :
    s.grants.Trims (enterFault reason elapsed s).grants :=
  (closeAllWindows_trims .fault (setSupervisionCause { s with monitor := s.monitor.fail reason })).trans
    (Frame.enterFault ..).grants

theorem disableMedia_grants (s : State) :
    (disableMedia s).grants = (revokeAll .portDisable (s.grantsOf .media)
      { s with mediaEnabled := false, media := { s.media with queue := [] } }).grants := by
  simp only [disableMedia, updPanel_grants]
  rfl

theorem disableMedia_trims (s : State) : s.grants.Trims (disableMedia s).grants := by
  rw [disableMedia_grants]
  exact (Frame.revokeAll .portDisable (s.grantsOf .media)
    { s with mediaEnabled := false, media := { s.media with queue := [] } }).grants

theorem reloadDevice_grants (h : HeldReset) (s : State) : (reloadDevice h s).grants = .afterReset := rfl

theorem turnOn_grants (p : Panel) (tA tB tC : Nat) (s : State) : (turnOn p tA tB tC s).grants = s.grants := by
  rw [turnOn, postPanelState_grants]; exact updPanel_grants ..

theorem autostart_grants (p : Panel) (flag : Bool) (s : State) : (autostart p flag s).grants = s.grants := by
  unfold autostart
  split
  · rw [turnOn_grants]; exact updPanel_grants ..
  · rfl

theorem reportHold_grants (s : State) : (reportHold s).grants = s.grants := by
  unfold reportHold
  split
  · exact postBoth_grants ..
  · rfl

theorem finishReset_grants (h : HeldReset) (s : State) : (finishReset h s).grants = .afterReset := by
  rw [finishReset, autostart_grants, autostart_grants, reportHold_grants, reloadDevice_grants]

theorem beginReset_grants (cause : ResetCause) (s : State) : (beginReset cause s).grants = s.grants := rfl

theorem afterReset_grantsLegal {s : State} (h : s.grants = .afterReset) : s.grantsLegal := by
  refine State.grantsLegal_iff.mpr ?_
  rw [h]
  have hnone : ∀ {P : Grant → Prop}, ∀ g ∈ GrantList.afterReset.records, P g := fun g hg => nomatch hg
  exact ⟨⟨Nat.zero_le _, fun q => Nat.zero_le _, .nil, .nil, hnone, Nat.le_refl 1, by decide, hnone⟩, hnone⟩

/-! ### Every step keeps the grant list legal -/

theorem Setup.keeps_grantsLegal {s t : State} (h : Setup s t) (hs : s.grantsLegal) : t.grantsLegal := by
  cases h with
  | configure p u => exact State.grantsLegal_of_eq (updPanel_grants ..) hs
  | lockMode p r settings =>
    exact State.grantsLegal_of_trims (Frame.lockMode ..).grants (State.grantsLegal_of_eq (updPanel_grants ..) hs)
  | bandLayout p bMax layout => exact State.grantsLegal_of_eq (updPanel_grants ..) hs
  | lineWatch p q position content => exact State.grantsLegal_of_eq (updPanel_grants ..) hs
  | crcSet band crc limit b =>
    refine State.grantsLegal_of_trims (Frame.crcSet ..).grants (State.grantsLegal_of_eq ?_ hs)
    split <;> rfl
  | touchGroups specs r scan => exact hs
  | freqTable specs hysteresis hopHold => exact hs
  | backlight p r settings => exact State.grantsLegal_of_eq (updPanel_grants ..) hs
  | windowOpen i w n => exact State.grantsLegal_of_eq (post_grants ..) hs
  | windowClose i w => exact State.grantsLegal_of_trims (closeWindow_trims ..) hs
  | writeOpen q p first last lifetime hport hrange hlast hlife hstate howner hmeets hroom hport' =>
    exact writeOpen_grantsLegal hrange hlife hmeets hroom hport' hs
  | panelOn p tA tB tC => exact State.grantsLegal_of_eq (turnOn_grants ..) hs
  | superviseStart w f => exact hs
  | newPeriod => exact hs
  | enterFault reason elapsed => exact State.grantsLegal_of_trims (enterFault_trims ..) hs
  | clearFault m => exact hs
  | mediaEnable => exact hs
  | mediaDisable => exact State.grantsLegal_of_trims (disableMedia_trims s) hs
  | profileWrite a b done => exact hs
  | profileWriteDone w => exact State.grantsLegal_of_eq (post_grants ..) hs

theorem Outer.keeps_grantsLegal {s t : State} (h : Outer s t) (hs : s.grantsLegal) : t.grantsLegal := by
  cases h with
  | powerGood p level => exact State.grantsLegal_of_eq (updPanel_grants ..) hs
  | warningPin level => exact hs
  | beginReset cause => exact State.grantsLegal_of_eq (beginReset_grants cause s) hs
  | finishReset h => exact afterReset_grantsLegal (finishReset_grants h s)
  | tick => exact State.grantsLegal_of_eq ((updPanel_grants ..).trans (updPanel_grants ..)) hs

theorem Bookkeeping.keeps_grantsLegal {s t : State} (h : Bookkeeping s t) (hs : s.grantsLegal) : t.grantsLegal := by
  cases h with
  | queue is => exact hs
  | free n => exact hs
  | requested => exact hs
  | port q f => exact State.grantsLegal_of_eq (updPort_grants ..) hs

/-- Settles O56: a running device only loses grants, and WRITE_OPEN adds one that the checks of R129 let in, under an id
that R128 keeps free. -/
theorem stepKeepsGrantsLegal : Obligations.StepKeepsGrantsLegal := by
  intro s t hs hstep
  refine step_keeps (P := State.grantsLegal) (fun s t hmove hs => ?_) hstep hs
  cases hmove with
  | bookkeeping h => exact h.keeps_grantsLegal hs
  | outer h => exact h.keeps_grantsLegal hs
  | effect hreset h =>
    cases h with
    | setup h => exact h.keeps_grantsLegal hs
    | running h => exact State.grantsLegal_of_trims h.frame.grants hs

end Sys2Proof.Machine

/-!
PROOF. Every step keeps the DISABLED media port empty, the fallback in force, and media grants on lent bands (O57).
-/

namespace Sys2Proof.Machine

open Sys2Proof

/-- The three properties of O57 together. -/
structure State.Owned (s : State) : Prop where
  disabled : s.disabledHoldsNothing
  fallback : s.fallbackHolds
  lent : s.mediaGrantsLent

/-- What the three properties look at, kept or weakened. -/
structure OwnFrame (s t : State) : Prop where
  mediaEnabled : t.mediaEnabled = false → s.mediaEnabled = false
  grants : (t.grants.records.map Grant.shape).Sublist (s.grants.records.map Grant.shape)
  watches : t.mediaEnabled = false → ∀ p, (s.panel p).mediaWatch = .empty → (t.panel p).mediaWatch = .empty
  slots : t.windows.slots = s.windows.slots
  monitor : t.monitor.state = .fault → s.monitor.state = .fault
  supervision : t.monitor.state = .fault → s.faults.supervision = true → t.faults.supervision = true
  specs : t.cluster.bands.records.map Band.spec = s.cluster.bands.records.map Band.spec

theorem Frame.own {s t : State} (h : Frame s t) : OwnFrame s t where
  mediaEnabled := fun hoff => h.mediaEnabled ▸ hoff
  grants := h.grants.records
  watches := fun _ p => (h.panel p).mediaWatch
  slots := h.windows
  monitor := fun hfault => h.monitor ▸ hfault
  supervision := fun _ => h.supervision
  specs := congrArg PanelProfile.bands (h.panel .cluster).items

theorem OwnFrame.trans {s t u : State} (h : OwnFrame s t) (h' : OwnFrame t u) : OwnFrame s u where
  mediaEnabled := h.mediaEnabled ∘ h'.mediaEnabled
  grants := h'.grants.trans h.grants
  watches := fun hoff p => h'.watches hoff p ∘ h.watches (h'.mediaEnabled hoff) p
  slots := h'.slots.trans h.slots
  monitor := h.monitor ∘ h'.monitor
  supervision := fun hfault => h'.supervision hfault ∘ h.supervision (h'.monitor hfault)
  specs := h'.specs.trans h.specs

/-- Band `i` under a layout: its first line and its record's layout part fix whether it is lent. -/
theorem exists_placed_of_specs {t u : BandTable} (h : u.records.map Band.spec = t.records.map Band.spec) {x : Placed}
    (hx : x ∈ u.placed) :
    ∃ y ∈ t.placed, y.index = x.index ∧ ∀ w, lends w y = lends w x := by
  obtain ⟨k, b, hb, rfl⟩ := u.mem_placed.mp hx
  have hget : (t.records.map Band.spec)[k]? = some b.spec := by rw [← h, List.getElem?_map, hb]; rfl
  rw [List.getElem?_map, Option.map_eq_some_iff] at hget
  obtain ⟨c, hc, hspec⟩ := hget
  have hlines : c.lines = b.lines := congrArg BandSpec.lines hspec
  have hcls : c.cls = b.cls := congrArg BandSpec.cls hspec
  have hmap : ∀ v : BandTable, v.records.map Band.lines = (v.records.map Band.spec).map BandSpec.lines := fun v => by
    rw [List.map_map]; rfl
  have hfirst : t.firstLine k = u.firstLine k := by
    simp only [BandTable.firstLine, List.map_take, hmap, h]
  refine ⟨_, t.mem_placed.mpr ⟨k, c, hc, rfl⟩, rfl, fun w => ?_⟩
  simp only [lends, Placed.stop, hlines, hcls, hfirst]
  rfl

theorem lentBy_congr {x y : Placed} (h : ∀ w, lends w y = lends w x) (slots : List (Option Window)) :
    lentBy slots y = lentBy slots x := by simp only [lentBy, h]

theorem Grant.covers_congr {g g' : Grant} (h : g.shape = g'.shape) (p : Panel) (i : Nat) :
    g.covers p i = g'.covers p i := by
  obtain ⟨-, -, hpanel, hfirst, hlast, -⟩ := Grant.shape_eq_iff.mp h
  simp only [Grant.covers, hpanel, hfirst, hlast]

theorem disabledHoldsNothing_of_frame {s t : State} (h : OwnFrame s t) (hs : s.disabledHoldsNothing) :
    t.disabledHoldsNothing := by
  intro hoff
  obtain ⟨hgrants, hcluster, hcentre⟩ := hs (h.mediaEnabled hoff)
  refine ⟨fun g hg => ?_, h.watches hoff .cluster hcluster, h.watches hoff .centre hcentre⟩
  obtain ⟨x, hx, hshape⟩ := exists_shape h.grants hg
  obtain ⟨-, hport, -⟩ := Grant.shape_eq_iff.mp hshape
  exact hport ▸ hgrants x hx

theorem mediaGrantsLent_of_frame {s t : State} (h : OwnFrame s t) (hs : s.mediaGrantsLent) : t.mediaGrantsLent := by
  obtain ⟨hlength, hlent⟩ := hs
  refine ⟨h.slots ▸ hlength, fun g hg hmedia b hb hcovers => ?_⟩
  obtain ⟨x, hx, hshape⟩ := exists_shape h.grants hg
  obtain ⟨-, hport, -⟩ := Grant.shape_eq_iff.mp hshape
  obtain ⟨y, hy, hindex, hlends⟩ := exists_placed_of_specs h.specs hb
  rw [h.slots, ← lentBy_congr hlends]
  refine hlent x hx (hport.trans hmedia) y hy ?_
  rw [Grant.covers_congr hshape, hindex]
  exact hcovers

theorem State.Owned.of_frame {s t : State} (h : OwnFrame s t) (hs : s.Owned) : t.Owned := by
  obtain ⟨hdisabled, ⟨hlength, hfallback⟩, hlent⟩ := hs
  refine ⟨disabledHoldsNothing_of_frame h hdisabled, ⟨h.slots ▸ hlength, fun hfault => ?_⟩,
    mediaGrantsLent_of_frame h hlent⟩
  obtain ⟨hclosed, hset⟩ := hfallback (h.monitor hfault)
  exact ⟨h.slots ▸ hclosed, h.supervision hfault hset⟩

/-! ### Changes of one panel -/

theorem OwnFrame.updPanel {s : State} {p : Panel} {f : PanelState → PanelState}
    (hwatch : s.mediaEnabled = false → (f (s.panel p)).mediaWatch = (s.panel p).mediaWatch)
    (hspec : p = .cluster → (f (s.panel p)).bands.records.map Band.spec = (s.panel p).bands.records.map Band.spec) :
    OwnFrame s (s.updPanel p f) where
  mediaEnabled := fun hoff => updPanel_mediaEnabled s p f ▸ hoff
  grants := by rw [updPanel_grants]
  watches := fun hoff p' => by
    rw [panel_updPanel_ite]
    split
    · subst p'; rw [hwatch (updPanel_mediaEnabled s p f ▸ hoff)]; exact id
    · exact id
  slots := by rw [updPanel_windows]
  monitor := fun hfault => updPanel_monitor s p f ▸ hfault
  supervision := fun _ => by rw [updPanel_faults]; exact id
  specs := by cases p with
    | cluster => exact hspec rfl
    | centre => rfl

/-- A change of a panel that leaves its bands and its watches. -/
theorem OwnFrame.updPanel_of_eq {s : State} {p : Panel} {f : PanelState → PanelState}
    (hwatch : (f (s.panel p)).mediaWatch = (s.panel p).mediaWatch) (hbands : (f (s.panel p)).bands = (s.panel p).bands) :
    OwnFrame s (s.updPanel p f) := .updPanel (fun _ => hwatch) fun _ => by rw [hbands]

/-- Fields that the three properties do not look at. -/
theorem OwnFrame.unseen (s : State) (touch : Touch) (limit : Nat) (profile : ProfileStore) (supply : Supply) :
    OwnFrame s { s with touch := touch, mismatchLimit := limit, profile := profile, supply := supply } :=
  ⟨id, .refl _, fun _ p => by cases p <;> exact id, rfl, id, fun _ => id, rfl⟩

/-- New bands on a panel whose layout nothing holds (R2, R25). -/
theorem State.Owned.relayout {s : State} {p : Panel} {f : PanelState → PanelState} (hs : s.Owned)
    (hheld : s.layoutHeld p = false) (hwatch : (f (s.panel p)).mediaWatch = (s.panel p).mediaWatch) :
    (s.updPanel p f).Owned := by
  cases p with
  | centre => exact hs.of_frame (.updPanel (fun _ => hwatch) fun h => nomatch h)
  | cluster =>
    have hnone : ∀ g ∈ s.grants.records, g.panel ≠ .cluster := fun g hg hpanel => by
      have hany : s.anyGrant .cluster = true := List.any_eq_true.mpr ⟨g, hg, decide_eq_true hpanel⟩
      rw [State.layoutHeld, hany, Bool.or_true] at hheld
      cases hheld
    obtain ⟨hdisabled, hfallback, hlent⟩ := hs
    refine ⟨fun hoff => ?_, hfallback, hlent.1, fun g hg _ b _ hcovers => ?_⟩
    · obtain ⟨hgrants, hcluster, hcentre⟩ := hdisabled hoff
      exact ⟨hgrants, hwatch.trans hcluster, hcentre⟩
    · have hpanel : g.panel = .cluster := by
        rw [Grant.covers, Bool.and_eq_true, Bool.and_eq_true, decide_eq_true_eq] at hcovers
        exact hcovers.1.1
      exact absurd hpanel (hnone g hg)

/-! ### Windows -/

theorem lentBy_set {slots : List (Option Window)} {i : Nat} {w : Window} (hclosed : slots.getD i none = none) {x : Placed}
    (h : lentBy slots x = true) : lentBy (slots.set i (some w)) x = true := by
  obtain ⟨o, ho, hlends⟩ := List.any_eq_true.mp h
  obtain ⟨j, hj⟩ := List.mem_iff_getElem?.mp ho
  have hne : i ≠ j := fun hij => by
    subst hij
    rw [List.getD_eq_getElem?_getD, hj] at hclosed
    rw [show o = none from hclosed] at hlends
    cases hlends
  refine List.any_eq_true.mpr ⟨o, List.mem_iff_getElem?.mpr ⟨j, ?_⟩, hlends⟩
  rw [List.getElem?_set_ne hne, hj]

theorem State.Owned.openWindow {s : State} {i : Nat} (w : Window) (hs : s.Owned) (hstate : s.monitor.state ≠ .fault)
    (hclosed : s.windows.slots.getD i none = none) :
    ({ s with windows := { s.windows with slots := s.windows.slots.set i (some w) } } : State).Owned := by
  obtain ⟨hdisabled, ⟨hlength, -⟩, hlent⟩ := hs
  have hlength' : (s.windows.slots.set i (some w)).length = 4 := by rw [List.length_set, hlength]
  exact ⟨hdisabled, ⟨hlength', fun hfault => absurd hfault hstate⟩, hlength', fun g hg hport b hb hcovers =>
    lentBy_set hclosed (hlent.2 g hg hport b hb hcovers)⟩

/-- A band under a grant that a close of window `i` leaves is lent by another window. -/
theorem lentBy_set_none {slots : List (Option Window)} {i : Nat} {w : Window} (hopen : slots.getD i none = some w)
    {x : Placed} (hnot : lends w x = false) (h : lentBy slots x = true) : lentBy (slots.set i none) x = true := by
  obtain ⟨o, ho, hlends⟩ := List.any_eq_true.mp h
  obtain ⟨j, hj⟩ := List.mem_iff_getElem?.mp ho
  have hne : i ≠ j := fun hij => by
    subst hij
    rw [List.getD_eq_getElem?_getD, hj] at hopen
    rw [show o = some w from hopen, Option.any_some, hnot] at hlends
    cases hlends
  refine List.any_eq_true.mpr ⟨o, List.mem_iff_getElem?.mpr ⟨j, ?_⟩, hlends⟩
  rw [List.getElem?_set_ne hne, hj]

/-- The grants a revocation leaves are none of those revoked. -/
theorem not_mem_of_mem_revokeAll {reason : RevokeReason} {gs : List Grant} {s : State} {g : Grant}
    (h : g ∈ (revokeAll reason gs s).grants.records) : g ∉ gs := by
  rw [revokeAll_grants] at h
  obtain ⟨-, hkeep⟩ := List.mem_filter.mp h
  exact fun hmem => by simpa using List.all_eq_true.mp hkeep g hmem

theorem mem_of_mem_revokeAll {reason : RevokeReason} {gs : List Grant} {s : State} {g : Grant}
    (h : g ∈ (revokeAll reason gs s).grants.records) : g ∈ s.grants.records := by
  rw [revokeAll_grants] at h
  exact (List.mem_filter.mp h).1

/-- Grants revoked for window `i`, which then is CLOSED. -/
theorem mediaGrantsLent_closeWindow {s : State} {i : Nat} {w : Window} (reason : CloseReason)
    (hopen : s.windows.slots.getD i none = some w) (hs : s.mediaGrantsLent) : (closeWindow i w reason s).mediaGrantsLent := by
  obtain ⟨hlength, hlent⟩ := hs
  have hrevoke := Frame.revokeAll (closeRevokeReason reason) (s.windowGrants w) s
  refine ⟨by rw [closeWindow_windows, List.length_set, hlength], fun g hg hport b hb hcovers => ?_⟩
  rw [closeWindow_windows]
  have hgrants : g ∈ (revokeAll (closeRevokeReason reason) (s.windowGrants w) s).grants.records := by
    simpa only [closeWindow, post_grants] using hg
  have hbands : b ∈ (revokeAll (closeRevokeReason reason) (s.windowGrants w) s).cluster.bands.placed := by
    simpa only [closeWindow, post_cluster] using hb
  obtain ⟨y, hy, hindex, hlends⟩ := exists_placed_of_specs hrevoke.own.specs hbands
  have hmem := mem_of_mem_revokeAll hgrants
  rw [← hindex] at hcovers
  refine (lentBy_congr hlends _) ▸ lentBy_set_none hopen ?_ (hlent g hmem hport y hy hcovers)
  refine Bool.eq_false_iff.mpr fun hy' => not_mem_of_mem_revokeAll hgrants (List.mem_filter.mpr ⟨hmem, ?_⟩)
  rw [Bool.and_eq_true, decide_eq_true_eq]
  exact ⟨hport, List.any_eq_true.mpr ⟨y, List.mem_filter.mpr ⟨hy, hy'⟩, hcovers⟩⟩

/-- What a close leaves of the DISABLED port. -/
theorem disabledHoldsNothing_closeWindow {s : State} (i : Nat) (w : Window) (reason : CloseReason)
    (hs : s.disabledHoldsNothing) : (closeWindow i w reason s).disabledHoldsNothing := by
  have h : OwnFrame { s with windows := { s.windows with slots := s.windows.slots.set i none } }
      (closeWindow i w reason s) := by
    have hrevoke := (Frame.revokeAll (closeRevokeReason reason) (s.windowGrants w) s).own
    unfold Machine.closeWindow
    refine OwnFrame.trans ?_ (Frame.post ..).own
    refine ⟨hrevoke.mediaEnabled, hrevoke.grants, fun hoff p => ?_, ?_, hrevoke.monitor, hrevoke.supervision,
      hrevoke.specs⟩
    · cases p with
      | cluster => exact hrevoke.watches hoff .cluster
      | centre => exact hrevoke.watches hoff .centre
    · simp only [revokeAll_windows]
  exact disabledHoldsNothing_of_frame h hs

theorem State.Owned.closeWindow {s : State} {i : Nat} {w : Window} (reason : CloseReason)
    (hopen : s.windows.slots.getD i none = some w) (hs : s.Owned) : (closeWindow i w reason s).Owned := by
  refine ⟨disabledHoldsNothing_closeWindow i w reason hs.disabled, ⟨?_, fun hfault => ?_⟩,
    mediaGrantsLent_closeWindow reason hopen hs.lent⟩
  · rw [closeWindow_windows, List.length_set, hs.fallback.1]
  · rw [closeWindow_monitor] at hfault
    obtain ⟨hclosed, hset⟩ := hs.fallback.2 hfault
    rw [closeWindow_windows, closeWindow_faults]
    refine ⟨fun o ho => ?_, hset⟩
    exact (List.mem_or_eq_of_mem_set ho).elim (hclosed o) id

/-! ### Entry into FAULT -/

/-- What an entry into FAULT keeps while it closes the windows. -/
structure State.Closing (s : State) : Prop where
  disabled : s.disabledHoldsNothing
  lent : s.mediaGrantsLent

theorem State.Closing.closeIfOpen {s : State} (reason : CloseReason) (i : Nat) (hs : s.Closing) :
    (closeIfOpen reason s i).Closing := by
  unfold Machine.closeIfOpen
  split
  · rename_i w hw
    refine ⟨disabledHoldsNothing_closeWindow i w reason hs.disabled, mediaGrantsLent_closeWindow reason ?_ hs.lent⟩
    rw [List.getD_eq_getElem?_getD, hw]
    rfl
  · exact hs

theorem State.Closing.closeAllWindows {s : State} (reason : CloseReason) (hs : s.Closing) :
    (closeAllWindows reason s).Closing :=
  (((hs.closeIfOpen reason 0).closeIfOpen reason 1).closeIfOpen reason 2).closeIfOpen reason 3

/-- Closing window `i` leaves it CLOSED, open or not. -/
theorem closeIfOpen_slots (reason : CloseReason) (s : State) (i : Nat) :
    (closeIfOpen reason s i).windows.slots = s.windows.slots.set i none := by
  unfold closeIfOpen
  split
  · rw [closeWindow_windows]
  · rename_i h
    refine List.ext_getElem? fun k => ?_
    by_cases hk : i = k
    · subst hk
      rw [List.getElem?_set_self']
      rcases hslot : s.windows.slots[i]? with - | - | w
      · rfl
      · rfl
      · exact absurd hslot (h w)
    · rw [List.getElem?_set_ne hk]

theorem closeAllWindows_slots (reason : CloseReason) {s : State} (h : s.windows.slots.length = 4) :
    (closeAllWindows reason s).windows.slots = [none, none, none, none] := by
  simp only [closeAllWindows, List.foldl_cons, List.foldl_nil, closeIfOpen_slots]
  obtain ⟨a, b, c, d, hslots⟩ : ∃ a b c d, s.windows.slots = [a, b, c, d] := by
    match s.windows.slots, h with
    | [a, b, c, d], _ => exact ⟨a, b, c, d, rfl⟩
  rw [hslots]
  rfl

theorem State.Owned.enterFault {s : State} (reason : FaultReason) (elapsed : Nat) (hs : s.Owned) :
    (enterFault reason elapsed s).Owned := by
  let u := closeAllWindows .fault (setSupervisionCause { s with monitor := s.monitor.fail reason })
  have hclosing : u.Closing :=
    State.Closing.closeAllWindows (s := setSupervisionCause { s with monitor := s.monitor.fail reason }) .fault
      ⟨hs.disabled, hs.lent⟩
  have hslots : u.windows.slots = [none, none, none, none] := closeAllWindows_slots .fault hs.fallback.1
  have hcause : u.faults.supervision = true := by rw [closeAllWindows_faults]; rfl
  have hu : u.Owned := by
    refine ⟨hclosing.disabled, ⟨by rw [hslots]; rfl, fun _ => ⟨fun o ho => ?_, hcause⟩⟩, hclosing.lent⟩
    rw [hslots] at ho
    simpa using ho
  exact hu.of_frame (Frame.enterFault reason elapsed s).own

/-! ### WRITE_OPEN, MEDIA_DISABLE -/

theorem State.Owned.writeOpen {s : State} {q : Port} {p : Panel} {first last lifetime : Nat}
    (hport : q = .media → s.mediaEnabled = true) (howner : ∀ b ∈ s.bandsIn p first last, s.owner p b = ownerOfPort q)
    (hs : s.Owned) : ({ s with grants := s.grants.append (s.newGrant q p first last lifetime) } : State).Owned := by
  obtain ⟨hdisabled, hfallback, hlent⟩ := hs
  refine ⟨fun hoff => ?_, hfallback, hlent.1, fun g hg hmedia b hb hcovers => ?_⟩
  · obtain ⟨hgrants, hwatches⟩ := hdisabled hoff
    refine ⟨fun g hg => ?_, hwatches⟩
    rcases List.mem_append.mp hg with hg | hg
    · exact hgrants g hg
    · obtain rfl := List.mem_singleton.mp hg
      cases q with
      | supervisor => rfl
      | media => exact absurd (hport rfl) (by rw [show s.mediaEnabled = false from hoff]; decide)
  · rcases List.mem_append.mp hg with hg | hg
    · exact hlent.2 g hg hmedia b hb hcovers
    · obtain rfl := List.mem_singleton.mp hg
      obtain rfl : q = .media := hmedia
      rw [Grant.covers, Bool.and_assoc, Bool.and_eq_true, decide_eq_true_eq] at hcovers
      obtain ⟨hpanel, hin⟩ := hcovers
      obtain rfl : p = .cluster := hpanel
      have hb' : b ∈ s.bandsIn .cluster first last := List.mem_filter.mpr ⟨hb, hin⟩
      have howned := howner b hb'
      simp only [State.owner] at howned
      split at howned
      · assumption
      · cases howned

theorem State.Owned.disableMedia {s : State} (hs : s.Owned) : (disableMedia s).Owned := by
  let s1 : State := { s with mediaEnabled := false, media := { s.media with queue := [] } }
  let s2 := revokeAll .portDisable (s1.grantsOf .media) s1
  have hframe : Frame s1 s2 := .revokeAll ..
  have hlent : s2.mediaGrantsLent := mediaGrantsLent_of_frame hframe.own hs.lent
  have hfallback : s2.fallbackHolds := by
    obtain ⟨hlength, hfault⟩ := hs.fallback
    refine ⟨hframe.windows ▸ hlength, fun h => ?_⟩
    obtain ⟨hclosed, hset⟩ := hfault (hframe.own.monitor h)
    exact ⟨hframe.windows ▸ hclosed, hframe.supervision hset⟩
  refine ⟨fun _ => ⟨fun g hg => ?_, rfl, rfl⟩, hfallback, hlent⟩
  have hnot := not_mem_of_mem_revokeAll (s := s1) hg
  have hmem := mem_of_mem_revokeAll (s := s1) hg
  cases hport : g.port with
  | supervisor => rfl
  | media => exact absurd (List.mem_filter.mpr ⟨hmem, decide_eq_true hport⟩) hnot

/-! ### Every step -/

theorem Setup.keeps_owned {s t : State} (h : Setup s t) (hs : s.Owned) : t.Owned := by
  cases h with
  | configure p u hstate hheld =>
    by_cases hact : u.nAct = (s.panel p).timing.nAct
    · refine hs.of_frame (.updPanel (fun _ => rfl) fun _ => ?_)
      simp only [PanelState.configure, recordsUnder, if_pos hact]
    · exact hs.relayout (hheld hact) rfl
  | lockMode p r settings => exact (hs.of_frame (.updPanel_of_eq rfl rfl)).of_frame (Frame.lockMode ..).own
  | bandLayout p bMax layout hstate hheld => exact hs.relayout hheld rfl
  | lineWatch p q position content hport =>
    refine hs.of_frame (.updPanel (fun hoff => ?_) fun _ => ?_)
    · cases q with
      | supervisor => rfl
      | media => rw [hport rfl] at hoff; cases hoff
    · cases q <;> rfl
  | crcSet band crc limit b =>
    refine State.Owned.of_frame (Frame.crcSet s band crc limit).own ?_
    split
    · exact hs
    · exact hs.of_frame (.unseen s s.touch limit s.profile s.supply)
  | touchGroups specs r scan => exact hs.of_frame (.unseen s _ s.mismatchLimit s.profile s.supply)
  | freqTable specs hysteresis hopHold => exact hs.of_frame (.unseen s _ s.mismatchLimit s.profile s.supply)
  | backlight p r settings => exact hs.of_frame (.updPanel_of_eq rfl rfl)
  | windowOpen i w n hindex hstate hclosed =>
    exact (hs.openWindow w hstate hclosed).of_frame (Frame.post ..).own
  | windowClose i w hopen => exact hs.closeWindow .request hopen
  | writeOpen q p first last lifetime hport hrange hlast hlife hstate howner => exact hs.writeOpen hport howner
  | panelOn p tA tB tC =>
    exact (hs.of_frame (.updPanel_of_eq rfl rfl)).of_frame (Frame.turnOn p tA tB tC s).own
  | superviseStart w f => exact ⟨hs.disabled, ⟨hs.fallback.1, fun hfault => nomatch hfault⟩, hs.lent⟩
  | newPeriod => exact ⟨hs.disabled, ⟨hs.fallback.1, fun hfault => nomatch hfault⟩, hs.lent⟩
  | enterFault reason elapsed => exact hs.enterFault reason elapsed
  | clearFault m =>
    refine ⟨hs.disabled, ⟨hs.fallback.1, fun hfault => ?_⟩, hs.lent⟩
    obtain ⟨hclosed, hset⟩ := hs.fallback.2 hfault
    refine ⟨hclosed, ?_⟩
    show (s.causesAfter m).supervision = true
    rw [State.causesAfter_eq]
    simp only [hset, show s.monitor.state = .fault from hfault, not_true_eq_false, and_false, if_false]
  | mediaEnable => exact ⟨fun hoff => (nomatch hoff), hs.fallback, hs.lent⟩
  | mediaDisable => exact hs.disableMedia
  | profileWrite a b done => exact hs.of_frame (.unseen s s.touch s.mismatchLimit _ s.supply)
  | profileWriteDone w =>
    unfold finishWrite
    exact (hs.of_frame (.unseen s s.touch s.mismatchLimit _ s.supply)).of_frame (Frame.post ..).own

theorem OwnFrame.autostart (p : Panel) (flag : Bool) (s : State) : OwnFrame s (autostart p flag s) := by
  unfold Machine.autostart
  split
  · exact (OwnFrame.updPanel_of_eq rfl rfl).trans ((OwnFrame.updPanel_of_eq rfl rfl).trans (Frame.turnOn ..).own)
  · exact (Frame.refl s).own

theorem Outer.keeps_owned {s t : State} (h : Outer s t) (hs : s.Owned) : t.Owned := by
  cases h with
  | powerGood p level => exact hs.of_frame (.updPanel_of_eq rfl rfl)
  | warningPin level => exact hs.of_frame (.unseen s s.touch s.mismatchLimit s.profile _)
  | beginReset cause =>
    exact ⟨hs.disabled, ⟨hs.fallback.1, fun hfault => nomatch hfault⟩, hs.lent⟩
  | finishReset h =>
    have hreload : (reloadDevice h s).Owned :=
      ⟨fun _ => ⟨fun g hg => (nomatch hg), rfl, rfl⟩, ⟨rfl, fun hfault => nomatch hfault⟩, rfl, fun g hg => nomatch hg⟩
    have hreport : OwnFrame (reloadDevice h s) (reportHold (reloadDevice h s)) := (Frame.ite (.postBoth ..) (.refl _)).own
    exact hreload.of_frame ((hreport.trans (.autostart ..)).trans (.autostart ..))
  | tick =>
    have htick : ({ s with count := s.count.after 1, free := s.free + 1, monitor := s.monitor.tick } : State).Owned := by
      refine ⟨hs.disabled, ⟨hs.fallback.1, fun hfault => hs.fallback.2 ?_⟩, hs.lent⟩
      have hstate : s.monitor.tick.state = s.monitor.state := by unfold Monitor.tick; split <;> rfl
      exact hstate ▸ hfault
    unfold Machine.tick
    exact htick.of_frame ((OwnFrame.updPanel_of_eq rfl rfl).trans (.updPanel_of_eq rfl rfl))

theorem Bookkeeping.own {s t : State} (h : Bookkeeping s t) : OwnFrame s t := by
  cases h with
  | port q f hf =>
    exact ⟨fun hoff => updPort_mediaEnabled s q f ▸ hoff, by rw [updPort_grants], fun _ p => by rw [panel_updPort]; exact id,
      by rw [updPort_windows], fun hfault => updPort_monitor s q f ▸ hfault, fun _ => by rw [updPort_faults]; exact id,
      by rw [updPort_cluster]⟩
  | queue is => exact ⟨id, .refl _, fun _ p => by cases p <;> exact id, rfl, id, fun _ => id, rfl⟩
  | free n => exact ⟨id, .refl _, fun _ p => by cases p <;> exact id, rfl, id, fun _ => id, rfl⟩
  | requested => exact ⟨id, .refl _, fun _ p => by cases p <;> exact id, rfl, id, fun _ => id, rfl⟩

/-- Settles O57: what the running device does leaves grants, windows and watches be or takes them away; a request that
adds one passed the check that lets it. -/
theorem stepKeepsOwnership : Obligations.StepKeepsOwnership := by
  intro s t hdisabled hfallback hlent hstep
  have ht : t.Owned := step_keeps (P := State.Owned) (fun s t hmove hs => ?_) hstep ⟨hdisabled, hfallback, hlent⟩
  · exact ⟨ht.disabled, ht.fallback, ht.lent⟩
  · cases hmove with
    | bookkeeping h => exact hs.of_frame h.own
    | outer h => exact h.keeps_owned hs
    | effect hreset h =>
      cases h with
      | setup h => exact h.keeps_owned hs
      | running h => exact hs.of_frame h.frame.own

end Sys2Proof.Machine

/-!
PROOF. Every step keeps the live and the stored configuration such as the requests' checks take (O59): each request that
replaces a part of it passed the checks of that part, a write copies what is live, and a reset loads a legal record or the
factory defaults.
-/

namespace Sys2Proof.Machine

open Sys2Proof

/-! ### What the configuration is made of -/

/-- What the legality of the configuration looks at, kept or weakened. -/
structure ConfigFrame (s t : State) : Prop where
  items : ∀ p, (t.panel p).items = (s.panel p).items
  touch : s.touch.items.legal → t.touch.items.legal
  mismatchLimit : t.mismatchLimit = s.mismatchLimit
  defPeriod : t.monitor.defPeriod = s.monitor.defPeriod
  defFraction : t.monitor.defFraction = s.monitor.defFraction
  profile : t.profile = s.profile

theorem Frame.config {s t : State} (h : Frame s t) : ConfigFrame s t where
  items := fun p => (h.panel p).items
  touch := h.touch
  mismatchLimit := h.mismatchLimit
  defPeriod := by rw [h.monitor]
  defFraction := by rw [h.monitor]
  profile := h.profile

theorem ConfigFrame.trans {s t u : State} (h : ConfigFrame s t) (h' : ConfigFrame t u) : ConfigFrame s u where
  items := fun p => (h'.items p).trans (h.items p)
  touch := h'.touch ∘ h.touch
  mismatchLimit := h'.mismatchLimit.trans h.mismatchLimit
  defPeriod := h'.defPeriod.trans h.defPeriod
  defFraction := h'.defFraction.trans h.defFraction
  profile := h'.profile.trans h.profile

/-- Fields that the configuration does not look at. -/
theorem ConfigFrame.unseen (s : State) (windows : WindowTable) (grants : GrantList) (faults : Causes) (media : PortState)
    (enabled : Bool) (supply : Supply) :
    ConfigFrame s { s with windows := windows, grants := grants, faults := faults, media := media
                           mediaEnabled := enabled, supply := supply } :=
  ⟨fun p => by cases p <;> rfl, id, rfl, rfl, rfl, rfl⟩

/-- Another monitor with the same defaults. -/
theorem ConfigFrame.monitor (s : State) {m : Monitor} (hperiod : m.defPeriod = s.monitor.defPeriod)
    (hfraction : m.defFraction = s.monitor.defFraction) : ConfigFrame s { s with monitor := m } :=
  ⟨fun p => by cases p <;> rfl, id, rfl, hperiod, hfraction, rfl⟩

theorem ConfigFrame.updPanel {s : State} {p : Panel} {f : PanelState → PanelState}
    (h : (f (s.panel p)).items = (s.panel p).items) : ConfigFrame s (s.updPanel p f) where
  items := fun p' => by
    rw [panel_updPanel_ite]
    split
    · subst p'; exact h
    · rfl
  touch := by rw [updPanel_touch]; exact id
  mismatchLimit := updPanel_mismatchLimit ..
  defPeriod := by rw [updPanel_monitor]
  defFraction := by rw [updPanel_monitor]
  profile := updPanel_profile ..

/-- The legality of the live configuration, part by part. -/
structure State.LiveLegal (s : State) : Prop where
  mismatchLimit : inRange 1 7 s.mismatchLimit = true
  defPeriod : inRange 10 2000 s.monitor.defPeriod = true
  defFraction : s.monitor.defFraction = 25 ∨ s.monitor.defFraction = 50 ∨ s.monitor.defFraction = 75 ∨
    s.monitor.defFraction = 100
  panel : ∀ p, (s.panel p).items.legal
  partner : ∀ p, ¬((s.panel p).lock.settings.source = .partner ∧
    (s.panel (otherPanel p)).lock.settings.source = .partner)
  centre : ∀ b ∈ s.centre.items.bands, b.cls = .normal
  touch : s.touch.items.legal

theorem State.liveProfile_legal_iff {s : State} {a b : Bool} : (s.liveProfile a b).legal ↔ s.LiveLegal := by
  constructor
  · rintro ⟨⟨hlimit, hperiod, hfraction⟩, hcluster, hcentre, htouch, hpartner, hbands⟩
    refine ⟨hlimit, hperiod, hfraction, fun p => ?_, fun p => ?_, hbands, htouch⟩
    · cases p with
      | cluster => exact hcluster
      | centre => exact hcentre
    · cases p with
      | cluster => exact hpartner
      | centre => exact fun h => hpartner h.symm
  · intro h
    exact ⟨⟨h.mismatchLimit, h.defPeriod, h.defFraction⟩, h.panel .cluster, h.panel .centre, h.touch, h.partner .cluster,
      h.centre⟩

/-- The stored record and the copy in flight are legal. -/
def ProfileStore.Legal (x : ProfileStore) : Prop :=
  (∀ r, x.stored = some r → r.items.legal) ∧ ∀ w, x.writing = some w → w.copy.legal

theorem State.configLegal_iff {s : State} : s.configLegal ↔ s.LiveLegal ∧ s.profile.Legal :=
  and_congr State.liveProfile_legal_iff Iff.rfl

theorem State.LiveLegal.of_frame {s t : State} (h : ConfigFrame s t) (hs : s.LiveLegal) : t.LiveLegal where
  mismatchLimit := h.mismatchLimit ▸ hs.mismatchLimit
  defPeriod := h.defPeriod ▸ hs.defPeriod
  defFraction := h.defFraction ▸ hs.defFraction
  panel := fun p => h.items p ▸ hs.panel p
  partner := fun p => by
    have hsource : ∀ p, (t.panel p).lock.settings.source = (s.panel p).lock.settings.source := fun p =>
      congrArg (fun x : PanelProfile => x.lock.source) (h.items p)
    rw [hsource, hsource]
    exact hs.partner p
  centre := by
    have hcentre : t.centre.items = s.centre.items := h.items .centre
    rw [hcentre]
    exact hs.centre
  touch := h.touch hs.touch

theorem State.configLegal_of_frame {s t : State} (h : ConfigFrame s t) (hs : s.configLegal) : t.configLegal := by
  obtain ⟨hlive, hprofile⟩ := State.configLegal_iff.mp hs
  exact State.configLegal_iff.mpr ⟨hlive.of_frame h, h.profile ▸ hprofile⟩

/-! ### A panel's items replaced -/

/-- One panel's items replaced by legal ones. -/
theorem State.LiveLegal.updPanel {s : State} {p : Panel} {f : PanelState → PanelState} (hs : s.LiveLegal)
    (hlegal : (f (s.panel p)).items.legal)
    (hpartner : ¬((f (s.panel p)).lock.settings.source = .partner ∧
      (s.panel (otherPanel p)).lock.settings.source = .partner))
    (hcentre : p = .centre → ∀ b ∈ (f (s.panel p)).items.bands, b.cls = .normal) : (s.updPanel p f).LiveLegal where
  mismatchLimit := by rw [updPanel_mismatchLimit]; exact hs.mismatchLimit
  defPeriod := by rw [updPanel_monitor]; exact hs.defPeriod
  defFraction := by rw [updPanel_monitor]; exact hs.defFraction
  panel := fun p' => by
    rw [panel_updPanel_ite]
    split
    · subst p'; exact hlegal
    · exact hs.panel p'
  partner := fun p' => by
    by_cases hp : p' = p
    · subst hp; simpa using hpartner
    · obtain rfl : p = otherPanel p' := by revert hp; cases p <;> cases p' <;> decide
      rw [otherPanel_otherPanel] at hpartner
      rw [panel_updPanel, panel_updPanel_ite, if_neg hp]
      exact fun h => hpartner h.symm
  centre := by
    cases p with
    | cluster => exact hs.centre
    | centre => exact hcentre rfl
  touch := by rw [updPanel_touch]; exact hs.touch

theorem State.configLegal_updPanel {s : State} {p : Panel} {f : PanelState → PanelState} (hs : s.configLegal)
    (hlegal : (s.panel p).items.legal → (f (s.panel p)).items.legal)
    (hpartner : ¬((s.panel p).lock.settings.source = .partner ∧
        (s.panel (otherPanel p)).lock.settings.source = .partner) →
      ¬((f (s.panel p)).lock.settings.source = .partner ∧ (s.panel (otherPanel p)).lock.settings.source = .partner))
    (hcentre : p = .centre → (∀ b ∈ (s.panel p).items.bands, b.cls = .normal) →
      ∀ b ∈ (f (s.panel p)).items.bands, b.cls = .normal) : (s.updPanel p f).configLegal := by
  obtain ⟨hlive, hprofile⟩ := State.configLegal_iff.mp hs
  refine State.configLegal_iff.mpr ⟨hlive.updPanel (hlegal (hlive.panel p)) (hpartner (hlive.partner p)) fun hp => ?_, ?_⟩
  · subst hp; exact hcentre rfl hlive.centre
  · rw [updPanel_profile]; exact hprofile

theorem State.configLegal_mismatchLimit {s : State} {limit : Nat} (hlimit : inRange 1 7 limit = true)
    (hs : s.configLegal) : ({ s with mismatchLimit := limit } : State).configLegal := by
  obtain ⟨⟨⟨-, hperiod, hfraction⟩, hpanels⟩, hprofile⟩ := hs
  exact ⟨⟨⟨hlimit, hperiod, hfraction⟩, hpanels⟩, hprofile⟩

theorem State.configLegal_monitor {s : State} {m : Monitor} (hperiod : inRange 10 2000 m.defPeriod = true)
    (hfraction : m.defFraction = 25 ∨ m.defFraction = 50 ∨ m.defFraction = 75 ∨ m.defFraction = 100)
    (hs : s.configLegal) : ({ s with monitor := m } : State).configLegal := by
  obtain ⟨⟨⟨hlimit, -, -⟩, hpanels⟩, hprofile⟩ := hs
  exact ⟨⟨⟨hlimit, hperiod, hfraction⟩, hpanels⟩, hprofile⟩

/-- The configuration of a panel, once PANEL_CONFIG has passed its checks (R2, R3, R4, R27). -/
theorem configure_items_legal {x : PanelState} {t : Timing} (hrange : timingInRange t = true)
    (hrelated : timingRelated t x.lock.settings = true) (hcost : configCost x t ≤ t.tMax) (hx : x.items.legal) :
    (x.configure t).items.legal := by
  obtain ⟨-, -, -, -, -, -, hslew, hwindow, hmiss, hmax, hcount, hentry, hsum, -, hdimmer⟩ := hx
  simp only [timingRelated, Bool.and_eq_true, decide_eq_true_eq, Bool.not_eq_true', Bool.and_eq_false_iff,
    beq_eq_false_iff_ne, decide_eq_false_iff_not, Nat.not_le] at hrelated
  obtain ⟨⟨⟨⟨hmin, hnom⟩, hlead⟩, hskip⟩, hpartner⟩ := hrelated
  have hcost' : fullRefreshCost t ((x.configure t).items.bands.map BandSpec.lines) ≤ t.tMax := by
    rw [PanelState.items_bands, List.map_map]
    exact hcost
  refine ⟨hrange, hmin, hnom, hlead, hskip, fun h => hpartner.resolve_left (not_not_intro h), hslew, hwindow, hmiss, hmax,
    ?_, ?_, ?_, hcost', hdimmer⟩
  all_goals
    rw [PanelState.items_bands]
    simp only [PanelState.configure, recordsUnder]
    split
  · exact hcount
  · rfl
  · exact hentry
  · intro b hb
    obtain rfl : b = singleBand t.nAct := by simpa [Band.spec, Band.fresh, singleBand] using hb
    simp only [timingInRange, Bool.and_eq_true, inRange_iff] at hrange
    exact ⟨by simp only [singleBand]; omega, rfl⟩
  · exact hsum.trans (Eq.symm ‹_›)
  · rfl

theorem configure_centre {x : PanelState} {t : Timing} (hx : ∀ b ∈ x.items.bands, b.cls = .normal) :
    ∀ b ∈ (x.configure t).items.bands, b.cls = .normal := by
  rw [PanelState.items_bands]
  simp only [PanelState.configure, recordsUnder]
  split
  · exact hx
  · intro b hb
    obtain rfl : b = singleBand t.nAct := by simpa [Band.spec, Band.fresh, singleBand] using hb
    rfl

theorem lockSettingsOf_legal {r : LockRequest} {settings : LockSettings} (h : lockSettingsOf r = some settings) :
    settings.slewLimit ≤ 65535 ∧ settings.lockWindow ≤ 65535 ∧ inRange 1 15 settings.missLimit = true := by
  unfold lockSettingsOf at h
  split at h
  · cases h
  · split at h
    · rename_i hin
      simp only [Bool.and_eq_true, inRange_iff] at hin
      obtain ⟨⟨⟨-, hslew⟩, -, hwindow⟩, hmiss⟩ := hin
      cases h
      exact ⟨hslew, hwindow, inRange_iff.mpr hmiss⟩
    · cases h

theorem lock_items_legal {x : PanelState} {r : LockRequest} {settings : LockSettings}
    (hsettings : lockSettingsOf r = some settings) (hoffset : settings.partnerOffset < x.timing.tMax)
    (hx : x.items.legal) : ({ x with lock := { x.lock with settings := settings } } : PanelState).items.legal := by
  obtain ⟨hrange, hmin, hnom, hlead, hskip, -, -, -, -, hrest⟩ := hx
  obtain ⟨hslew, hwindow, hmiss⟩ := lockSettingsOf_legal hsettings
  exact ⟨hrange, hmin, hnom, hlead, hskip, fun _ => hoffset, hslew, hwindow, hmiss, hrest⟩

theorem fresh_spec (layout : List BandSpec) : (layout.map Band.fresh).map Band.spec = layout := by
  rw [List.map_map]
  exact List.map_id'' (fun _ => rfl) layout

theorem layout_items_legal {x : PanelState} {bMax : Nat} {layout : List BandSpec}
    (hcount : inRange 1 32 layout.length = true) (hmax : inRange 1 7 bMax = true)
    (hentry : ∀ b ∈ layout, 8 ≤ b.lines ∧ inRange 1 15 b.holdLimit = true)
    (hsum : (layout.map BandSpec.lines).sum = x.timing.nAct)
    (hcost : fullRefreshCost x.timing (layout.map BandSpec.lines) ≤ x.timing.tMax) (hx : x.items.legal) :
    ({ x with bands := .fresh bMax layout } : PanelState).items.legal := by
  obtain ⟨hrange, hmin, hnom, hlead, hskip, hpartner, hslew, hwindow, hmiss, -, -, -, -, -, hdimmer⟩ := hx
  have hbands : ({ x with bands := .fresh bMax layout } : PanelState).items.bands = layout := fresh_spec layout
  refine ⟨hrange, hmin, hnom, hlead, hskip, hpartner, hslew, hwindow, hmiss, hmax, ?_, ?_, ?_, ?_, hdimmer⟩
  · rw [hbands]; exact hcount
  · rw [hbands]; exact hentry
  · rw [hbands]; exact hsum
  · rw [hbands]; exact hcost

theorem dimmer_items_legal {x : PanelState} {r : DimmerRequest} {settings : DimmerSettings}
    (hsettings : dimmerSettingsOf r = some settings) (hx : x.items.legal) :
    ({ x with dimmer := { x.dimmer with settings := settings } } : PanelState).items.legal := by
  obtain ⟨hrange, hmin, hnom, hlead, hskip, hpartner, hslew, hwindow, hmiss, hmax, hcount, hentry, hsum, hcost, -, -, -, -,
    htimes⟩ := hx
  unfold dimmerSettingsOf at hsettings
  split at hsettings
  · cases hsettings
  · split at hsettings
    · rename_i hin
      cases hsettings
      simp only [Bool.and_eq_true] at hin
      obtain ⟨⟨⟨htarget, hramp⟩, hperiods⟩, hcap⟩ := hin
      exact ⟨hrange, hmin, hnom, hlead, hskip, hpartner, hslew, hwindow, hmiss, hmax, hcount, hentry, hsum, hcost,
        (inRange_iff.mp htarget).2, hramp, hperiods, (inRange_iff.mp hcap).2, htimes⟩
    · cases hsettings

theorem stepTime_inRange {field present : Nat} (hfield : field ≤ 255) (hpresent : inRange 1 255 present = true) :
    inRange 1 255 (stepTime field present) = true := by
  unfold stepTime
  split
  · exact hpresent
  · exact inRange_iff.mpr (by omega)

theorem times_items_legal {x : PanelState} {tA tB tC : Nat} (ha : tA ≤ 255) (hb : tB ≤ 255) (hc : tC ≤ 255)
    (hx : x.items.legal) :
    ({ x with power := { x.power with times := x.power.times.given tA tB tC } } : PanelState).items.legal := by
  obtain ⟨hrange, hmin, hnom, hlead, hskip, hpartner, hslew, hwindow, hmiss, hmax, hcount, hentry, hsum, hcost, htarget,
    hramp, hperiods, hcap, htA, htB, htC⟩ := hx
  exact ⟨hrange, hmin, hnom, hlead, hskip, hpartner, hslew, hwindow, hmiss, hmax, hcount, hentry, hsum, hcost, htarget,
    hramp, hperiods, hcap, stepTime_inRange ha htA, stepTime_inRange hb htB, stepTime_inRange hc htC⟩

/-! ### The touch and frequency items replaced -/

theorem insertGroup_perm (g : GroupSpec) (gs : List GroupSpec) : (insertGroup g gs).Perm (g :: gs) := by
  induction gs with
  | nil => exact .refl _
  | cons x xs ih =>
    rw [insertGroup]
    split
    · exact .refl _
    · exact (ih.cons x).trans (.swap g x xs)

theorem sortGroups_perm (gs : List GroupSpec) : (sortGroups gs).Perm gs := by
  induction gs with
  | nil => exact .refl _
  | cons g gs ih => exact (insertGroup_perm g (sortGroups gs)).trans (ih.cons g)

theorem insertGroup_sorted {g : GroupSpec} {gs : List GroupSpec} (h : gs.Pairwise fun x y => x.id ≤ y.id) :
    (insertGroup g gs).Pairwise fun x y => x.id ≤ y.id := by
  induction gs with
  | nil => exact List.pairwise_singleton _ _
  | cons x xs ih =>
    rw [insertGroup]
    obtain ⟨hhead, htail⟩ := List.pairwise_cons.mp h
    split
    · refine .cons (fun y hy => ?_) h
      rcases List.mem_cons.mp hy with rfl | hy
      · assumption
      · exact Nat.le_trans ‹_› (hhead y hy)
    · refine .cons (fun y hy => ?_) (ih htail)
      rcases List.mem_cons.mp ((insertGroup_perm g xs).subset hy) with rfl | hy
      · omega
      · exact hhead y hy

theorem sortGroups_sorted (gs : List GroupSpec) : (sortGroups gs).Pairwise fun x y => x.id ≤ y.id := by
  induction gs with
  | nil => exact .nil
  | cons g gs ih => exact insertGroup_sorted ih

theorem sortGroups_ascending {gs : List GroupSpec} (h : gs.Pairwise fun x y => x.id ≠ y.id) :
    (sortGroups gs).Pairwise fun x y => x.id < y.id := by
  have hne : (sortGroups gs).Pairwise fun x y => x.id ≠ y.id :=
    (sortGroups_perm gs).symm.pairwise h fun h => h.symm
  exact ((sortGroups_sorted gs).and hne).imp fun h => Nat.lt_of_le_of_ne h.1 h.2

/-- The configuration part of a live group. -/
def Group.spec (g : Group) : GroupSpec :=
  { id := g.id, code := g.code, interval := g.interval, bursts := g.bursts, enabled := g.enabled }

/-- The configuration part of a live candidate. -/
def Candidate.spec (c : Candidate) : FreqSpec := { period := c.period, permission := c.permission }

theorem Touch.items_freqs (t : Touch) : t.items.freqs = t.candidates.map Candidate.spec := rfl

theorem fresh_groups (specs : List GroupSpec) : (specs.map Group.fresh).map Group.spec = specs := by
  rw [List.map_map]
  exact List.map_id'' (fun _ => rfl) specs

theorem fresh_candidates (specs : List FreqSpec) : (specs.map Candidate.fresh).map Candidate.spec = specs := by
  rw [List.map_map]
  exact List.map_id'' (fun _ => rfl) specs

theorem replaceCandidates_spec {olds : List Candidate} {news : List FreqSpec} (h : olds.length = news.length) :
    (replaceCandidates olds news).map Candidate.spec = news := by
  induction olds, news using replaceCandidates.induct with
  | case1 old olds new news ih => rw [replaceCandidates, List.map_cons, ih (Nat.succ.inj h)]; rfl
  | case2 news => rw [replaceCandidates, fresh_candidates]
  | case3 => cases h

theorem scanSettingsOf_legal {r : ScanRequest} {scan : ScanSettings} (h : scanSettingsOf r = some scan) :
    scan.tGuard ≤ 1023 ∧ inRange 8 64 scan.listenBursts = true ∧ scan.edgeGuard ≤ 4095 ∧
      inRange 50 5000 scan.timeout = true := by
  unfold scanSettingsOf at h
  split at h
  · cases h
  · split at h
    · rename_i hin
      simp only [Bool.and_eq_true] at hin
      obtain ⟨⟨⟨hguard, hbursts⟩, hedge⟩, htimeout⟩ := hin
      cases h
      exact ⟨(inRange_iff.mp hguard).2, hbursts, (inRange_iff.mp hedge).2, htimeout⟩
    · cases h

theorem groups_items_legal {t : Touch} {specs : List GroupSpec} {r : ScanRequest} {scan : ScanSettings}
    (hcount : inRange 1 16 specs.length = true)
    (hentry : ∀ g ∈ specs, g.id ≤ 15 ∧ inRange 1 8 g.interval = true ∧ inRange 8 255 g.bursts = true)
    (hids : specs.Pairwise fun g h => g.id ≠ h.id) (hscan : scanSettingsOf r = some scan) (ht : t.items.legal) :
    ({ t with groups := (sortGroups specs).map Group.fresh, scan := scan } : Touch).items.legal := by
  obtain ⟨-, -, -, -, -, -, -, hrest⟩ := ht
  obtain ⟨hguard, hbursts, hedge, htimeout⟩ := scanSettingsOf_legal hscan
  have hgroups : ({ t with groups := (sortGroups specs).map Group.fresh, scan := scan } : Touch).items.groups =
      sortGroups specs := fresh_groups _
  refine ⟨?_, ?_, ?_, hguard, hbursts, hedge, htimeout, hrest⟩
  · rw [hgroups, (sortGroups_perm specs).length_eq]; exact hcount
  · rw [hgroups]; exact fun g hg => hentry g ((sortGroups_perm specs).subset hg)
  · rw [hgroups]; exact sortGroups_ascending hids

theorem freqs_items_legal {t : Touch} {specs : List FreqSpec} {hysteresis hopHold : Nat} (hcount : specs.length = 6)
    (hperiod : ∀ c ∈ specs, inRange 40 400 c.period = true) (hallowed : ∃ c ∈ specs, c.permission = .allowed)
    (hhysteresis : inRange 0 8192 hysteresis = true) (hhold : inRange 1 255 hopHold = true) (ht : t.items.legal) :
    ({ t with candidates := replaceCandidates t.candidates specs, hysteresis := hysteresis, hopHold := hopHold } :
      Touch).items.legal := by
  obtain ⟨hgroups, hentry, hids, hguard, hbursts, hedge, htimeout, hsix, -, -, -, -, hactive⟩ := ht
  rw [Touch.items_freqs, List.length_map] at hsix
  have hfreqs : ({ t with candidates := replaceCandidates t.candidates specs, hysteresis := hysteresis
                          hopHold := hopHold } : Touch).items.freqs = specs :=
    replaceCandidates_spec (hsix.trans hcount.symm)
  refine ⟨hgroups, hentry, hids, hguard, hbursts, hedge, htimeout, ?_, ?_, ?_, (inRange_iff.mp hhysteresis).2, hhold,
    hactive⟩
  · rw [hfreqs]; exact hcount
  · rw [hfreqs]; exact hperiod
  · rw [hfreqs]; exact hallowed

/-! ### The load of a reset -/

theorem factoryPanel_legal : Config.factoryPanel.legal := by
  refine ⟨by decide, by decide, by decide, by decide, by decide, by decide, by decide, by decide, by decide, by decide,
    by decide, by decide, by decide, by decide, by decide, by decide, by decide, by decide, by decide, by decide,
    by decide⟩

theorem factoryProfile_legal : Config.factoryProfile.legal := by
  refine ⟨⟨by decide, by decide, by decide⟩, factoryPanel_legal, factoryPanel_legal, ?_, by decide, by decide⟩
  exact ⟨by decide, by decide, by decide, by decide, by decide, by decide, by decide, by decide, by decide, by decide,
    by decide, by decide, by decide⟩

theorem load_legal {x : ProfileStore} (h : x.Legal) : x.load.1.legal := by
  unfold ProfileStore.load
  cases hrecord : x.validRecord with
  | none => exact factoryProfile_legal
  | some p =>
    unfold ProfileStore.validRecord at hrecord
    split at hrecord
    · cases hrecord
    · split at hrecord
      · cases hrecord; exact h.1 _ ‹_›
      · cases hrecord

theorem afterReset_items (x : PanelProfile) (powerGood : Bool) : (PanelState.afterReset x powerGood).items = x := by
  have hbands : (PanelState.afterReset x powerGood).items =
      { x with bands := (x.bands.map Band.fresh).map Band.spec } := rfl
  rw [hbands, fresh_spec]

theorem Touch.afterReset_items (x : TouchProfile) : (Touch.afterReset x).items = x := by
  have hitems : (Touch.afterReset x).items =
      { x with groups := (x.groups.map Group.fresh).map Group.spec
               freqs := (x.freqs.map Candidate.fresh).map Candidate.spec } := rfl
  rw [hitems, fresh_groups, fresh_candidates]

theorem Touch.leaveBanned_legal {t : Touch} (h : t.items.legal) : t.leaveBanned.items.legal := by
  unfold Touch.leaveBanned
  split
  · cases hlowest : lowestAllowed t.candidates with
    | none => exact h
    | some x => exact Touch.legal_active h (lowestAllowed_lt hlowest) t.sinceHop
  · exact h

theorem Touch.reload_legal {h : HeldReset} {p : TouchProfile} {t : Touch} (hp : p.legal) (ht : t.items.legal) :
    (t.reload h p).items.legal := by
  refine Touch.leaveBanned_legal ?_
  split
  · rw [Touch.afterReset_items]; exact hp
  · obtain ⟨-, -, -, -, -, -, -, hsix, -, -, -, -, hactive⟩ := ht
    rw [Touch.items_freqs, List.length_map] at hsix
    obtain ⟨hgroups, hentry, hids, hguard, hbursts, hedge, htimeout, hcount, hperiod, hallowed, hhyst, hhold, -⟩ := hp
    let u : Touch := { Touch.afterReset p with
      candidates := replaceCandidates t.candidates p.freqs, active := t.active, listenPtr := t.listenPtr }
    have hitems : u.items = { p with active := t.active } := by
      have hraw : u.items = { p with groups := (p.groups.map Group.fresh).map Group.spec
                                     freqs := (replaceCandidates t.candidates p.freqs).map Candidate.spec
                                     active := t.active } := rfl
      rw [hraw, fresh_groups, replaceCandidates_spec (hsix.trans hcount.symm)]
    show u.items.legal
    rw [hitems]
    exact ⟨hgroups, hentry, hids, hguard, hbursts, hedge, htimeout, hcount, hperiod, hallowed, hhyst, hhold, hactive⟩

theorem reloadDevice_configLegal {h : HeldReset} {s : State} (hs : s.configLegal) : (reloadDevice h s).configLegal := by
  obtain ⟨hlive, hprofile⟩ := State.configLegal_iff.mp hs
  obtain ⟨⟨hlimit, hperiod, hfraction⟩, hcluster, hcentre, htouch, hpartner, hbands⟩ := load_legal hprofile
  refine State.configLegal_iff.mpr ⟨⟨hlimit, hperiod, hfraction, fun p => ?_, fun p => ?_, ?_,
    Touch.reload_legal htouch hlive.touch⟩, hprofile.1, fun w hw => nomatch hw⟩
  · cases p with
    | cluster => exact (afterReset_items ..).symm ▸ hcluster
    | centre => exact (afterReset_items ..).symm ▸ hcentre
  · cases p with
    | cluster => exact hpartner
    | centre => exact fun hboth => hpartner hboth.symm
  · have hitems : (reloadDevice h s).centre.items = s.profile.load.1.centre := afterReset_items ..
    rw [hitems]
    exact hbands

/-! ### Every step -/

theorem ConfigFrame.closeWindow (i : Nat) (w : Window) (reason : CloseReason) (s : State) :
    ConfigFrame s (closeWindow i w reason s) := by
  unfold Machine.closeWindow
  refine ConfigFrame.trans (Frame.revokeAll (closeRevokeReason reason) (s.windowGrants w) s).config ?_
  exact (ConfigFrame.unseen _ _ _ _ _ _ _).trans (Frame.post ..).config

theorem ConfigFrame.closeIfOpen (reason : CloseReason) (s : State) (i : Nat) : ConfigFrame s (closeIfOpen reason s i) := by
  unfold Machine.closeIfOpen
  split
  · exact .closeWindow ..
  · exact (Frame.refl s).config

theorem ConfigFrame.closeAllWindows (reason : CloseReason) (s : State) : ConfigFrame s (closeAllWindows reason s) :=
  (((ConfigFrame.closeIfOpen ..).trans (.closeIfOpen ..)).trans (.closeIfOpen ..)).trans (.closeIfOpen ..)

theorem ConfigFrame.enterFault (reason : FaultReason) (elapsed : Nat) (s : State) :
    ConfigFrame s (enterFault reason elapsed s) := by
  refine ConfigFrame.trans ?_ (Frame.enterFault reason elapsed s).config
  refine ConfigFrame.trans ?_ (.closeAllWindows ..)
  exact (ConfigFrame.monitor s (m := s.monitor.fail reason) rfl rfl).trans (.unseen _ _ _ _ _ _ _)

theorem ConfigFrame.disableMedia (s : State) : ConfigFrame s (disableMedia s) := by
  unfold Machine.disableMedia
  refine ConfigFrame.trans (ConfigFrame.trans ?_ (.updPanel rfl)) (.updPanel rfl)
  exact (ConfigFrame.unseen s s.windows s.grants s.faults { s.media with queue := [] } false s.supply).trans
    (Frame.revokeAll ..).config

theorem Setup.keeps_configLegal {s t : State} (h : Setup s t) (hs : s.configLegal) : t.configLegal := by
  cases h with
  | configure p u hstate hheld hrange hrelated hcost =>
    exact State.configLegal_updPanel hs (configure_items_legal hrange hrelated hcost) id fun _ => configure_centre
  | lockMode p r settings hsettings hoffset hpartner =>
    refine State.configLegal_of_frame (Frame.lockMode ..).config ?_
    exact State.configLegal_updPanel hs (lock_items_legal hsettings hoffset) (fun _ => hpartner) fun _ => id
  | bandLayout p bMax layout hstate hheld hcount hmax hentry hsum hcentre hcost =>
    refine State.configLegal_updPanel hs (layout_items_legal hcount hmax hentry hsum hcost) id fun hp _ => ?_
    rw [show ({ s.panel p with bands := .fresh bMax layout } : PanelState).items.bands = layout from fresh_spec layout]
    exact hcentre hp
  | lineWatch p q position content =>
    refine State.configLegal_of_frame (.updPanel ?_) hs
    cases q <;> rfl
  | crcSet band crc limit b hb hclass hlimit =>
    refine State.configLegal_of_frame (Frame.crcSet s band crc limit).config ?_
    split
    · exact hs
    · exact State.configLegal_mismatchLimit (inRange_iff.mpr (by omega)) hs
  | touchGroups specs r scan hstate hcount hentry hids hscan =>
    refine State.configLegal_of_frame (s := s) ⟨fun p => by cases p <;> rfl, ?_, rfl, rfl, rfl, rfl⟩ hs
    exact groups_items_legal hcount hentry hids hscan
  | freqTable specs hysteresis hopHold hcount hperiod hallowed hhysteresis hhold =>
    refine State.configLegal_of_frame (s := s) ⟨fun p => by cases p <;> rfl, ?_, rfl, rfl, rfl, rfl⟩ hs
    exact freqs_items_legal hcount hperiod hallowed hhysteresis hhold
  | backlight p r settings hsettings =>
    exact State.configLegal_updPanel hs (dimmer_items_legal hsettings) id fun _ => id
  | windowOpen i w n =>
    refine State.configLegal_of_frame (ConfigFrame.trans ?_ (Frame.post ..).config) hs
    exact .unseen s _ s.grants s.faults s.media s.mediaEnabled s.supply
  | windowClose i w => exact State.configLegal_of_frame (.closeWindow ..) hs
  | writeOpen q p first last lifetime =>
    exact State.configLegal_of_frame (.unseen s s.windows _ s.faults s.media s.mediaEnabled s.supply) hs
  | panelOn p tA tB tC ha hb hc =>
    refine State.configLegal_of_frame (Frame.turnOn p tA tB tC s).config ?_
    exact State.configLegal_updPanel hs (times_items_legal ha hb hc) id fun _ => id
  | superviseStart w f hw hf =>
    obtain ⟨hlive, -⟩ := State.configLegal_iff.mp hs
    exact State.configLegal_monitor (hw.elim id fun h => h.symm ▸ hlive.defPeriod)
      (hf.elim id fun h => h.symm ▸ hlive.defFraction) hs
  | newPeriod => exact State.configLegal_of_frame (.monitor s rfl rfl) hs
  | enterFault reason elapsed => exact State.configLegal_of_frame (.enterFault ..) hs
  | clearFault m =>
    exact State.configLegal_of_frame (.unseen s s.windows s.grants _ s.media s.mediaEnabled s.supply) hs
  | mediaEnable =>
    exact State.configLegal_of_frame (.unseen s s.windows s.grants s.faults s.media true s.supply) hs
  | mediaDisable => exact State.configLegal_of_frame (.disableMedia s) hs
  | profileWrite a b done =>
    obtain ⟨hlive, -⟩ := State.configLegal_iff.mp hs
    refine ⟨hs.1, fun r hr => (nomatch hr), fun w hw => ?_⟩
    obtain rfl := Option.some.inj hw
    exact State.liveProfile_legal_iff.mpr hlive
  | profileWriteDone w hw =>
    unfold finishWrite
    refine State.configLegal_of_frame (Frame.post ..).config ⟨hs.1, fun r hr => ?_, fun w hw => nomatch hw⟩
    obtain rfl := Option.some.inj hr
    exact hs.2.2 w hw

theorem ConfigFrame.autostart (p : Panel) (flag : Bool) (s : State) : ConfigFrame s (autostart p flag s) := by
  unfold Machine.autostart
  split
  · refine ConfigFrame.trans (t := s.updPower p fun w => { w with autostart := true }) (.updPanel rfl) ?_
    exact (ConfigFrame.updPanel rfl).trans (Frame.turnOn ..).config
  · exact (Frame.refl s).config

theorem Outer.keeps_configLegal {s t : State} (h : Outer s t) (hs : s.configLegal) : t.configLegal := by
  cases h with
  | powerGood p level => exact State.configLegal_of_frame (.updPanel rfl) hs
  | warningPin level =>
    exact State.configLegal_of_frame (.unseen s s.windows s.grants s.faults s.media s.mediaEnabled _) hs
  | beginReset cause => exact ⟨hs.1, hs.2.1, fun w hw => nomatch hw⟩
  | finishReset h =>
    have hreport : ConfigFrame (reloadDevice h s) (reportHold (reloadDevice h s)) :=
      (Frame.ite (.postBoth ..) (.refl _)).config
    exact State.configLegal_of_frame ((hreport.trans (.autostart ..)).trans (.autostart ..)) (reloadDevice_configLegal hs)
  | tick =>
    have hmonitor : s.monitor.tick.defPeriod = s.monitor.defPeriod ∧ s.monitor.tick.defFraction = s.monitor.defFraction := by
      unfold Monitor.tick; split <;> exact ⟨rfl, rfl⟩
    unfold Machine.tick
    refine State.configLegal_of_frame (ConfigFrame.trans (.updPanel ?_) (.updPanel ?_)) (s := { s with
      count := s.count.after 1, free := s.free + 1, monitor := s.monitor.tick }) ?_
    · unfold Power.sample; split <;> rfl
    · unfold Power.sample; split <;> rfl
    · exact State.configLegal_of_frame (s := s)
        ⟨fun p => by cases p <;> rfl, id, rfl, hmonitor.1, hmonitor.2, rfl⟩ hs

theorem Bookkeeping.config {s t : State} (h : Bookkeeping s t) : ConfigFrame s t := by
  cases h with
  | port q f hf =>
    exact ⟨fun p => by rw [panel_updPort], by rw [updPort_touch]; exact id, updPort_mismatchLimit .., by rw [updPort_monitor],
      by rw [updPort_monitor], updPort_profile ..⟩
  | queue is => exact ⟨fun p => by cases p <;> rfl, id, rfl, rfl, rfl, rfl⟩
  | free n => exact ⟨fun p => by cases p <;> rfl, id, rfl, rfl, rfl, rfl⟩
  | requested => exact ⟨fun p => by cases p <;> rfl, id, rfl, rfl, rfl, rfl⟩

/-- Every move keeps the configuration legal. -/
theorem Move.keeps_configLegal {s t : State} (h : Move s t) (hs : s.configLegal) : t.configLegal := by
  cases h with
  | bookkeeping h => exact State.configLegal_of_frame h.config hs
  | outer h => exact h.keeps_configLegal hs
  | effect hreset h =>
    cases h with
    | setup h => exact h.keeps_configLegal hs
    | running h => exact State.configLegal_of_frame h.frame.config hs

/-- Settles O59: the running device leaves the configuration, each request that replaces a part of it passed the checks of
that part, and the profile store holds copies of what was live. -/
theorem stepKeepsConfigLegal : Obligations.StepKeepsConfigLegal := fun _ _ hs hstep =>
  step_keeps (P := State.configLegal) (fun _ _ => Move.keeps_configLegal) hstep hs

end Sys2Proof.Machine

/-!
PROOF. The step and the ports: what a step takes (O1, O2), notices (O51), the taking of a request (O4, O13), and write and read
transactions (O5, O7).
-/

namespace Sys2Proof.Machine

open Sys2Proof

/-! ### A port replaced -/

/-- A port replaced twice keeps the later state. -/
@[simp] theorem setPort_setPort (s : State) (q : Port) (x y : PortState) :
    (s.setPort q x).setPort q y = s.setPort q y := by cases q <;> rfl

/-- Changing a port is replacing it by its changed state. -/
theorem updPort_eq_setPort (s : State) (q : Port) (f : PortState → PortState) :
    s.updPort q f = s.setPort q (f (s.port q)) := rfl

@[simp] theorem setPort_port_self (s : State) (q : Port) : s.setPort q (s.port q) = s := by cases q <;> rfl

/-- A port with a reply pending gains the discard mark on it. -/
theorem discardRequest_of_reply {x : PortState} {reply : Reply} (h : x.reply = some reply) :
    x.discardRequest = { x with discards := x.discards + 1, reply := some { reply with discardMark := true } } := by
  simp [PortState.discardRequest, h]

/-! ### The queue of commands -/

/-- Settles O1: the front command is taken by definition. -/
theorem frontCommandIsTaken : Obligations.FrontCommandIsTaken := by
  intro s c rest h
  simp only [step, h]

theorem step_of_pending_nil {s : State} (h : s.pending = []) : step s = .next (idle s) := by
  simp only [step, h]

/-- The event chosen is one of those due. -/
theorem chooseEvent_mem (n : Nat) (e : Instr) (es : List Instr) : chooseEvent n e es ∈ e :: es := by
  have hlt : Config.tieChoice n % (es.length + 1) < (e :: es).length := Nat.mod_lt _ (Nat.succ_pos _)
  rw [chooseEvent, List.getD_eq_getElem _ _ hlt]
  exact List.getElem_mem hlt

/-- With events due, one of them joins the queue. -/
theorem idle_of_due {s : State} (h : s.dueEvents ≠ []) :
    ∃ e ∈ s.dueEvents, idle s = { s with pending := [e], free := (idle s).free } := by
  unfold idle
  split
  · exact absurd ‹_› h
  · rename_i _ e hdue
    exact ⟨e, by rw [hdue]; exact List.mem_singleton_self e, rfl⟩
  · rename_i _ e es _ hdue
    exact ⟨chooseEvent s.free e es, by rw [hdue]; exact chooseEvent_mem .., rfl⟩

theorem idle_of_quiet {s : State} (h : s.dueEvents = []) : idle s = tick s := by
  simp only [idle, h]

/-- The elapsed time of a RUNNING period alone rises. -/
theorem Monitor.tick_eq (m : Monitor) :
    m.tick = { m with elapsed := if m.state = .running then m.elapsed + 1 else m.elapsed } := by
  obtain ⟨state, period, fraction, start, elapsed, defPeriod, defFraction, reason⟩ := m
  cases state <;> rfl

/-- Power-good moves at most its own level. -/
theorem Power.sample_eq (level : Bool) (w : Power) :
    w.sample level = { w with powerGood := (w.sample level).powerGood } := by
  unfold Power.sample; split <;> rfl

theorem Power.sample_of_watched (level : Bool) {w : Power} (h : w.state = .ready ∨ w.state = .scanning) :
    w.sample level = w := by
  rcases h with h | h <;> simp [Power.sample, h]

/-- Settles O2: the choice among the events due, or the fields a tick moves. -/
theorem emptyQueueRaisesEventOrTick : Obligations.EmptyQueueRaisesEventOrTick := by
  intro s hqueue
  refine ⟨fun hdue => ?_, fun hquiet => ⟨tick s, ?_, rfl, s.monitor.tick_eq, fun p hp => ?_, ?_⟩⟩
  · obtain ⟨e, he, hidle⟩ := idle_of_due hdue
    exact ⟨e, he, idle s, step_of_pending_nil hqueue, hidle⟩
  · rw [step_of_pending_nil hqueue, idle_of_quiet hquiet]
  · cases p with
    | cluster => exact congrArg Power.powerGood (Power.sample_of_watched _ hp)
    | centre => exact congrArg Power.powerGood (Power.sample_of_watched _ hp)
  · have hcluster := Power.sample_eq (Config.powerGoodInput .cluster s.free) s.cluster.power
    have hcentre := Power.sample_eq (Config.powerGoodInput .centre s.free) s.centre.power
    show ({ s with
        count := s.count.after 1, free := s.free + 1, monitor := s.monitor.tick
        cluster := { s.cluster with power := s.cluster.power.sample (Config.powerGoodInput .cluster s.free) }
        centre := { s.centre with power := s.centre.power.sample (Config.powerGoodInput .centre s.free) } } : State) =
      { s with
        count := s.count.after 1, free := s.free + 1, monitor := s.monitor.tick
        cluster := { s.cluster with power := { s.cluster.power with
          powerGood := (s.cluster.power.sample (Config.powerGoodInput .cluster s.free)).powerGood } }
        centre := { s.centre with power := { s.centre.power with
          powerGood := (s.centre.power.sample (Config.powerGoodInput .centre s.free)).powerGood } } }
    rw [← hcluster, ← hcentre]

/-! ### Notices -/

theorem PortState.offer_of_lt {n : Notice} {x : PortState} (h : x.queue.length < 32) :
    x.offer n = { x with queue := x.queue ++ [n] } := if_pos h

theorem PortState.offer_of_full {n : Notice} {x : PortState} (h : 32 ≤ x.queue.length) :
    x.offer n = { x with lost := x.lost + 1, lostMark := true } := if_neg (Nat.not_lt.mpr h)

/-- A port that is not the DISABLED media port is offered the notice. -/
theorem post_of_enabled {q : Port} {s : State} (h : q = .media → s.mediaEnabled = true) (n : Notice) :
    post q n s = s.setPort q ((s.port q).offer n) := by
  cases q with
  | supervisor => rfl
  | media => exact if_pos (h rfl)

/-- A DISABLED media port discards the notice. -/
theorem post_media_of_disabled {s : State} (h : s.mediaEnabled = false) (n : Notice) : post .media n s = s := by
  simp [post, h]

/-- Settles O51: what an offered notice does to a queue. -/
theorem noticesJoinOrAreLost : Obligations.NoticesJoinOrAreLost := by
  intro q n s x
  refine ⟨?_, fun henabled => ⟨fun hroom => ?_, fun hfull => ?_⟩, rfl, ?_⟩
  · rintro rfl hdisabled
    exact post_media_of_disabled hdisabled n
  · rw [post_of_enabled henabled, PortState.offer_of_lt hroom]
  · rw [post_of_enabled henabled, PortState.offer_of_full hfull]
  · rw [PortState.attention, Bool.or_eq_true, Option.isSome_iff_ne_none, Bool.not_eq_true', List.isEmpty_eq_false_iff]

/-! ### The taking of a request -/

theorem takeRequest_of_pending {s : State} {q : Port} {tag kind : Byte} {serve : State → State × Answer} {reply : Reply}
    (hreset : s.inReset = false) (hreply : (s.port q).reply = some reply) :
    takeRequest q tag kind serve s = s.updPort q PortState.discardRequest := by
  simp [takeRequest, hreset, hreply]

theorem takeRequest_of_locked {s : State} {q : Port} {tag kind : Byte} {serve : State → State × Answer}
    (hreset : s.inReset = false) (hreply : (s.port q).reply = none) (hlocks : s.portLocks q kind = true) :
    takeRequest q tag kind serve s = placeReply q tag kind (refuse .portLocked) s := by
  simp [takeRequest, hreset, hreply, hlocks]

theorem State.portLocks_iff {s : State} {q : Port} {kind : Byte} :
    s.portLocks q kind = true ↔ q = .media ∧ s.mediaEnabled = false ∧ kind ≠ 0x20 ∧ kind ≠ 0x1F := by
  cases q <;> simp [State.portLocks, and_assoc]

/-- Settles O4: every request row is the taking of its request, which meets the port first. -/
theorem requestsMeetTheirPortFirst : Obligations.RequestsMeetTheirPortFirst := by
  intro i q tag r s hrow hreset
  rw [exec_of_requestOfInstr hrow]
  refine ⟨fun reply hreply => ?_, fun hreply hmedia hdisabled hidentify hstatus => ?_⟩
  · rw [takeRequest_of_pending hreset hreply, updPort_eq_setPort, discardRequest_of_reply hreply]
  · rw [takeRequest_of_locked hreset hreply (State.portLocks_iff.mpr ⟨hmedia, hdisabled, hidentify, hstatus⟩)]
    rfl

/-- The two checks that the power requests share (R141). -/
theorem powerTarget_panelNumber (q : Port) (p : Panel) :
    powerTarget q (panelNumber p) =
      if q = .media ∧ p = .cluster then .error (refuse .notPermitted) else .ok p := by
  cases p <;> rfl

theorem powerTarget_of_gt {q : Port} {panel : Nat} (h : panelOf panel = none) :
    powerTarget q panel = .error (refuse .badParam) := by
  rw [powerTarget, h]

theorem panelOf_of_gt {panel : Nat} (h : 1 < panel) : panelOf panel = none := by
  match panel, h with
  | _ + 2, _ => rfl

/-- Settles O13: a panel index above 1 names no panel, and a step time above 255 fits no byte. -/
theorem unnamedOperandsAreBadParam : Obligations.UnnamedOperandsAreBadParam := by
  intro q tag panel s htakes bad
  have hbad : ∀ {i : Instr} {r : Request}, requestOfInstr i = some (q, tag, r) →
      serveRequest q r s = (s, refuse .badParam) → bad i r.code := by
    intro i r hrow hserve
    show exec i s = _
    rw [exec_of_requestOfInstr hrow, takeRequest_of_takes htakes, hserve]
  refine ⟨fun hpanel => ?_, fun p tA tB tC hfields hown => ?_⟩
  · have h0 : ¬(q = .media ∧ panel = 0) := by omega
    have h1 : ¬(q = .media ∧ panel = 1 ∧ s.timingLock = true) := by omega
    have hnone := panelOf_of_gt hpanel
    refine ⟨fun t => hbad (r := .panelConfig panel t) rfl ?_, fun r => hbad (r := .lockMode panel r) rfl ?_,
      fun bMax count entries => hbad (r := .bandLayout panel bMax count (.all entries)) rfl ?_⟩
    · simp only [serveRequest, servePanelConfig, if_neg h0, if_neg h1, hnone]
    · simp only [serveRequest, serveLockMode, if_neg h0, if_neg h1, hnone]
    · simp only [serveRequest, serveBandLayout, if_neg h0, hnone]
  · refine hbad (r := .panelOn (panelNumber p) tA tB tC) rfl ?_
    simp only [serveRequest, servePanelOn, powerTarget_panelNumber, if_neg hown, if_pos hfields]

/-! ### Write transactions -/

/-- A byte 0x01 outside a reset: the port shifts out zeros, and what follows is judged. -/
theorem transaction_write {s : State} (hreset : s.inReset = false) (q : Port) (rest : List Byte) :
    transaction q (0x01 :: rest) s =
      judgeWrite q rest (s.updPort q fun x => { x with shiftOut := List.replicate rest.length 0 }) := by
  rw [transaction, if_pos rfl]
  exact if_neg (Bool.eq_false_iff.mp hreset)

theorem judgeFrame_of_incomplete {len : Byte} {body : List Byte}
    (h : ¬(2 ≤ len.toNat ∧ len.toNat ≤ 250 ∧ len.toNat + 2 ≤ body.length)) :
    judgeFrame (len :: body) = .bad .frameLength (body.getD 0 0) (body.getD 1 0) := by
  refine if_pos ?_
  rw [← Bool.not_eq_true, inRange_iff]
  omega

theorem judgeFrame_of_complete {len : Byte} {body : List Byte}
    (h : 2 ≤ len.toNat ∧ len.toNat ≤ 250 ∧ len.toNat + 2 ≤ body.length) :
    judgeFrame (len :: body) =
      if frameCheck (len :: body.take len.toNat) =
          fromHighFirst (body.getD len.toNat 0) (body.getD (len.toNat + 1) 0) then
        .framed (body.getD 0 0) (body.getD 1 0) ((body.take len.toNat).drop 2)
      else .bad .frameCrc (body.getD 0 0) (body.getD 1 0) := by
  have hfits : ¬(inRange 2 250 len.toNat = false ∨ body.length < len.toNat + 2) := by
    rw [← Bool.not_eq_true, inRange_iff]
    omega
  rw [judgeFrame, if_neg hfits, ite_not]
  rfl

/-- An ill-framed request, with no reply pending, is answered with its framing outcome. -/
theorem judgeWrite_bad {s : State} {q : Port} {rest : List Byte} {o : OutcomeCode} {tag kind : Byte}
    (hreply : (s.port q).reply = none) (h : judgeFrame rest = .bad o tag kind) :
    judgeWrite q (0xC3 :: rest) s = placeReply q tag kind (refuse o) s := by
  simp [judgeWrite, hreply, h]

/-- A framed request, with no reply pending, is dispatched. -/
theorem judgeWrite_framed {s : State} {q : Port} {rest params : List Byte} {tag kind : Byte}
    (hreply : (s.port q).reply = none) (h : judgeFrame rest = .framed tag kind params) :
    judgeWrite q (0xC3 :: rest) s = dispatch q tag kind params s := by
  simp [judgeWrite, hreply, h]

theorem judgeWrite_pending {s : State} {q : Port} {reply : Reply} (hreply : (s.port q).reply = some reply)
    (rest : List Byte) :
    judgeWrite q (0xC3 :: rest) s = s.updPort q fun x =>
      { x with discards := x.discards + 1, reply := some { reply with discardMark := true } } := by
  have hdiscard : judgeWrite q (0xC3 :: rest) s = s.updPort q PortState.discardRequest := by
    simp [judgeWrite, hreply]
  rw [hdiscard, updPort_eq_setPort, discardRequest_of_reply hreply]
  rfl

/-- Settles O5: the checks of R164 one after the other. -/
theorem writeTransactionIsJudgedInOrder : Obligations.WriteTransactionIsJudgedInOrder := by
  intro q s hreset shifted
  have hwrite : ∀ rest, exec (.writeTransaction q (0x01 :: rest)) s = .next (judgeWrite q rest (shifted rest.length)) :=
    fun rest => congrArg Host.Outcome.next (transaction_write hreset q rest)
  have hreply : ∀ n, ((shifted n).port q).reply = (s.port q).reply := fun n => by
    simp only [shifted, port_updPort]
  refine ⟨rfl, hwrite [], fun start rest hstart => ?_, fun rest reply hpending => ?_, fun hnone => ⟨?_, ?_⟩⟩
  · rw [hwrite, judgeWrite, if_pos hstart]
    rfl
  · rw [hwrite, judgeWrite_pending ((hreply _).trans hpending)]
    rfl
  · rw [hwrite, judgeWrite_bad ((hreply _).trans hnone) rfl]
    rfl
  · intro len body done n t0 tag kind complete checked
    have hframe : exec (.writeTransaction q (0x01 :: 0xC3 :: len :: body)) s =
        .next (judgeWrite q (0xC3 :: len :: body) t0) := hwrite _
    have hfree : (t0.port q).reply = none := (hreply _).trans hnone
    refine ⟨fun hbad => ?_, fun hgood hwrong => ?_, fun hgood hright => ?_⟩
    · exact hframe.trans (congrArg Host.Outcome.next (judgeWrite_bad hfree (judgeFrame_of_incomplete hbad)))
    · refine hframe.trans (congrArg Host.Outcome.next (judgeWrite_bad hfree ?_))
      rw [judgeFrame_of_complete hgood, if_neg hwrong]
    · refine hframe.trans (congrArg Host.Outcome.next (judgeWrite_framed hfree ?_))
      rw [judgeFrame_of_complete hgood, if_pos hright]

/-! ### Read transactions -/

/-- A byte 0x02: the frame chosen is shifted out, and delivered when all of it was clocked. -/
theorem exec_read (q : Port) (rest : List Byte) (s : State) :
    exec (.readTransaction q (0x02 :: rest)) s =
      .next (readOut q rest.length (s.updPort q (PortState.shift (shiftedBytes (s.readFrame q) rest.length)))) := rfl

theorem readFrame_of_reply {s : State} {q : Port} {r : Reply} (hreset : s.inReset = false)
    (h : (s.port q).reply = some r) : s.readFrame q = replyFrame (s.port q) r := by
  simp [State.readFrame, hreset, h]

theorem readFrame_of_notice {s : State} {q : Port} {n : Notice} {queue : List Notice} (hreset : s.inReset = false)
    (hreply : (s.port q).reply = none) (h : (s.port q).queue = n :: queue) : s.readFrame q = noticeFrame n := by
  simp [State.readFrame, hreset, hreply, h]

theorem readFrame_of_idle {s : State} {q : Port} (hreset : s.inReset = false)
    (hreply : (s.port q).reply = none) (h : (s.port q).queue = []) : s.readFrame q = idleFrame := by
  simp [State.readFrame, hreset, hreply, h]

/-- What a port shifts out leaves what it reads. -/
theorem readFrame_shift (s : State) (q : Port) (out : List Byte) :
    (s.updPort q (PortState.shift out)).readFrame q = s.readFrame q := by
  cases q <;> rfl

/-- A read that ends before its frame does delivers nothing. -/
theorem read_of_short {s : State} {q : Port} {rest : List Byte} (hreset : s.inReset = false)
    (h : rest.length < (s.readFrame q).length) :
    exec (.readTransaction q (0x02 :: rest)) s =
      .next (s.setPort q { s.port q with shiftOut := shiftedBytes (s.readFrame q) rest.length }) := by
  have hreset' : (s.updPort q (PortState.shift (shiftedBytes (s.readFrame q) rest.length))).inReset = false := by
    simpa [State.inReset] using hreset
  rw [exec_read, readOut, if_neg (Bool.eq_false_iff.mp hreset'), readFrame_shift, if_neg (Nat.not_le.mpr h)]
  rfl

/-- A read that clocks its whole frame delivers it. -/
theorem read_of_long {s : State} {q : Port} {rest : List Byte} (hreset : s.inReset = false)
    (h : (s.readFrame q).length ≤ rest.length) :
    exec (.readTransaction q (0x02 :: rest)) s =
      .next (deliver q (s.setPort q { s.port q with shiftOut := shiftedBytes (s.readFrame q) rest.length })) := by
  have hreset' : (s.updPort q (PortState.shift (shiftedBytes (s.readFrame q) rest.length))).inReset = false := by
    simpa [State.inReset] using hreset
  rw [exec_read, readOut, if_neg (Bool.eq_false_iff.mp hreset'), readFrame_shift, if_pos h]
  rfl

theorem Reply.resets_iff {r : Reply} : r.resets = true ↔ r.kind = 0x21 ∧ r.outcome = .ok := by
  rw [Reply.resets, Bool.and_eq_true, beq_iff_eq, beq_iff_eq]

/-- The pending reply leaves the port with the lost mark; a RESET_DEVICE taken OK makes a reset due (R178). -/
theorem deliver_of_reply {s : State} {q : Port} {r : Reply} (hrequested : s.resetLogic.requested = false)
    (h : (s.port q).reply = some r) :
    deliver q s = { s.setPort q { s.port q with reply := none, lostMark := false } with
      resetLogic := { s.resetLogic with requested := decide (r.kind = 0x21 ∧ r.outcome = .ok) } } := by
  have hlogic : s.resetLogic = { s.resetLogic with requested := false } := by rw [← hrequested]
  unfold deliver
  rw [h]
  by_cases hresets : r.resets = true
  · simp only [if_pos hresets, decide_eq_true (Reply.resets_iff.mp hresets), updPort_resetLogic]
    rfl
  · simp only [if_neg hresets, decide_eq_false (mt Reply.resets_iff.mpr hresets), updPort_eq_setPort]
    rw [← hlogic]
    cases q <;> rfl

theorem deliver_of_notice {s : State} {q : Port} {n : Notice} {queue : List Notice} (hreply : (s.port q).reply = none)
    (h : (s.port q).queue = n :: queue) : deliver q s = s.setPort q { s.port q with queue := queue } := by
  simp only [deliver, hreply, updPort_eq_setPort, h, List.tail_cons]

theorem deliver_of_idle {s : State} {q : Port} (hreply : (s.port q).reply = none) (h : (s.port q).queue = []) :
    deliver q s = s := by
  have hport : { s.port q with queue := (s.port q).queue.tail } = s.port q := by rw [h, List.tail_nil, ← h]
  rw [deliver, hreply]
  show s.setPort q { s.port q with queue := (s.port q).queue.tail } = s
  rw [hport, setPort_port_self]

/-- A first byte that is neither 0x01 nor 0x02. -/
theorem transaction_rejected {first : Byte} (hwrite : first ≠ 0x01) (hread : first ≠ 0x02) (q : Port) (rest : List Byte)
    (s : State) : transaction q (first :: rest) s = rejectTransaction q rest.length s := by
  rw [transaction, if_neg hwrite, if_neg hread]

theorem rejectTransaction_eq {s : State} (hreset : s.inReset = false) (q : Port) (n : Nat) :
    rejectTransaction q n s = { s.setPort q { s.port q with
      shiftOut := (List.range n).map (Config.rejectedMiso s.free), discards := (s.port q).discards + 1 } with
      free := s.free + 1 } := by
  refine (if_neg (Bool.eq_false_iff.mp hreset)).trans ?_
  cases q <;> rfl

/-- Settles O7: what a read chooses, by the pending reply and the queue, and what leaves the port. -/
theorem readTransactionDelivers : Obligations.ReadTransactionDelivers := by
  intro q rest s hreset x n read
  have hrequested : s.resetLogic.requested = false := by
    simp only [State.inReset, Bool.or_eq_false_iff] at hreset
    exact hreset.2
  refine ⟨rfl, fun r hreply => ?_, fun hreply notice queue hqueue => ?_, fun hreply hqueue => ?_,
    fun first hwrite hread => ?_⟩
  · intro frame out
    have hframe : s.readFrame q = frame := readFrame_of_reply hreset hreply
    refine ⟨fun hshort => ?_, fun hlong => ?_⟩
    · rw [← hframe] at hshort
      exact (read_of_short hreset hshort).trans (by rw [hframe]; rfl)
    · rw [← hframe] at hlong
      refine (read_of_long hreset hlong).trans ?_
      rw [hframe, deliver_of_reply (by simpa using hrequested) (by simpa using hreply)]
      simp only [port_setPort, setPort_setPort, setPort_resetLogic]
      rfl
  · intro frame out
    have hframe : s.readFrame q = frame := readFrame_of_notice hreset hreply hqueue
    refine ⟨fun hshort => ?_, fun hlong => ?_⟩
    · rw [← hframe] at hshort
      exact (read_of_short hreset hshort).trans (by rw [hframe]; rfl)
    · rw [← hframe] at hlong
      refine (read_of_long hreset hlong).trans ?_
      rw [hframe, deliver_of_notice (by simpa using hreply) (by rw [port_setPort]; exact hqueue)]
      simp only [port_setPort, setPort_setPort]
      rfl
  · have hframe : s.readFrame q = idleFrame := readFrame_of_idle hreset hreply hqueue
    by_cases hshort : rest.length < (s.readFrame q).length
    · exact (read_of_short hreset hshort).trans (by rw [hframe]; rfl)
    · refine (read_of_long hreset (Nat.not_lt.mp hshort)).trans ?_
      rw [hframe, deliver_of_idle (by simpa using hreply) (by rw [port_setPort]; exact hqueue)]
      rfl
  · refine ⟨(List.range n).map (Config.rejectedMiso s.free), by rw [List.length_map, List.length_range], ?_⟩
    have hrejected := (transaction_rejected hwrite hread q rest s).trans (rejectTransaction_eq hreset q n)
    exact ⟨congrArg Host.Outcome.next hrejected, congrArg Host.Outcome.next hrejected⟩

end Sys2Proof.Machine

/-!
PROOF. Rules about the shared operations that the statements of whole next states use: writing panels, posting notices in
order, changing band records by their index, counting bands, and ending grants.
-/

namespace Sys2Proof.Machine

open Sys2Proof

/-! ### Writing panels -/

@[simp] theorem setPanel_setPanel (s : State) (p : Panel) (x y : PanelState) :
    (s.setPanel p x).setPanel p y = s.setPanel p y := by cases p <;> rfl

@[simp] theorem setPanel_panel_self (s : State) (p : Panel) : s.setPanel p (s.panel p) = s := by cases p <;> rfl

theorem updPanel_eq_setPanel (s : State) (p : Panel) (f : PanelState → PanelState) :
    s.updPanel p f = s.setPanel p (f (s.panel p)) := rfl

theorem updPanel_updPanel (s : State) (p : Panel) (f g : PanelState → PanelState) :
    (s.updPanel p f).updPanel p g = s.updPanel p fun x => g (f x) := by cases p <;> rfl

/-! ### Posting notices in order -/

/-- Some notices offered to a port in order. -/
def PortState.offers (x : PortState) (ns : List Notice) : PortState := ns.foldl (fun x n => x.offer n) x

/-- The notices of the list that go to a port. -/
def toldTo (q : Port) (told : List (Port × Notice)) : List Notice :=
  (told.filter fun y => decide (y.1 = q)).map Prod.snd

theorem toldTo_append (q : Port) (a b : List (Port × Notice)) : toldTo q (a ++ b) = toldTo q a ++ toldTo q b := by
  simp [toldTo]

@[simp] theorem postAll_nil (s : State) : postAll [] s = s := rfl

theorem postAll_cons (y : Port × Notice) (told : List (Port × Notice)) (s : State) :
    postAll (y :: told) s = postAll told (post y.1 y.2 s) := rfl

theorem postAll_append (a b : List (Port × Notice)) (s : State) : postAll (a ++ b) s = postAll b (postAll a s) := by
  simp [postAll]

@[simp] theorem postAll_singleton (q : Port) (n : Notice) (s : State) : postAll [(q, n)] s = post q n s := rfl

/-- Notices reach the two queues and nothing else; a DISABLED media port takes none. -/
theorem postAll_eq (told : List (Port × Notice)) (s : State) :
    postAll told s = { s with
      supervisor := s.supervisor.offers (toldTo .supervisor told)
      media := if s.mediaEnabled then s.media.offers (toldTo .media told) else s.media } := by
  induction told generalizing s with
  | nil => simp [toldTo, PortState.offers]
  | cons y told ih =>
    obtain ⟨q, n⟩ := y
    rw [postAll_cons, ih]
    cases q with
    | supervisor => rfl
    | media =>
      rw [post]
      split
      · rename_i henabled
        have h : (s.updPort .media (PortState.offer n)).mediaEnabled = s.mediaEnabled := rfl
        rw [h, if_pos henabled]
        rfl
      · rfl

theorem post_eq_postAll (q : Port) (n : Notice) (s : State) : post q n s = postAll [(q, n)] s := rfl

theorem postBoth_eq_postAll (n : Notice) (s : State) : postBoth n s = postAll (toBoth n) s := rfl

theorem postOwn_eq_postAll (p : Panel) (n : Notice) (s : State) : postOwn p n s = postAll (toOwn p n) s := by
  cases p <;> rfl

/-- A change of a state that leaves what posting looks at. -/
structure PostsThrough (f : State → State) : Prop where
  supervisor : ∀ s, (f s).supervisor = s.supervisor
  media : ∀ s, (f s).media = s.media
  mediaEnabled : ∀ s, (f s).mediaEnabled = s.mediaEnabled
  ports : ∀ s x y, f { s with supervisor := x, media := y } = { f s with supervisor := x, media := y }

/-- Such a change may be made before or after the posting. -/
theorem PostsThrough.postAll {f : State → State} (hf : PostsThrough f) (told : List (Port × Notice)) (s : State) :
    f (postAll told s) = postAll told (f s) := by
  rw [postAll_eq, postAll_eq]
  refine (hf.ports s _ _).trans ?_
  simp only [hf.supervisor, hf.media, hf.mediaEnabled]

theorem PostsThrough.updPanel (p : Panel) (f : PanelState → PanelState) : PostsThrough fun s => s.updPanel p f := by
  cases p <;> exact ⟨fun _ => rfl, fun _ => rfl, fun _ => rfl, fun _ _ _ => rfl⟩

/-- A panel changed after the posting, or before it. -/
theorem postAll_updPanel (told : List (Port × Notice)) (s : State) (p : Panel) (f : PanelState → PanelState) :
    (postAll told s).updPanel p f = postAll told (s.updPanel p f) :=
  (PostsThrough.updPanel p f).postAll told s

@[simp] theorem postAll_panel (told : List (Port × Notice)) (s : State) (p : Panel) :
    (postAll told s).panel p = s.panel p := by
  rw [postAll_eq]; cases p <;> rfl

theorem postAll_setPanel (told : List (Port × Notice)) (s : State) (p : Panel) (x : PanelState) :
    (postAll told s).setPanel p x = postAll told (s.setPanel p x) :=
  postAll_updPanel told s p fun _ => x

@[simp] theorem postAll_count (told : List (Port × Notice)) (s : State) : (postAll told s).count = s.count := by
  rw [postAll_eq]
@[simp] theorem postAll_cluster (told : List (Port × Notice)) (s : State) : (postAll told s).cluster = s.cluster := by
  rw [postAll_eq]
@[simp] theorem postAll_centre (told : List (Port × Notice)) (s : State) : (postAll told s).centre = s.centre := by
  rw [postAll_eq]
@[simp] theorem postAll_grants (told : List (Port × Notice)) (s : State) : (postAll told s).grants = s.grants := by
  rw [postAll_eq]
@[simp] theorem postAll_windows (told : List (Port × Notice)) (s : State) : (postAll told s).windows = s.windows := by
  rw [postAll_eq]
@[simp] theorem postAll_faults (told : List (Port × Notice)) (s : State) : (postAll told s).faults = s.faults := by
  rw [postAll_eq]
@[simp] theorem postAll_touch (told : List (Port × Notice)) (s : State) : (postAll told s).touch = s.touch := by
  rw [postAll_eq]
@[simp] theorem postAll_monitor (told : List (Port × Notice)) (s : State) : (postAll told s).monitor = s.monitor := by
  rw [postAll_eq]
@[simp] theorem postAll_supply (told : List (Port × Notice)) (s : State) : (postAll told s).supply = s.supply := by
  rw [postAll_eq]
@[simp] theorem postAll_mediaEnabled (told : List (Port × Notice)) (s : State) :
    (postAll told s).mediaEnabled = s.mediaEnabled := by
  rw [postAll_eq]
@[simp] theorem postAll_mismatchLimit (told : List (Port × Notice)) (s : State) :
    (postAll told s).mismatchLimit = s.mismatchLimit := by
  rw [postAll_eq]

theorem panelNotice_eq_noticeOf (s : State) (p : Panel) (b : NoticeBody) : s.panelNotice p b = s.noticeOf p b := rfl

/-- A notice of a panel depends on the panel's frame number alone. -/
theorem noticeOf_congr {s t : State} {p : Panel} (h : (t.panel p).frame.number = (s.panel p).frame.number)
    (b : NoticeBody) : t.noticeOf p b = s.noticeOf p b := by
  simp only [State.noticeOf, h]

/-! ### Band records by their index -/

/-- Changing each band by its place is mapping over the placed bands. -/
theorem mapBands_eq_map (f : Placed → Band) (i l : Nat) (bs : List Band) :
    mapBands f i l bs = (placeBands i l bs).map f := by
  induction bs generalizing i l with
  | nil => rfl
  | cons b bs ih => simp only [mapBands, placeBands, List.map_cons, ih]

theorem getElem?_markWhere (hit : Placed → Bool) (t : BandTable) (i : Nat) :
    (markWhere hit t.records)[i]? = t.records[i]?.map fun b =>
      if hit { index := i, first := t.firstLine i, band := b } then { b with dirty := true } else b := by
  have hplaced : placeBands 0 0 t.records = t.placed := rfl
  rw [markWhere, mapBands_eq_map, List.getElem?_map, hplaced, BandTable.getElem?_placed, Option.map_map]
  rfl

@[simp] theorem markWhere_length (hit : Placed → Bool) (bs : List Band) : (markWhere hit bs).length = bs.length :=
  mapBands_length ..

/-- Every band marked. -/
theorem markWhere_true (bs : List Band) : markWhere (fun _ => true) bs = bs.map fun b => { b with dirty := true } := by
  refine List.ext_getElem? fun i => ?_
  rw [getElem?_markWhere _ { bMax := 0, records := bs }, List.getElem?_map]
  rfl

theorem modifyBand_eq_modify (i : Nat) (f : Band → Band) (bs : List Band) : modifyBand i f bs = bs.modify i f := by
  induction bs generalizing i with
  | nil => simp [modifyBand]
  | cons b bs ih =>
    cases i with
    | zero => rfl
    | succ i => rw [modifyBand, ih]; rfl

/-- The band changed is replaced at its place. -/
theorem modifyBand_eq_set {i : Nat} {b : Band} {bs : List Band} (h : bs[i]? = some b) (f : Band → Band) :
    modifyBand i f bs = bs.set i (f b) := by
  obtain ⟨hi, rfl⟩ := List.getElem?_eq_some_iff.mp h
  rw [modifyBand_eq_modify, List.modify_eq_set_getElem?]
  simp [hi]

/-- The first element of its index is the one at its place. -/
theorem find?_index_eq_getElem? {xs : List Placed} (h : ∀ (k : Nat) (x : Placed), xs[k]? = some x → x.index = k)
    (i : Nat) :
    (xs.find? fun x => x.index == i) = xs[i]? := by
  cases hi : xs[i]? with
  | none =>
    rw [List.find?_eq_none]
    intro x hx heq
    obtain ⟨k, hk⟩ := List.mem_iff_getElem?.mp hx
    rw [← h k x hk, beq_iff_eq.mp heq, hi] at hk
    cases hk
  | some x =>
    rw [List.find?_eq_some_iff_getElem]
    obtain ⟨hlt, hget⟩ := List.getElem?_eq_some_iff.mp hi
    refine ⟨beq_iff_eq.mpr (h i x hi), i, hlt, hget, fun j hj => ?_⟩
    have hindex := h j xs[j] (List.getElem?_eq_getElem (Nat.lt_trans hj hlt))
    simp only [Bool.not_eq_true', beq_eq_false_iff_ne, hindex]
    exact Nat.ne_of_lt hj

/-- The band at an index of a panel. -/
theorem bandAt_eq (s : State) (p : Panel) (i : Nat) :
    s.bandAt p i = (s.panel p).bands.records[i]?.map fun b =>
      { index := i, first := (s.panel p).bands.firstLine i, band := b } := by
  rw [← BandTable.getElem?_placed, State.bandAt]
  refine find?_index_eq_getElem? (fun k x hk => ?_) i
  rw [BandTable.getElem?_placed, Option.map_eq_some_iff] at hk
  obtain ⟨b, -, rfl⟩ := hk
  rfl

/-! ### Counting -/

/-- The places of a list that satisfy a property, counted. -/
theorem countsBands_countP {α : Type} (xs : List α) (P : α → Bool) :
    CountsBands xs.length (fun k => ∃ x, xs[k]? = some x ∧ P x = true) (xs.countP P) := by
  refine ⟨(List.range xs.length).filter fun k => xs[k]?.any P, List.nodup_range.filter _, fun k => ?_, ?_⟩
  · rw [List.mem_filter, List.mem_range, Option.any_eq_true]
  · have hmap : (List.range xs.length).map (fun k => xs[k]?) = xs.map some := by
      refine List.ext_getElem? fun k => ?_
      by_cases hk : k < xs.length
      · simp [hk]
      · simp [Nat.le_of_not_lt hk]
    have hcount := congrArg (List.countP (Option.any P)) hmap
    rw [List.countP_map, List.countP_map] at hcount
    rw [← List.countP_eq_length_filter]
    exact hcount.symm

theorem CountsBands.congr {n : Nat} {P Q : Nat → Prop} {k : Nat} (h : CountsBands n P k) (hPQ : ∀ i < n, P i ↔ Q i) :
    CountsBands n Q k := by
  obtain ⟨marked, hnodup, hmem, hk⟩ := h
  exact ⟨marked, hnodup, fun i => (hmem i).trans (and_congr_right fun hi => hPQ i hi), hk⟩

/-- The placed bands that satisfy a property, counted by their indices. -/
theorem BandTable.countsBands_filter (t : BandTable) (hit : Placed → Bool) :
    CountsBands t.records.length
      (fun i => ∃ b, t.records[i]? = some b ∧ hit { index := i, first := t.firstLine i, band := b } = true)
      (t.placed.filter hit).length := by
  have hcount := countsBands_countP t.placed hit
  have hlength : t.placed.length = t.records.length := placeBands_length ..
  rw [hlength, List.countP_eq_length_filter] at hcount
  refine hcount.congr fun i _ => ?_
  simp only [BandTable.getElem?_placed, Option.map_eq_some_iff]
  constructor
  · rintro ⟨x, ⟨b, hb, rfl⟩, hx⟩
    exact ⟨b, hb, hx⟩
  · rintro ⟨b, hb, hx⟩
    exact ⟨_, ⟨b, hb, rfl⟩, hx⟩

/-! ### Ending grants -/

/-- These grants leave the list and every band of their ranges is marked dirty. -/
def State.endGrants (s : State) (gone : List Grant) : State :=
  { s with
    grants := { s.grants with records := s.grants.records.filter fun x => gone.all fun g => x.id != g.id }
    cluster := { s.cluster with bands := { s.cluster.bands with
      records := markWhere (fun x => gone.any fun g => g.covers .cluster x.index) s.cluster.bands.records } }
    centre := { s.centre with bands := { s.centre.bands with
      records := markWhere (fun x => gone.any fun g => g.covers .centre x.index) s.centre.bands.records } } }

/-- A marking by index alone. -/
theorem getElem?_markIndices (hit : Nat → Bool) (bs : List Band) (i : Nat) :
    (markWhere (fun x => hit x.index) bs)[i]? = bs[i]?.map fun b => { b with dirty := b.dirty || hit i } := by
  rw [getElem?_markWhere _ { bMax := 0, records := bs }]
  refine congrArg (fun f => bs[i]?.map f) (funext fun b => ?_)
  show (if hit i = true then _ else _) = _
  cases hit i <;> simp

theorem markIndices_false (bs : List Band) : markWhere (fun _ => false) bs = bs := by
  refine List.ext_getElem? fun i => ?_
  rw [getElem?_markIndices fun _ => false]
  simp

/-- Two markings by index are one marking of what either hits. -/
theorem markIndices_markIndices (hit hit' : Nat → Bool) (bs : List Band) :
    markWhere (fun x => hit' x.index) (markWhere (fun x => hit x.index) bs) =
      markWhere (fun x => hit x.index || hit' x.index) bs := by
  refine List.ext_getElem? fun i => ?_
  rw [getElem?_markIndices, getElem?_markIndices, getElem?_markIndices fun i => hit i || hit' i, Option.map_map]
  simp [Function.comp_def, Bool.or_assoc]

theorem State.endGrants_nil (s : State) : s.endGrants [] = s := by
  simp [State.endGrants, markIndices_false]

/-- One grant ends as a list of one does. -/
theorem endGrant_eq (g : Grant) (s : State) : endGrant g s = s.endGrants [g] := by
  have hown : inIndexRange g.first g.last = fun x => g.covers g.panel x.index := by
    funext x; simp [Grant.covers, inIndexRange]
  have hother : ∀ p, g.panel ≠ p → (fun x : Placed => g.covers p x.index) = fun _ => false := fun p hp => by
    funext x; simp [Grant.covers, hp]
  unfold endGrant State.endGrants
  simp only [List.all_cons, List.all_nil, Bool.and_true, List.any_cons, List.any_nil, Bool.or_false, hown]
  cases hp : g.panel with
  | cluster =>
    rw [hother .centre (by rw [hp]; decide), markIndices_false]
    rfl
  | centre =>
    rw [hother .cluster (by rw [hp]; decide), markIndices_false]
    rfl

theorem State.endGrants_append (s : State) (a b : List Grant) : (s.endGrants a).endGrants b = s.endGrants (a ++ b) := by
  have hrecords : (s.grants.records.filter fun x => a.all fun g => x.id != g.id).filter (fun x => b.all fun g => x.id != g.id) =
      s.grants.records.filter fun x => (a ++ b).all fun g => x.id != g.id := by
    simp only [List.filter_filter, List.all_append, Bool.and_comm]
  have hbands : ∀ (p : Panel) (bs : List Band),
      markWhere (fun x => b.any fun g => g.covers p x.index) (markWhere (fun x => a.any fun g => g.covers p x.index) bs) =
        markWhere (fun x => (a ++ b).any fun g => g.covers p x.index) bs := fun p bs => by
    simp only [List.any_append]
    exact markIndices_markIndices (fun i => a.any fun g => g.covers p i) (fun i => b.any fun g => g.covers p i) bs
  unfold State.endGrants
  simp only [hrecords, hbands]

theorem PostsThrough.endGrants (gone : List Grant) : PostsThrough fun s => s.endGrants gone :=
  ⟨fun _ => rfl, fun _ => rfl, fun _ => rfl, fun _ _ _ => rfl⟩

theorem State.endGrants_panel (s : State) (gone : List Grant) (p : Panel) :
    (s.endGrants gone).panel p = { s.panel p with bands := { (s.panel p).bands with
      records := markWhere (fun x => gone.any fun g => g.covers p x.index) (s.panel p).bands.records } } := by
  cases p <;> rfl

/-- Notices of a panel are the same after grants have ended. -/
theorem State.noticeOf_endGrants (s : State) (gone : List Grant) (p : Panel) (b : NoticeBody) :
    (s.endGrants gone).noticeOf p b = s.noticeOf p b := by
  rw [State.noticeOf, State.endGrants_panel]; rfl

/-- Revoking grants one after the other ends all of them and tells each of their ports. -/
theorem revokeAll_eq (reason : RevokeReason) (gone : List Grant) (s : State) :
    revokeAll reason gone s = postAll (s.revocations reason gone) (s.endGrants gone) := by
  induction gone generalizing s with
  | nil => exact (State.endGrants_nil s).symm
  | cons g gone ih =>
    have hstep : revokeAll reason (g :: gone) s = revokeAll reason gone (revokeGrant reason s g) := rfl
    have hrevoke : revokeGrant reason s g =
        postAll [(g.port, s.noticeOf g.panel (.grantRevoked g.id reason g.state g.held (g.last + 1 - g.first)))]
          (s.endGrants [g]) := by
      rw [revokeGrant, endGrant_eq]; rfl
    have htold : ∀ u : State, (∀ p b, u.noticeOf p b = s.noticeOf p b) →
        u.revocations reason gone = s.revocations reason gone := fun u hu => by
      simp only [State.revocations, hu]
    rw [hstep, ih, hrevoke, htold, (PostsThrough.endGrants gone).postAll, State.endGrants_append, ← postAll_append]
    · rfl
    · intro p b
      exact (noticeOf_congr (by rw [postAll_panel]) b).trans (State.noticeOf_endGrants s [g] p b)

/-- With distinct ids, the grants that leave are those of the list. -/
theorem State.endsGrants_endGrants {s : State} {gone : List Grant} (hids : s.grants.records.Pairwise idsApart)
    (hgone : ∀ g ∈ gone, g ∈ s.grants.records) : s.endsGrants (s.endGrants gone) gone := by
  have hid : ∀ x ∈ s.grants.records, ∀ g ∈ gone, x.id = g.id → x = g := fun x hx g hg heq =>
    (List.inj_on_of_nodup_map (f := Grant.id) (by rw [List.Nodup, List.pairwise_map]; exact hids)) hx (hgone g hg) heq
  refine ⟨?_, fun p => ?_, rfl⟩
  · have hrecords : (s.grants.records.filter fun x => gone.all fun g => x.id != g.id) =
        s.grants.records.filter fun g => decide (g ∉ gone) := by
      refine List.filter_congr fun x hx => ?_
      rw [Bool.eq_iff_iff, List.all_eq_true, decide_eq_true_eq]
      constructor
      · intro h hmem
        simpa using h x hmem
      · intro hmem g hg
        rw [bne_iff_ne]
        exact fun heq => hmem (hid x hx g hg heq ▸ hg)
    rw [State.endGrants, hrecords]
  · rw [State.endGrants_panel]
    refine ⟨rfl, markWhere_length .., fun i b hb => ?_⟩
    rw [getElem?_markIndices fun i => gone.any fun g => g.covers p i, hb]
    rfl

/-- The grants selected by a filter of the list. -/
theorem State.selects_filter (s : State) {which : Grant → Prop} {test : Grant → Bool}
    (h : ∀ g ∈ s.grants.records, test g = true ↔ which g) : s.selects which (s.grants.records.filter test) :=
  ⟨List.filter_sublist, fun g => by
    rw [List.mem_filter]
    exact and_congr_right fun hg => h g hg⟩

end Sys2Proof.Machine

/-!
PROOF. Requests that answer by their tables: PANEL_CONFIG (O11), BAND_LAYOUT (O17), FULL_REFRESH and SUBSCRIBE (O20),
BACKLIGHT (O37), CRC_SET (O29), TOUCH_GROUPS (O33), and the settings that are replaced (O8).
-/

namespace Sys2Proof.Machine

open Sys2Proof

/-! ### Checks as the tables state them -/

/-- A check that passes leaves the request to the checks after it. -/
theorem servedBy_passed {s : State} {rest : List (Prop × OutcomeCode)} {ok : State → Results → Prop}
    {refusal : OutcomeCode → Results} {bad : Prop} {code : OutcomeCode} {served : State × Answer} (hgood : ¬bad)
    (hrest : ServedBy s rest ok refusal served) : ServedBy s ((bad, code) :: rest) ok refusal served := by
  rintro o (⟨hbad, -⟩ | ⟨-, hfirst⟩)
  · exact absurd hbad hgood
  · exact hrest o hfirst

/-- A request whose first check fails is refused with its outcome. -/
theorem servedBy_refused {s : State} {rest : List (Prop × OutcomeCode)} {ok : State → Results → Prop}
    {refusal : OutcomeCode → Results} {bad : Prop} {code : OutcomeCode} (hcode : code ≠ .ok) (hbad : bad) :
    ServedBy s ((bad, code) :: rest) ok refusal (s, { outcome := code, results := refusal code }) := by
  rintro o (⟨-, rfl⟩ | ⟨hgood, -⟩)
  · exact ⟨fun h => absurd h hcode, fun _ => rfl⟩
  · exact absurd hbad hgood

theorem State.configurable_eq_false_iff {s : State} {p : Panel} :
    s.configurable p = false ↔ (s.panel p).power.state ≠ .off ∧ (s.panel p).power.state ≠ .ready := by
  simp [State.configurable]

theorem State.anyWindowOpen_iff {s : State} : s.anyWindowOpen = true ↔ ∃ w, some w ∈ s.windows.slots := by
  simp only [State.anyWindowOpen, List.any_eq_true, Option.isSome_iff_exists]
  exact ⟨fun ⟨_, hmem, w, hw⟩ => ⟨w, hw ▸ hmem⟩, fun ⟨w, hmem⟩ => ⟨_, hmem, w, rfl⟩⟩

theorem State.anyGrant_iff {s : State} {p : Panel} : s.anyGrant p = true ↔ ∃ g ∈ s.grants.records, g.panel = p := by
  simp [State.anyGrant]

theorem State.layoutHeld_iff {s : State} {p : Panel} :
    s.layoutHeld p = true ↔ p = .cluster ∧ (∃ w, some w ∈ s.windows.slots) ∨ ∃ g ∈ s.grants.records, g.panel = p := by
  rw [State.layoutHeld, Bool.or_eq_true, Bool.and_eq_true, decide_eq_true_eq, State.anyWindowOpen_iff, State.anyGrant_iff]

/-- A check that fails is the negation of what it asks. -/
theorem eq_false_iff_not {b : Bool} {P : Prop} (h : b = true ↔ P) : b = false ↔ ¬P := by
  rw [← h, Bool.not_eq_true]

/-- A count that no whole list of that length carries. -/
theorem counts_all_eq_false_iff {α : Type} {xs : List α} {n : Nat} :
    (Carried.all xs).counts n = false ↔ n ≠ xs.length := by
  rw [eq_false_iff_not (Carried.counts_iff _ _)]
  simp

/-! ### PANEL_CONFIG -/

theorem timingInRange_iff {t : Timing} :
    timingInRange t = true ↔
      240 ≤ t.nAct ∧ t.nAct ≤ 2048 ∧ 60 ≤ t.tLine ∧ t.tLine ≤ 2000 ∧ 4 ≤ t.nVb ∧ t.nVb ≤ 255 ∧ t.tSet ≤ 4095 ∧
        t.tSkip ≤ 4095 ∧ 100000 ≤ t.tMin ∧ t.tMin ≤ 2000000 ∧ 100000 ≤ t.tNom ∧ t.tNom ≤ 2000000 ∧
        100000 ≤ t.tMax ∧ t.tMax ≤ 2000000 ∧ 2 ≤ t.planLead ∧ t.planLead ≤ 64 := by
  simp only [timingInRange, Bool.and_eq_true, inRange_iff, Nat.zero_le, true_and, and_assoc]

theorem timingRelated_eq_false_iff {t : Timing} {lock : LockSettings} :
    timingRelated t lock = false ↔
      ¬(t.tMin ≤ t.tNom ∧ t.tNom ≤ t.tMax) ∨ t.tMin ≤ t.planLead * t.tLine ∨ t.tSet < t.tSkip ∨
        lock.source = .partner ∧ t.tMax ≤ lock.partnerOffset := by
  simp only [timingRelated, Bool.and_eq_false_iff, Bool.not_eq_false', Bool.and_eq_true, beq_iff_eq, decide_eq_true_eq,
    decide_eq_false_iff_not, Nat.not_lt, Nat.not_le, not_and_or, or_assoc]
  rfl

theorem recordsUnder_lines (x : PanelState) (nAct : Nat) :
    (recordsUnder x nAct).map Band.lines =
      if nAct = x.timing.nAct then x.bands.records.map Band.lines else [nAct] := by
  unfold recordsUnder; split <;> rfl

/-- Settles O11: the checks of R2 and R3 one after the other, then the nine fields and the bands of R5. -/
theorem panelConfigByTable : Obligations.PanelConfigByTable := by
  intro q tag p t s htakes x lines cost whole
  have hcost : configCost x t = cost := by
    rw [configCost, recordsUnder_lines]; rfl
  refine answersWith_of_servedBy htakes ?_
  simp only [servePanelConfig, panelNumber_eq_zero, panelNumber_eq_one, panelOf_panelNumber]
  refine servedBy_ite (by decide) fun _ => ?_
  refine servedBy_ite (by decide) fun _ => ?_
  refine servedBy_ite_of_iff (by decide) State.configurable_eq_false_iff ?_
  refine servedBy_ite_of_iff (by decide) (and_congr Iff.rfl State.layoutHeld_iff) ?_
  refine servedBy_ite_of_iff (by decide) (eq_false_iff_not timingInRange_iff) ?_
  refine servedBy_ite_of_iff (by decide) timingRelated_eq_false_iff ?_
  rw [show configCost (s.panel p) t = cost from hcost]
  refine servedBy_ite (refusal := fun o => if o = .doesNotFit then .cost cost else .none) (by decide) fun _ => ?_
  refine servedBy_accept ⟨?_, rfl⟩
  have hrecords : (if t.nAct = x.timing.nAct then x.bands else { x.bands with records := [whole] }) =
      { x.bands with records := recordsUnder x t.nAct } := by
    unfold recordsUnder; split <;> rfl
  rw [hrecords]
  rfl

/-! ### BAND_LAYOUT -/

theorem bandEntries_inRange_iff {entries : List BandEntry} :
    entries.all bandEntryInRange = false ↔
      ∃ e ∈ entries, ¬(1 ≤ e.holdLimit ∧ e.holdLimit ≤ 15) ∨ e.cls = none := by
  simp only [List.all_eq_false, bandEntryInRange, Bool.and_eq_true, inRange_iff, Option.isSome_iff_ne_none, not_and_or,
    ne_eq, not_not, or_comm]

theorem layout_anyGuarded_iff {entries : List BandEntry} :
    (entries.map bandSpecOf).any (fun b => b.cls == .guarded) = true ↔ ∃ e ∈ entries, e.cls = some .guarded := by
  have hcls : ∀ e : BandEntry, (bandSpecOf e).cls = .guarded ↔ e.cls = some .guarded := fun e => by
    cases h : e.cls <;> simp [bandSpecOf, h]
  simp only [List.any_map, List.any_eq_true, Function.comp_apply, beq_iff_eq, hcls]

/-- Settles O17: the checks of R25 one after the other, then the fresh table of R26. -/
theorem bandLayoutByTable : Obligations.BandLayoutByTable := by
  intro q tag p bMax count entries s htakes x cost records
  have hcost : fullRefreshCost x.timing ((entries.map bandSpecOf).map BandSpec.lines) = cost := by
    simp only [fullRefreshCost, List.map_map]
    rfl
  refine answersWith_of_servedBy htakes ?_
  simp only [serveBandLayout, panelNumber_eq_zero, panelOf_panelNumber, Carried.all_entries]
  refine servedBy_ite (by decide) fun _ => ?_
  refine servedBy_ite_of_iff (by decide) State.configurable_eq_false_iff ?_
  refine servedBy_ite_of_iff (by decide) State.layoutHeld_iff ?_
  refine servedBy_ite_of_iff (by decide)
    (or_congr (eq_false_iff_not inRange_iff) (or_congr counts_all_eq_false_iff (eq_false_iff_not inRange_iff))) ?_
  refine servedBy_ite_of_iff (by decide) bandEntries_inRange_iff ?_
  refine servedBy_ite_of_iff (by decide) (or_congr (by simp) Iff.rfl) ?_
  refine servedBy_ite_of_iff (by decide) (and_comm.trans (and_congr layout_anyGuarded_iff Iff.rfl)) ?_
  clear_value cost
  subst hcost
  refine servedBy_ite (refusal := fun o => if o = .doesNotFit then .cost (fullRefreshCost x.timing
    ((entries.map bandSpecOf).map BandSpec.lines)) else .none) (by decide) fun _ => ?_
  refine servedBy_accept ⟨?_, by rw [List.length_map]⟩
  have hrecords : (entries.map bandSpecOf).map Band.fresh = records := by
    rw [List.map_map]; rfl
  rw [updPanel_eq_setPanel, BandTable.fresh, hrecords]

/-! ### FULL_REFRESH and SUBSCRIBE -/

/-- Settles O20: a panel index above 1 names no panel, and the two requests by their checks. -/
theorem fullRefreshAndSubscribe : Obligations.FullRefreshAndSubscribe := by
  intro q tag s htakes
  refine ⟨fun p => ?_, fun p setting => ?_, fun panel hpanel => ?_⟩
  · refine answersWith_of_servedBy htakes (serve := serveFullRefresh q (panelNumber p)) ?_
    simp only [serveFullRefresh, panelNumber_eq_zero, panelOf_panelNumber]
    refine servedBy_ite (by decide) fun _ => servedBy_accept ⟨?_, rfl⟩
    simp only [State.updBands, markWhere_true, updPanel_eq_setPanel]
  · refine answersWith_of_servedBy htakes (serve := serveSubscribe q (panelNumber p) setting) ?_
    simp only [serveSubscribe, panelOf_panelNumber]
    cases setting with
    | none => exact servedBy_refused (by decide) rfl
    | some on =>
      refine servedBy_ite_of_iff (test := (some on : Option Bool) = none) (by decide) Iff.rfl (servedBy_accept ⟨?_, ?_⟩)
      · cases q <;> rfl
      · cases q <;> rfl
  · have hnone := panelOf_of_gt hpanel
    have h0 : ¬(q = .media ∧ panel = 0) := by omega
    refine ⟨?_, fun setting => ?_⟩
    · refine congrArg Host.Outcome.next ((takeRequest_of_takes htakes tag 0x05 _).trans ?_)
      simp only [serveFullRefresh, if_neg h0, hnone]
    · refine congrArg Host.Outcome.next ((takeRequest_of_takes htakes tag 0x06 _).trans ?_)
      simp only [serveSubscribe, hnone]

/-! ### BACKLIGHT -/

/-- Every field of BACKLIGHT lies in its range (R106, check 3). -/
abbrev dimmerInRange (r : DimmerRequest) : Prop :=
  r.target ≤ 1024 ∧ 1 ≤ r.ramp ∧ r.ramp ≤ 1024 ∧ 1 ≤ r.periods ∧ r.periods ≤ 16 ∧ r.polarity.isSome = true ∧
    r.cap ≤ 1024

/-- The settings that a BACKLIGHT with every field in range carries. -/
def dimmerCarried (r : DimmerRequest) : DimmerSettings :=
  { target := r.target, ramp := r.ramp, periods := r.periods, polarity := r.polarity.getD .activeHigh, cap := r.cap }

theorem dimmerSettingsOf_of_inRange {r : DimmerRequest} (h : dimmerInRange r) :
    dimmerSettingsOf r = some (dimmerCarried r) := by
  obtain ⟨htarget, hlow, hhigh, hone, hsixteen, hpolarity, hcap⟩ := h
  obtain ⟨polarity, hr⟩ := Option.isSome_iff_exists.mp hpolarity
  simp [dimmerSettingsOf, dimmerCarried, hr, htarget, hlow, hhigh, hone, hsixteen, hcap]

theorem dimmerSettingsOf_of_not_inRange {r : DimmerRequest} (h : ¬dimmerInRange r) : dimmerSettingsOf r = none := by
  cases hr : r.polarity with
  | none => simp [dimmerSettingsOf, hr]
  | some polarity =>
    simp only [dimmerSettingsOf, hr, Bool.and_eq_true, inRange_iff, ite_eq_right_iff]
    rintro ⟨⟨⟨⟨-, htarget⟩, hlow, hhigh⟩, hone, hsixteen⟩, -, hcap⟩
    exact absurd ⟨htarget, hlow, hhigh, hone, hsixteen, by simp [hr], hcap⟩ h

/-- The polarity carried differs from the present one exactly when the field does. -/
theorem dimmerCarried_polarity_ne {r : DimmerRequest} (h : r.polarity.isSome = true) (polarity : PwmPolarity) :
    (dimmerCarried r).polarity ≠ polarity ↔ r.polarity ≠ some polarity := by
  obtain ⟨given, hr⟩ := Option.isSome_iff_exists.mp h
  simp [dimmerCarried, hr]

/-- The checks of R106 in order, on a panel that exists. -/
theorem serveBacklight_panelNumber (q : Port) (p : Panel) (r : DimmerRequest) (s : State) :
    serveBacklight q (panelNumber p) r s =
      if q = .media ∧ p = .cluster then (s, refuse .notPermitted)
      else if q = .media ∧ p = .centre ∧ s.timingLock = true then (s, refuse .timingLocked)
      else if ¬dimmerInRange r then (s, refuse .badParam)
      else if ((dimmerCarried r).periods ≠ (s.panel p).dimmer.settings.periods ∨
            (dimmerCarried r).polarity ≠ (s.panel p).dimmer.settings.polarity) ∧ s.configurable p = false then
        (s, refuse .wrongState)
      else (s.updDimmer p fun d => { d with settings := dimmerCarried r },
        accept (.backlight (s.panel p).dimmer.applied (s.panel p).dimmer.frameDuty (s.panel p).dimmer.enable)) := by
  unfold serveBacklight
  by_cases h : dimmerInRange r
  · simp only [panelNumber_eq_zero, panelNumber_eq_one, panelOf_panelNumber, dimmerSettingsOf_of_inRange h,
      if_neg (not_not_intro h)]
  · simp only [panelNumber_eq_zero, panelNumber_eq_one, panelOf_panelNumber, dimmerSettingsOf_of_not_inRange h, if_pos h]

/-- Settles O37: the checks of R106 one after the other, then the five settings. -/
theorem backlightByTable : Obligations.BacklightByTable := by
  intro q tag p r s htakes x d
  refine ⟨fun panel hpanel => ?_, ?_⟩
  · have hnone := panelOf_of_gt hpanel
    have h0 : ¬(q = .media ∧ panel = 0) := by omega
    have h1 : ¬(q = .media ∧ panel = 1 ∧ s.timingLock = true) := by omega
    refine congrArg Host.Outcome.next ((takeRequest_of_takes htakes tag 0x0E _).trans ?_)
    simp only [serveBacklight, if_neg h0, if_neg h1, hnone]
  · refine answersWith_of_servedBy htakes (serve := serveBacklight q (panelNumber p) r) ?_
    rw [serveBacklight_panelNumber]
    refine servedBy_ite (by decide) fun _ => servedBy_ite (by decide) fun _ => servedBy_ite (by decide) fun hrange => ?_
    have hpolarity := dimmerCarried_polarity_ne (not_not.mp hrange).2.2.2.2.2.1 x.dimmer.settings.polarity
    exact servedBy_ite_of_iff (by decide)
      (and_congr (or_congr Iff.rfl hpolarity) State.configurable_eq_false_iff) (servedBy_accept ⟨rfl, rfl⟩)

/-! ### CRC_SET -/

/-- A record replaced, and the counts zeroed where the limit is replaced. -/
theorem crcSet_records (limit band : Nat) (crc : Crc) {bs : List Band} {b : Band} (h : bs[band]? = some b) :
    modifyBand band (Band.setCheck (some crc))
        (if limit = 0 then bs else bs.map fun y => { y with mismatches := 0 }) =
      (bs.map fun y => if limit = 0 then y else { y with mismatches := 0 }).set band
        { b with expected := some crc, mismatches := 0 } := by
  by_cases hlimit : limit = 0
  · simp only [if_pos hlimit, List.map_id']
    exact modifyBand_eq_set h _
  · simp only [if_neg hlimit]
    rw [modifyBand_eq_set (b := { b with mismatches := 0 }) (by rw [List.getElem?_map, h]; rfl)]
    rfl

/-- Settles O29: the checks of R81 one after the other, then the band's check and the limit. -/
theorem crcSetByTable : Obligations.CrcSetByTable := by
  intro q tag band crc limit s htakes x inForce zeroed
  refine answersWith_of_servedBy htakes (serve := serveCrcSet q band crc limit) ?_
  have hband : s.bandAt .cluster band = x.bands.records[band]?.map fun b =>
      { index := band, first := x.bands.firstLine band, band := b } := bandAt_eq s .cluster band
  refine servedBy_ite (by decide) fun _ => ?_
  rw [hband]
  cases hb : x.bands.records[band]? with
  | none => exact servedBy_refused (by decide) (List.getElem?_eq_none_iff.mp hb)
  | some b =>
    have hlength : ¬x.bands.records.length ≤ band := fun h => by
      rw [List.getElem?_eq_none h] at hb; cases hb
    refine servedBy_passed hlength (servedBy_ite_of_iff (by decide) ?_ ?_)
    · simp
    · refine servedBy_ite (by decide) fun _ => servedBy_accept ⟨b, rfl, ?_, ?_⟩
      · by_cases hlimit : limit = 0 <;> simp [inForce, hlimit, replaceLimit]
      · have hrecords := crcSet_records limit band crc hb
        rw [show zeroed.set band { b with expected := some crc, mismatches := 0 } = _ from hrecords.symm]
        by_cases hlimit : limit = 0 <;> simp only [inForce, hlimit, if_true, if_false] <;> rfl

/-! ### TOUCH_GROUPS -/

theorem distinctIds_iff {entries : List GroupEntry} : distinctIds entries = true ↔ (entries.map GroupEntry.id).Nodup := by
  induction entries with
  | nil => simp [distinctIds]
  | cons e es ih =>
    simp only [distinctIds, Bool.and_eq_true, List.all_eq_true, bne_iff_ne, ih, List.map_cons, List.nodup_cons,
      List.mem_map, not_exists, not_and]

theorem groupIds_bad_iff {entries : List GroupEntry} :
    (entries.all (fun e => inRange 0 15 e.id) = false ∨ distinctIds entries = false) ↔
      (∃ e ∈ entries, 15 < e.id) ∨ ¬(entries.map GroupEntry.id).Nodup := by
  refine or_congr ?_ (eq_false_iff_not distinctIds_iff)
  simp only [List.all_eq_false, inRange_iff, Nat.zero_le, true_and, Nat.not_le]

theorem groupEntries_bad_iff {entries : List GroupEntry} :
    entries.all groupEntryInRange = false ↔
      ∃ e ∈ entries, ¬(1 ≤ e.interval ∧ e.interval ≤ 8 ∧ 8 ≤ e.bursts ∧ e.bursts ≤ 255 ∧ e.enabled.isSome = true) := by
  simp only [List.all_eq_false, groupEntryInRange, Bool.and_eq_true, inRange_iff, and_assoc]

/-- Every scan setting lies in its range (R89, check 5). -/
abbrev scanInRange (r : ScanRequest) : Prop :=
  r.tGuard ≤ 1023 ∧ 8 ≤ r.listenBursts ∧ r.listenBursts ≤ 64 ∧ r.edgeGuard ≤ 4095 ∧ r.crossCoupling.isSome = true ∧
    50 ≤ r.timeout ∧ r.timeout ≤ 5000

/-- The settings that a TOUCH_GROUPS with every setting in range carries. -/
def scanCarried (r : ScanRequest) : ScanSettings :=
  { tGuard := r.tGuard, listenBursts := r.listenBursts, edgeGuard := r.edgeGuard,
    crossCoupling := r.crossCoupling.getD false, timeout := r.timeout }

theorem scanSettingsOf_of_inRange {r : ScanRequest} (h : scanInRange r) : scanSettingsOf r = some (scanCarried r) := by
  obtain ⟨hguard, hlow, hhigh, hedge, hcoupling, hshort, hlong⟩ := h
  obtain ⟨coupling, hr⟩ := Option.isSome_iff_exists.mp hcoupling
  simp [scanSettingsOf, scanCarried, hr, hguard, hlow, hhigh, hedge, hshort, hlong]

theorem scanSettingsOf_of_not_inRange {r : ScanRequest} (h : ¬scanInRange r) : scanSettingsOf r = none := by
  cases hr : r.crossCoupling with
  | none => simp [scanSettingsOf, hr]
  | some coupling =>
    simp only [scanSettingsOf, hr, Bool.and_eq_true, inRange_iff, ite_eq_right_iff]
    rintro ⟨⟨⟨⟨-, hguard⟩, hlow, hhigh⟩, -, hedge⟩, hshort, hlong⟩
    exact absurd ⟨hguard, hlow, hhigh, hedge, by simp [hr], hshort, hlong⟩ h

/-- The group that an entry gives, of age 255. -/
def groupOfEntry (e : GroupEntry) : Group :=
  { id := e.id, code := e.code, interval := e.interval, bursts := e.bursts, enabled := e.enabled.getD false, age := 255 }

theorem sortGroups_fresh_perm (entries : List GroupEntry) :
    ((sortGroups (entries.map groupSpecOf)).map Group.fresh).Perm (entries.map groupOfEntry) := by
  have h := (sortGroups_perm (entries.map groupSpecOf)).map Group.fresh
  rwa [List.map_map] at h

theorem sortGroups_enabled_count (entries : List GroupEntry) :
    ((sortGroups (entries.map groupSpecOf)).filter GroupSpec.enabled).length =
      entries.countP fun e => decide (e.enabled = some true) := by
  rw [← List.countP_eq_length_filter, (sortGroups_perm _).countP_eq, List.countP_map]
  refine congrArg (fun f => entries.countP f) (funext fun e => ?_)
  cases h : e.enabled with
  | none => simp [groupSpecOf, h]
  | some on => cases on <;> simp [groupSpecOf, h]

/-- Settles O33: the checks of R89 one after the other, then the groups in order of id. -/
theorem touchGroupsByTable : Obligations.TouchGroupsByTable := by
  intro q tag scan count entries s htakes
  refine answersWith_of_servedBy htakes (serve := serveTouchGroups scan count (.all entries)) ?_
  refine servedBy_ite (by decide) fun _ => ?_
  refine servedBy_ite_of_iff (by decide) (or_congr (eq_false_iff_not inRange_iff) counts_all_eq_false_iff) ?_
  by_cases hids : (∃ e ∈ entries, 15 < e.id) ∨ ¬(entries.map GroupEntry.id).Nodup
  · rw [Carried.all_entries, if_pos (groupIds_bad_iff.mpr hids)]
    exact servedBy_refused (by decide) hids
  refine servedBy_ite_of_iff (by decide) groupIds_bad_iff ?_
  refine servedBy_ite_of_iff (by decide) groupEntries_bad_iff ?_
  by_cases hscan : scanInRange scan
  · rw [scanSettingsOf_of_inRange hscan]
    refine servedBy_passed (not_not_intro hscan) (servedBy_accept ⟨_, rfl, ?_, sortGroups_fresh_perm entries, ?_⟩)
    · rw [List.pairwise_map]
      refine sortGroups_ascending ?_
      rw [List.pairwise_map]
      exact List.pairwise_map.mp (not_not.mp (not_or.mp hids).2)
    · rw [sortGroups_enabled_count, (sortGroups_perm _).length_eq, List.length_map]
      rfl
  · rw [scanSettingsOf_of_not_inRange hscan]
    exact servedBy_refused (by decide) hscan

/-! ### Settings that are replaced -/

theorem exec_takes {s : State} {q : Port} {tag : Byte} {r : Request} {i : Instr} (htakes : s.takes q)
    (hrow : requestOfInstr i = some (q, tag, r)) :
    exec i s = .next (placeReply q tag r.code (serveRequest q r s).2 (serveRequest q r s).1) := by
  rw [exec_of_requestOfInstr hrow, takeRequest_of_takes htakes]

/-- Settles O8: each request serves its own row. -/
theorem plainSettingsAreReplaced : Obligations.PlainSettingsAreReplaced := by
  intro q tag s htakes
  have hrun : ∀ {i : Instr} {r : Request}, requestOfInstr i = some (q, tag, r) →
      exec i s = .next (placeReply q tag r.code (serveRequest q r s).2 (serveRequest q r s).1) := exec_takes htakes
  refine ⟨?_, ?_, hrun (r := .touchEnable) rfl, hrun (r := .touchDisable) rfl⟩
  · rintro rfl
    refine ⟨hrun (r := .mediaEnable) rfl, fun hdisabled => ?_, fun on => hrun (r := .setTimingLock (some on)) rfl,
      hrun (r := .setTimingLock none) rfl⟩
    rw [hrun (r := .mediaDisable) rfl]
    simp [serveRequest, serveMediaDisable, hdisabled, Request.code]
  · rintro rfl
    exact ⟨hrun (r := .mediaEnable) rfl, hrun (r := .mediaDisable) rfl,
      fun setting => hrun (r := .setTimingLock setting) rfl⟩

end Sys2Proof.Machine

/-!
PROOF. The state after reset is legal (O3), the dispatch of parameter bytes (O6), and the requests that only read (O10).
-/

namespace Sys2Proof.Machine

open Sys2Proof

/-! ### The state after reset -/

/-- A panel just reset is still. -/
theorem PanelState.scanLegal_afterReset (x : PanelProfile) (powerGood : Bool) :
    (PanelState.afterReset x powerGood).scanLegal :=
  ⟨fun h => (nomatch h), fun _ => ⟨rfl, rfl, rfl, rfl, rfl, rfl, rfl, rfl⟩, fun _ => ⟨rfl, rfl, rfl, rfl, rfl, rfl, rfl⟩⟩

theorem Power.legal_afterReset (times : StepTimes) (powerGood : Bool) :
    (Power.afterReset times powerGood).outputsLegal ∧ (Power.afterReset times powerGood).marksLegal :=
  ⟨⟨rfl, rfl, rfl⟩, fun h => (nomatch h), fun h => (nomatch h), fun h => (nomatch h)⟩

/-- A fresh band is neither held nor off balance. -/
theorem BandTable.fresh_record {bMax : Nat} {layout : List BandSpec} {b : Band}
    (h : b ∈ (BandTable.fresh bMax layout).records) : b.hold = 0 ∧ b.balance = 0 := by
  obtain ⟨spec, -, rfl⟩ := List.mem_map.mp h
  exact ⟨rfl, rfl⟩

theorem State.reset_panel (p : Panel) : State.reset.panel p = .afterReset Config.factoryPanel false := by
  cases p <;> rfl

theorem State.reset_configLegal : State.reset.configLegal := by
  refine State.configLegal_iff.mpr ⟨⟨by decide, by decide, by decide, fun p => ?_, fun p => ?_, ?_, ?_⟩,
    fun r hr => (nomatch hr), fun w hw => (nomatch hw)⟩
  · rw [State.reset_panel, afterReset_items]; exact factoryPanel_legal
  · rw [State.reset_panel]; exact fun h => absurd h.1 (by decide)
  · have hitems : State.reset.centre.items = Config.factoryPanel := afterReset_items ..
    rw [hitems]; decide
  · have hitems : State.reset.touch.items = Config.factoryTouch := Touch.afterReset_items _
    rw [hitems]; exact factoryProfile_legal.2.2.2.1

/-- Settles O3: nothing runs, nothing is granted, and the factory defaults are legal. -/
theorem resetStateIsLegal : Obligations.ResetStateIsLegal := by
  have hoff : ∀ p, (State.reset.panel p).power.state = .off := fun p => by rw [State.reset_panel]; rfl
  have hstill : ∀ p, (State.reset.panel p).power.state ≠ .scanning := fun p h => by rw [hoff p] at h; cases h
  refine ⟨⟨by decide, by decide⟩, fun _ => ⟨fun g hg => (nomatch hg), rfl, rfl⟩, ⟨rfl, fun h => (nomatch h)⟩, ?_,
    ⟨rfl, fun g hg => (nomatch hg)⟩, fun p => ?_, fun p => ?_, fun p b hb => ?_, State.reset_configLegal,
    ⟨State.reset_configLegal, fun p h => absurd h (hstill p)⟩, .nil, fun p b hb => ?_,
    fun h => absurd rfl h, fun p h => absurd h (hstill p)⟩
  · exact ⟨by decide, fun q => by cases q <;> decide, .nil, .nil, fun g hg => (nomatch hg), by decide, by decide,
      fun g hg => (nomatch hg)⟩
  · rw [State.reset_panel]; exact Power.legal_afterReset ..
  · rw [State.reset_panel]; exact PanelState.scanLegal_afterReset ..
  · rw [State.reset_panel] at hb
    rw [(BandTable.fresh_record hb).1]
    exact Nat.zero_le _
  · rw [State.reset_panel] at hb
    rw [(BandTable.fresh_record hb).2, State.reset_panel]
    exact Int.natCast_nonneg _

/-! ### Parameter bytes -/

/-- The kinds that carry no parameter. -/
theorem plainRequest_isSome_iff (kind : Byte) :
    (plainRequest kind).isSome = true ↔
      kind ∈ ([0x0A, 0x0B, 0x0D, 0x11, 0x19, 0x1A, 0x1C, 0x1D, 0x20, 0x21] : List Byte) := by
  rw [plainRequest, List.find?_isSome]
  simp only [List.mem_cons, List.not_mem_nil, or_false, exists_eq_or_imp, exists_eq_left, Request.code, beq_iff_eq]
  simp only [@eq_comm Byte kind]

theorem carriesList_iff (kind : Byte) : carriesList kind = true ↔ kind ∈ ([0x03, 0x04, 0x09, 0x13] : List Byte) := by
  simp only [carriesList, Bool.or_eq_true, beq_iff_eq, List.mem_cons, List.not_mem_nil, or_false, or_assoc]

theorem fixedBytes_eq_zero_iff (kind : Byte) : fixedBytes kind = 0 ↔ (plainRequest kind).isSome = true := by
  unfold fixedBytes; split <;> simp [*]

/-- Every known kind that carries parameters spells a request. -/
theorem spellRequest_isSome {kind : Byte} (hlow : 1 ≤ kind.toNat) (hhigh : kind.toNat ≤ 0x23)
    (hplain : ¬kind ∈ ([0x0A, 0x0B, 0x0D, 0x11, 0x19, 0x1A, 0x1C, 0x1D, 0x20, 0x21] : List Byte)) (f : Nat → Nat)
    (list : Carried (Nat → Nat)) : spellRequest kind f list ≠ none := by
  have hkind : kind = BitVec.ofNat 8 kind.toNat := by simp
  generalize hn : kind.toNat = n at hlow hhigh hkind
  subst hkind
  unfold spellRequest
  rw [hn]
  interval_cases n
  any_goals exact Option.some_ne_none _
  all_goals exact absurd (by decide) hplain

theorem requestOf_ne_none_iff {kind : Byte} (hlow : 1 ≤ kind.toNat) (hhigh : kind.toNat ≤ 0x23) (params : List Byte) :
    requestOf kind params ≠ none ↔ paramsFit kind params.length = true := by
  unfold requestOf
  split
  · refine iff_of_true ?_ ‹_›
    cases hplain : plainRequest kind with
    | some r => exact Option.some_ne_none _
    | none =>
      refine spellRequest_isSome hlow hhigh (fun hmem => ?_) _ _
      have := (plainRequest_isSome_iff kind).mpr hmem
      rw [hplain] at this
      cases this
  · exact iff_of_false (fun h => h rfl) ‹_›

/-- Of a request that ends in a list: whether it is carried whole, and how many entries it has. -/
def listCarried : Request → Option (Bool × Nat)
  | .bandLayout _ _ _ list => some (list.whole, list.entries.length)
  | .damage _ _ list => some (list.whole, list.entries.length)
  | .touchGroups _ _ list => some (list.whole, list.entries.length)
  | .writeClose _ list => some (list.whole, list.entries.length)
  | _ => none

theorem plainRequest_listCarried {kind : Byte} {r : Request} (h : plainRequest kind = some r) : listCarried r = none := by
  have hmem := List.mem_of_find?_eq_some h
  simp only [List.mem_cons, List.not_mem_nil, or_false] at hmem
  rcases hmem with rfl | rfl | rfl | rfl | rfl | rfl | rfl | rfl | rfl | rfl <;> rfl

theorem spellRequest_listCarried {kind : Byte} {f : Nat → Nat} {list : Carried (Nat → Nat)} {r : Request} {whole : Bool}
    {n : Nat} (h : spellRequest kind f list = some r) (hr : listCarried r = some (whole, n)) :
    whole = list.whole ∧ n = list.entries.length := by
  have hmap : ∀ {α : Type} {g : (Nat → Nat) → α}, some ((list.map g).whole, (list.map g).entries.length) = some (whole, n) →
      whole = list.whole ∧ n = list.entries.length := by
    intro α g heq
    rw [Carried.map_whole, Carried.map_entries, List.length_map] at heq
    cases heq
    exact ⟨rfl, rfl⟩
  unfold spellRequest at h
  split at h <;> cases h
  any_goals exact hmap hr
  all_goals cases hr

/-- A list spelled by some bytes is whole exactly when the bytes end with its last entry. -/
theorem requestOf_whole_iff {kind : Byte} {params : List Byte} {r : Request} {whole : Bool} {n : Nat}
    (h : requestOf kind params = some r) (hr : listCarried r = some (whole, n)) :
    whole = true ↔ params.length = fixedBytes kind + n * listEntryBytes kind := by
  unfold requestOf at h
  split at h
  · split at h
    · cases h
      rw [plainRequest_listCarried ‹_›] at hr
      cases hr
    · obtain ⟨rfl, rfl⟩ := spellRequest_listCarried h hr
      exact listOf_whole_iff kind params
  · cases h

/-- Parameters fit a kind by their number alone (R166, check 3; log entry 5). -/
theorem parametersFit : ∃ fixed entry : Byte → Nat,
    (∀ kind, 0 < entry kind) ∧
    (∀ kind : Byte, 1 ≤ kind.toNat → kind.toNat ≤ 0x23 →
      (fixed kind = 0 ↔ kind ∈ ([0x0A, 0x0B, 0x0D, 0x11, 0x19, 0x1A, 0x1C, 0x1D, 0x20, 0x21] : List Byte)) ∧
      (kind ∉ ([0x03, 0x04, 0x09, 0x13] : List Byte) →
        ∀ params : List Byte, requestOf kind params ≠ none ↔ params.length = fixed kind) ∧
      (kind ∈ ([0x03, 0x04, 0x09, 0x13] : List Byte) → ∀ params : List Byte, requestOf kind params ≠ none)) ∧
    ∀ (kind : Byte) (params : List Byte) (r : Request), requestOf kind params = some r → r.code = kind ∧
      ∀ whole n, listCarried r = some (whole, n) → (whole = true ↔ params.length = fixed kind + n * entry kind) := by
  refine ⟨fixedBytes, listEntryBytes, fun _ => Nat.succ_pos _, fun kind hlow hhigh => ?_,
    fun kind params r h => ⟨requestOf_code h, fun whole n hr => requestOf_whole_iff h hr⟩⟩
  refine ⟨(fixedBytes_eq_zero_iff kind).trans (plainRequest_isSome_iff kind), fun hlist params => ?_, fun hlist params => ?_⟩
  · rw [requestOf_ne_none_iff hlow hhigh, paramsFit, Bool.eq_false_iff.mpr (mt (carriesList_iff kind).mp hlist),
      Bool.false_or, beq_iff_eq]
  · rw [requestOf_ne_none_iff hlow hhigh, paramsFit, (carriesList_iff kind).mpr hlist, Bool.true_or]

/-! ### Dispatch -/

/-- A list that is not whole has no count. -/
theorem counts_of_not_whole {α : Type} {list : Carried α} (h : list.whole = false) (n : Nat) : list.counts n = false := by
  rw [Carried.counts, h, Bool.false_and]

/-- A BAND_LAYOUT whose list is not whole is refused as one that states no band. -/
theorem serveBandLayout_of_not_whole {list : Carried BandEntry} (h : list.whole = false) (q : Port)
    (panel bMax count : Nat) (s : State) :
    serveBandLayout q panel bMax count list s = serveBandLayout q panel bMax 0 (.all []) s := by
  have hbad : inRange 1 32 count = false ∨ list.counts count = false ∨ inRange 1 7 bMax = false :=
    .inr (.inl (counts_of_not_whole h count))
  have hnone : inRange 1 32 0 = false ∨ (Carried.all ([] : List BandEntry)).counts 0 = false ∨ inRange 1 7 bMax = false :=
    .inl rfl
  unfold serveBandLayout
  cases panelOf panel with
  | none => rfl
  | some p => simp only [if_pos hbad, if_pos hnone]

/-- A DAMAGE whose list is not whole is refused as one that states no range. -/
theorem serveDamage_of_not_whole {list : Carried LineRange} (h : list.whole = false) (q : Port)
    (target : Option DamageTarget) (count : Nat) (s : State) :
    serveDamage q target count list s = serveDamage q target 0 (.all []) s := by
  have hbad : inRange 1 8 count = false ∨ list.counts count = false := .inr (counts_of_not_whole h count)
  have hnone : inRange 1 8 0 = false ∨ (Carried.all ([] : List LineRange)).counts 0 = false := .inl rfl
  unfold serveDamage
  cases target with
  | none => rfl
  | some target => simp only [if_pos hbad, if_pos hnone]

/-- A TOUCH_GROUPS whose list is not whole is refused as one that states no group. -/
theorem serveTouchGroups_of_not_whole {list : Carried GroupEntry} (h : list.whole = false) (scan : ScanRequest)
    (count : Nat) (s : State) : serveTouchGroups scan count list s = serveTouchGroups scan 0 (.all []) s := by
  have hbad : inRange 1 16 count = false ∨ list.counts count = false := .inr (counts_of_not_whole h count)
  have hnone : inRange 1 16 0 = false ∨ (Carried.all ([] : List GroupEntry)).counts 0 = false := .inl rfl
  unfold serveTouchGroups
  simp only [if_pos hbad, if_pos hnone]

theorem grantNamed_eq_none_iff {s : State} {q : Port} {id : Nat} :
    s.grantNamed q id = none ↔ ∀ g ∈ s.grants.records, ¬(g.id = id ∧ g.port = q) := by
  simp only [State.grantNamed, List.find?_eq_none, Bool.and_eq_true, beq_iff_eq, decide_eq_true_eq]

/-- A WRITE_CLOSE whose list is not whole names no grant, or fails the check of its list. -/
theorem serveWriteClose_of_not_whole {list : Carried Crc} (h : list.whole = false) (q : Port) (id : Nat) (s : State) :
    ((∀ g ∈ s.grants.records, ¬(g.id = id ∧ g.port = q)) → serveWriteClose q id list s = (s, refuse .noGrant)) ∧
      ((∃ g ∈ s.grants.records, g.id = id ∧ g.port = q) → serveWriteClose q id list s = (s, refuse .badParam)) := by
  refine ⟨fun hnone => ?_, fun ⟨g, hg, hnamed⟩ => ?_⟩
  · rw [serveWriteClose, grantNamed_eq_none_iff.mpr hnone]
  · obtain ⟨g', hfound⟩ := Option.ne_none_iff_exists'.mp fun hnone => grantNamed_eq_none_iff.mp hnone g hg hnamed
    simp only [serveWriteClose, hfound]
    exact if_pos (.inl h)

theorem knownKind_iff {kind : Byte} : knownKind kind = true ↔ 1 ≤ kind.toNat ∧ kind.toNat ≤ 0x23 := by
  simp [knownKind]

/-- A known kind that the port does not lock, whose bytes spell a request: the request is taken as its own row. -/
theorem dispatch_of_request {q : Port} {tag kind : Byte} {params : List Byte} {r : Request} {s : State}
    (hknown : knownKind kind = true) (hlocks : s.portLocks q kind = false) (hr : requestOf kind params = some r) :
    dispatch q tag kind params s = takeRequest q tag r.code (serveRequest q r) s := by
  rw [dispatch, if_neg (by rw [hknown]; decide), if_neg (by rw [hlocks]; decide), hr, requestOf_code hr]

/-- Settles O6: the parameters by their number, then the checks of R166 one after the other. -/
theorem dispatchInOrder : Obligations.DispatchInOrder := by
  obtain ⟨fixed, entry, hentry, hfit, hspell⟩ := parametersFit
  refine ⟨⟨fixed, entry, hentry, fun kind hlow hhigh => hfit kind hlow hhigh, fun kind params r hr => ?_⟩, ?_⟩
  · obtain ⟨hcode, hwhole⟩ := hspell kind params r hr
    refine ⟨hcode, ?_, ?_, ?_, ?_⟩
    · rintro panel bMax count list rfl; exact hwhole _ _ rfl
    · rintro target count list rfl; exact hwhole _ _ rfl
    · rintro scan count list rfl; exact hwhole _ _ rfl
    · rintro grant list rfl; exact hwhole _ _ rfl
  · intro q tag kind params s hreset hreply known locked after
    refine ⟨fun hunknown => ?_, fun hknown hlocked => ?_, fun hknown hopen hnone => ?_, fun hknown hopen r hr => ?_⟩
    · exact if_pos (Bool.eq_false_iff.mpr (mt knownKind_iff.mp hunknown))
    · show dispatch q tag kind params s = _
      rw [dispatch, if_neg (by rw [knownKind_iff.mpr hknown]; decide), if_pos (State.portLocks_iff.mpr hlocked)]
    · show dispatch q tag kind params s = _
      rw [dispatch, if_neg (by rw [knownKind_iff.mpr hknown]; decide), if_neg (mt State.portLocks_iff.mp hopen), hnone]
    · have hlocks : s.portLocks q kind = false := Bool.eq_false_iff.mpr (mt State.portLocks_iff.mp hopen)
      have hafter : after = takeRequest q tag r.code (serveRequest q r) s :=
        dispatch_of_request (knownKind_iff.mpr hknown) hlocks hr
      have hrow : ∀ (i : Instr) (r' : Request), requestOfInstr i = some (q, tag, r') → r'.code = r.code →
          serveRequest q r' s = serveRequest q r s → exec i s = .next after := by
        intro i r' hi hcode hserve
        rw [exec_of_requestOfInstr hi, hafter, takeRequest_taken hreset hreply (by rw [hcode, requestOf_code hr]; exact hlocks),
          takeRequest_taken hreset hreply (by rw [requestOf_code hr]; exact hlocks), hcode, hserve]
      refine ⟨fun i hi => hrow i r hi rfl rfl, ?_, ?_, ?_, ?_⟩
      · rintro panel bMax count list rfl hlist
        exact hrow _ (.bandLayout panel bMax 0 (.all [])) rfl rfl (serveBandLayout_of_not_whole hlist q panel bMax count s).symm
      · rintro target count list rfl hlist
        exact hrow _ (.damage target 0 (.all [])) rfl rfl (serveDamage_of_not_whole hlist q target count s).symm
      · rintro scan count list rfl hlist
        exact hrow _ (.touchGroups scan 0 (.all [])) rfl rfl (serveTouchGroups_of_not_whole hlist scan count s).symm
      · rintro grant list rfl hlist
        have hserved : after = placeReply q tag kind (serveWriteClose q grant list s).2 (serveWriteClose q grant list s).1 := by
          rw [hafter, takeRequest_taken hreset hreply (by rw [requestOf_code hr]; exact hlocks), requestOf_code hr]
          rfl
        obtain ⟨hnone, hsome⟩ := serveWriteClose_of_not_whole hlist q grant s
        exact ⟨fun h => by rw [hserved, hnone h], fun h => by rw [hserved, hsome h]⟩

/-! ### Owners of bands -/

theorem lentBy_iff {slots : List (Option Window)} {x : Placed} :
    lentBy slots x = true ↔ ∃ w, some w ∈ slots ∧ lends w x = true := by
  simp only [lentBy, List.any_eq_true, Option.any_eq_true]
  exact ⟨fun ⟨_, hmem, w, hw, h⟩ => ⟨w, hw ▸ hmem, h⟩, fun ⟨w, hmem, h⟩ => ⟨some w, hmem, w, rfl, h⟩⟩

/-- The band at an index of a table, placed. -/
def BandTable.placedAt (t : BandTable) (i : Nat) (b : Band) : Placed :=
  { index := i, first := t.firstLine i, band := b }

theorem State.lentBy_placedAt_iff {s : State} {i : Nat} {b : Band} :
    lentBy s.windows.slots (s.cluster.bands.placedAt i b) = true ↔ s.lendsBand i b := by
  simp only [lentBy_iff, lends_iff, State.lendsBand, BandTable.placedAt, Placed.stop]
  constructor
  · rintro ⟨w, hmem, hcls, hlow, hhigh⟩
    exact ⟨hcls, w, hmem, hlow, hhigh⟩
  · rintro ⟨hcls, w, hmem, hlow, hhigh⟩
    exact ⟨w, hmem, hcls, hlow, hhigh⟩

/-- A band's owner is MEDIA exactly on the centre panel or under an OPEN window (R29). -/
theorem State.owner_eq_media_iff {s : State} {p : Panel} {i : Nat} {b : Band} :
    s.owner p ((s.panel p).bands.placedAt i b) = .media ↔ s.mediaBand p i b := by
  cases p with
  | centre => exact iff_of_true rfl (.inl rfl)
  | cluster =>
    rw [State.mediaBand, ← State.lentBy_placedAt_iff, State.owner]
    refine Iff.trans ?_ (or_iff_right (by decide)).symm
    show (if lentBy s.windows.slots (s.cluster.bands.placedAt i b) = true then Owner.media else .supervisor) = _ ↔ _
    split
    · exact iff_of_true rfl ‹_›
    · exact iff_of_false (by decide) ‹_›

/-! ### Requests that only read -/

theorem exec_read_only {s : State} {q : Port} {tag : Byte} {r : Request} {i : Instr} {a : Answer}
    (hreset : s.inReset = false) (hreply : (s.port q).reply = none) (hlocks : s.portLocks q r.code = false)
    (hrow : requestOfInstr i = some (q, tag, r)) (hserve : serveRequest q r s = (s, a)) :
    exec i s = .next (placeReply q tag r.code a s) := by
  rw [exec_of_requestOfInstr hrow, takeRequest_taken hreset hreply hlocks, hserve]

/-- The PROTECTED bands of the cluster as STATUS reports them. -/
theorem State.mem_guarded_iff {s : State} {y : GuardedStatus} :
    y ∈ s.clusterOnly.guarded ↔ ∃ b, s.cluster.bands.records[y.band]? = some b ∧ b.cls = .guarded ∧
      y.checked = b.expected.isSome ∧ y.mismatches = b.mismatches := by
  simp only [State.clusterOnly, guardedIn, List.mem_map, List.mem_filter, BandTable.mem_placed, beq_iff_eq]
  constructor
  · rintro ⟨x, ⟨⟨k, b, hb, rfl⟩, hcls⟩, rfl⟩
    exact ⟨b, hb, hcls, rfl, rfl⟩
  · rintro ⟨b, hb, hcls, hchecked, hmismatches⟩
    refine ⟨_, ⟨⟨y.band, b, hb, rfl⟩, hcls⟩, ?_⟩
    obtain ⟨band, checked, mismatches⟩ := y
    cases hchecked
    cases hmismatches
    rfl

theorem State.guarded_pairwise (s : State) : s.clusterOnly.guarded.Pairwise fun y z => y.band < z.band := by
  have hindices : (s.clusterOnly.guarded.map GuardedStatus.band).Sublist (List.range s.cluster.bands.records.length) := by
    rw [State.clusterOnly, List.map_map, ← BandTable.placed_map_index]
    exact List.filter_sublist.map Placed.index
  exact List.pairwise_map.mp (List.pairwise_lt_range.sublist hindices)

theorem State.countsBands_mediaBands (s : State) :
    CountsBands s.cluster.bands.records.length
      (fun i => ∃ b, s.cluster.bands.records[i]? = some b ∧ s.lendsBand i b) s.clusterOnly.mediaBands := by
  refine (BandTable.countsBands_filter s.cluster.bands fun x => s.owner .cluster x == .media).congr fun i _ => ?_
  refine exists_congr fun b => and_congr_right fun _ => ?_
  rw [beq_iff_eq]
  exact State.owner_eq_media_iff.trans (or_iff_right (by decide))

/-- A record that passes its check is VALID. -/
theorem ProfileStore.validRecord_of_passes {x : ProfileStore} {r : StoredProfile} (hr : x.stored = some r)
    (hpasses : r.check = Config.profileCheck r.items) : x.validRecord = some r.items := by
  simp only [ProfileStore.validRecord, hr, StoredProfile.passes, hpasses, beq_self_eq_true, if_true]

theorem ProfileStore.validRecord_isSome_iff {x : ProfileStore} :
    x.validRecord.isSome = true ↔ ∃ r, x.stored = some r ∧ r.check = Config.profileCheck r.items := by
  constructor
  · intro h
    unfold ProfileStore.validRecord at h
    split at h
    · cases h
    · split at h
      · exact ⟨_, ‹_›, (beq_iff_eq.mp ‹_›).symm⟩
      · cases h
  · rintro ⟨r, hr, hpasses⟩
    rw [ProfileStore.validRecord_of_passes hr hpasses]
    rfl

/-- Settles O10: each read leaves the state, and its answer lists what stands. -/
theorem readsChangeNothing : Obligations.ReadsChangeNothing := by
  intro q tag s hreset hreply panelStatus
  have hstatus : ∀ x, panelStatus x = x.status := fun x => by
    simp only [panelStatus, PanelState.status, List.countP_eq_length_filter]
  have hfree : ∀ kind : Byte, kind = 0x20 ∨ kind = 0x1F → s.portLocks q kind = false := fun kind hkind =>
    Bool.eq_false_iff.mpr fun h => by
      obtain ⟨-, -, hidentify, hread⟩ := State.portLocks_iff.mp h
      exact hkind.elim hidentify hread
  have hread : ∀ (portion : Nat) (a : Answer), serveStatus portion s = (s, a) →
      exec (.status q tag portion) s = .next (placeReply q tag 0x1F a s) := fun portion a ha =>
    exec_read_only (r := .status portion) hreset hreply (hfree _ (.inr rfl)) rfl ha
  refine ⟨?_, ⟨s.clusterOnly.mediaBands, s.clusterOnly.guarded, s.countsBands_mediaBands, fun y => State.mem_guarded_iff,
    s.guarded_pairwise, ?_⟩, ?_, fun portion hportion => ?_, ?_, fun hmedia => ?_⟩
  · refine hread 0 _ ?_
    simp only [serveStatus, State.deviceStatus, State.grantsOf, List.countP_eq_length_filter]
    rfl
  · rw [hstatus]; exact hread 1 _ rfl
  · rw [hstatus]; exact hread 2 _ rfl
  · match portion, hportion with
    | n + 3, _ => exact hread (n + 3) _ rfl
  · exact exec_read_only (r := .identify) hreset hreply (hfree _ (.inl rfl)) rfl rfl
  · have hopen : ∀ kind, s.portLocks q kind = false := (State.takes.portLocks_eq_false ⟨hreset, hreply, hmedia⟩)
    refine ⟨⟨s.windows.slots.map fun o => o.map (windowReport s.cluster.bands),
      exec_read_only (r := .windowRead) hreset hreply (hopen _) rfl rfl, ?_, fun y hy => ?_⟩,
      exec_read_only (r := .touchRead) hreset hreply (hopen _) rfl rfl, ?_⟩
    · rw [List.map_map]
      refine (List.map_congr_left fun o _ => ?_).trans (List.map_id _)
      cases o <;> rfl
    · obtain ⟨o, -, ho⟩ := List.mem_map.mp hy
      obtain ⟨w, rfl, rfl⟩ := Option.map_eq_some_iff.mp ho
      refine ⟨?_, BandTable.countsBands_lentBands, fun j => BandTable.firstLent_of_least, BandTable.firstLent_of_none⟩
      exact beq_iff_eq
    · intro read passes valid
      have hrun : ∀ portion a, serveProfileRead portion s = (s, a) →
          exec (.profileRead q tag portion) s = .next (placeReply q tag 0x23 a s) := fun portion a ha =>
        exec_read_only (r := .profileRead portion) hreset hreply (hopen _) rfl ha
      have hv : ∀ v : Bool, (v = true ↔ valid) → s.profile.validRecord.isSome = v := fun v hv =>
        Bool.eq_iff_iff.mpr (ProfileStore.validRecord_isSome_iff.trans hv.symm)
      refine ⟨fun portion v hvalid => ⟨fun hwriting hportion => ?_, fun hportion => ?_⟩, fun hidle hinvalid portion hportion => ?_,
        fun hidle r hr hpasses => ?_⟩
      · refine hrun portion _ ?_
        rw [serveProfileRead, if_neg (Nat.not_lt.mpr hportion), if_pos (Option.isSome_iff_ne_none.mpr hwriting), hv v hvalid]
      · refine hrun portion _ ?_
        rw [serveProfileRead, if_pos hportion, hv v hvalid]
      · refine hrun portion _ ?_
        have hnone : s.profile.validRecord = none := by
          rw [← Option.not_isSome_iff_eq_none]
          exact mt ProfileStore.validRecord_isSome_iff.mp hinvalid
        rw [serveProfileRead, if_neg (Nat.not_lt.mpr hportion), hidle, if_neg (by decide), hnone]
        rfl
      · have hsome : s.profile.validRecord = some r.items := ProfileStore.validRecord_of_passes hr hpasses
        have hserve : ∀ portion ≤ 3, serveProfileRead portion s =
            (s, accept (.profileRead true (some (r.items.items portion)))) := fun portion hportion => by
          rw [serveProfileRead, if_neg (Nat.not_lt.mpr hportion), hidle, if_neg (by decide), hsome]
          rfl
        exact ⟨hrun 0 _ (hserve 0 (by decide)), hrun 1 _ (hserve 1 (by decide)), hrun 2 _ (hserve 2 (by decide)),
          hrun 3 _ (hserve 3 (by decide))⟩

end Sys2Proof.Machine

/-!
PROOF. Requests about lines: DAMAGE on a panel (O18) and on the canvas (O19), and LINE_WATCH (O28).
-/

namespace Sys2Proof.Machine

open Sys2Proof

/-! ### Ranges of lines -/

/-- A line of a range, below the line count. -/
def lineIn (count : Nat) (r : LineRange) (line : Nat) : Prop := r.first ≤ line ∧ line ≤ r.last ∧ line < count

theorem clipRange_eq_some_iff {count : Nat} {r c : LineRange} :
    clipRange count r = some c ↔ r.first < count ∧ c = { first := r.first, last := min r.last (count - 1) } := by
  unfold clipRange
  split
  · rw [Option.some.injEq, eq_comm]
    exact (and_iff_right ‹_›).symm
  · exact iff_of_false (fun h => (nomatch h)) fun h => absurd h.1 ‹_›

/-- A line lies in the clipped range exactly when it lies in the range and below the count. -/
theorem exists_clipRange_iff {count : Nat} {r : LineRange} {line : Nat} :
    (∃ c, clipRange count r = some c ∧ c.first ≤ line ∧ line ≤ c.last) ↔ lineIn count r line := by
  simp only [clipRange_eq_some_iff, lineIn]
  constructor
  · rintro ⟨c, ⟨hcount, rfl⟩, hlow, hhigh⟩
    dsimp only at hlow hhigh
    omega
  · rintro ⟨hlow, hhigh, hcount⟩
    refine ⟨_, ⟨by omega, rfl⟩, hlow, ?_⟩
    dsimp only
    omega

/-- A band that has lines meets a range that has lines exactly in a common line. -/
theorem meetsLines_iff {first last : Nat} {x : Placed} (hrange : first ≤ last) (hlines : 0 < x.band.lines) :
    meetsLines first last x = true ↔ ∃ line, first ≤ line ∧ line ≤ last ∧ x.first ≤ line ∧ line < x.stop := by
  rw [meetsLines, Bool.and_eq_true, decide_eq_true_eq, decide_eq_true_eq, Placed.stop]
  refine ⟨fun h => ⟨max first x.first, ?_⟩, fun ⟨line, h⟩ => ?_⟩ <;> omega

theorem clippedAway_eq (count : Nat) (ranges : List LineRange) :
    clippedAway count ranges = ranges.countP fun y => decide (count ≤ y.first) := by
  rw [clippedAway, ← List.countP_eq_length_filter]
  refine congrArg (fun f => ranges.countP f) (funext fun r => ?_)
  rw [clipRange]
  split
  · simp [Nat.not_le.mpr ‹_›]
  · simp [Nat.not_lt.mp ‹_›]

theorem clipRange_ordered {count : Nat} {r c : LineRange} (hr : r.first ≤ r.last) (hc : clipRange count r = some c) :
    c.first ≤ c.last := by
  obtain ⟨hcount, rfl⟩ := clipRange_eq_some_iff.mp hc
  dsimp only
  omega

theorem ranges_bad_iff {ranges : List LineRange} :
    ranges.any (fun r => decide (r.last < r.first)) = true ↔ ∃ r ∈ ranges, r.last < r.first := by
  simp only [List.any_eq_true, decide_eq_true_eq]

/-- Every band of a legal panel has lines. -/
theorem State.configLegal.lines_pos {s : State} (hs : s.configLegal) {p : Panel} {b : Band}
    (hb : b ∈ (s.panel p).bands.records) : 0 < b.lines := by
  obtain ⟨hlive, -⟩ := State.configLegal_iff.mp hs
  obtain ⟨-, -, -, -, -, -, -, -, -, -, -, hentry, -⟩ := hlive.panel p
  have h := (hentry b.spec (by rw [PanelState.items_bands]; exact List.mem_map_of_mem hb)).1
  exact Nat.lt_of_lt_of_le (by decide) h

/-! ### Marking the bands hit -/

/-- What a marking leaves: the records hit become dirty, and their number is counted. -/
theorem markWhere_marks (t : BandTable) {test : Placed → Bool} {hit : Nat → Prop}
    (htest : ∀ i b, t.records[i]? = some b → (test (t.placedAt i b) = true ↔ hit i)) :
    (markWhere test t.records).length = t.records.length ∧
      (∀ i (b : Band), t.records[i]? = some b →
        (hit i → (markWhere test t.records)[i]? = some { b with dirty := true }) ∧
          (¬hit i → (markWhere test t.records)[i]? = some b)) ∧
      ((∀ i, hit i → ∃ b, t.records[i]? = some b) →
        CountsBands t.records.length hit (t.placed.filter test).length) := by
  refine ⟨markWhere_length .., fun i b hb => ?_, fun hband => ?_⟩
  · rw [getElem?_markWhere, hb]
    refine ⟨fun h => ?_, fun h => ?_⟩
    · exact congrArg some (if_pos ((htest i b hb).mpr h))
    · exact congrArg some (if_neg (mt (htest i b hb).mp h))
  · refine (BandTable.countsBands_filter t test).congr fun i _ => ?_
    constructor
    · rintro ⟨b, hb, h⟩
      exact (htest i b hb).mp h
    · intro h
      obtain ⟨b, hb⟩ := hband i h
      exact ⟨b, hb, (htest i b hb).mpr h⟩

/-! ### DAMAGE on a panel -/

theorem hitByAny_iff {count : Nat} {ranges : List LineRange} {x : Placed} (hranges : ∀ r ∈ ranges, r.first ≤ r.last)
    (hlines : 0 < x.band.lines) :
    hitByAny (ranges.filterMap (clipRange count)) x = true ↔
      ∃ r ∈ ranges, ∃ line, lineIn count r line ∧ x.first ≤ line ∧ line < x.stop := by
  simp only [hitByAny, List.any_eq_true, List.mem_filterMap]
  constructor
  · rintro ⟨c, ⟨r, hr, hc⟩, hmeets⟩
    obtain ⟨line, hlow, hhigh, hband⟩ := (meetsLines_iff (clipRange_ordered (hranges r hr) hc) hlines).mp hmeets
    exact ⟨r, hr, line, exists_clipRange_iff.mp ⟨c, hc, hlow, hhigh⟩, hband⟩
  · rintro ⟨r, hr, line, hline, hband⟩
    obtain ⟨c, hc, hlow, hhigh⟩ := exists_clipRange_iff.mpr hline
    exact ⟨c, ⟨r, hr, hc⟩, (meetsLines_iff (clipRange_ordered (hranges r hr) hc) hlines).mpr
      ⟨line, hlow, hhigh, hband⟩⟩

/-- The target that names a panel. -/
def targetOf : Panel → DamageTarget
  | .cluster => .cluster
  | .centre => .centre

/-- The checks of R30 in order, on a panel. -/
theorem serveDamage_targetOf (q : Port) (p : Panel) (count : Nat) (ranges : List LineRange) (s : State) :
    serveDamage q (some (targetOf p)) count (.all ranges) s =
      if q = .media ∧ p = .cluster then (s, refuse .notPermitted)
      else if inRange 1 8 count = false ∨ (Carried.all ranges).counts count = false then (s, refuse .badParam)
      else if ranges.any (fun r => decide (r.last < r.first)) = true then (s, refuse .badParam)
      else damagePanel p ranges s := by
  cases p with
  | cluster => simp [serveDamage, targetOf]
  | centre => simp [serveDamage, targetOf]

/-- Settles O18: the checks of R30 one after the other, then the bands that hold a line of a clipped range. -/
theorem panelDamageMarksBandsHit : Obligations.PanelDamageMarksBandsHit := by
  intro q tag p count ranges s htakes hs target x hit
  have htarget : target = targetOf p := by cases p <;> rfl
  rw [htarget]
  refine answersWith_of_servedBy htakes (serve := serveDamage q (some (targetOf p)) count (.all ranges)) ?_
  rw [serveDamage_targetOf]
  refine servedBy_ite (by decide) fun _ => ?_
  refine servedBy_ite_of_iff (by decide) (or_congr (eq_false_iff_not inRange_iff) counts_all_eq_false_iff) ?_
  by_cases hranges : ∃ r ∈ ranges, r.last < r.first
  · rw [if_pos (ranges_bad_iff.mpr hranges)]
    exact servedBy_refused (by decide) hranges
  rw [if_neg (mt ranges_bad_iff.mp hranges)]
  refine servedBy_passed hranges (servedBy_accept ?_)
  have hordered : ∀ r ∈ ranges, r.first ≤ r.last := fun r hr => Nat.not_lt.mp fun h => hranges ⟨r, hr, h⟩
  obtain ⟨hlength, hrecords, hcount⟩ := markWhere_marks x.bands (hit := hit)
    (test := hitByAny (ranges.filterMap (clipRange x.timing.nAct))) fun i b hb => by
      rw [hitByAny_iff hordered (hs.lines_pos (List.mem_of_getElem? hb))]
      constructor
      · rintro ⟨r, hr, line, ⟨hlow, hhigh, hline⟩, hband⟩
        exact ⟨b, line, hb, hband, r, hr, hlow, hhigh, hline⟩
      · rintro ⟨b', line, hb', hband, r, hr, hline⟩
        obtain rfl := Option.some.inj (hb.symm.trans hb')
        exact ⟨r, hr, line, hline, hband⟩
  refine ⟨_, _, rfl, hlength, hrecords, hcount fun i ⟨b, _, hb, _⟩ => ⟨b, hb⟩, ?_⟩
  rw [clippedAway_eq]

/-! ### DAMAGE on the canvas -/

/-- A line of the range that the window translates to a line of the band, which it lends. -/
theorem windowHits_iff {r : LineRange} {x : Placed} {w : Window} (hlines : 0 < x.band.lines) :
    windowHits r x w = true ↔ lends w x = true ∧ ∃ line, (r.first ≤ line ∧ line ≤ r.last) ∧ w.canvasBase ≤ line ∧
      line < canvasEnd w ∧ x.first ≤ toPanelLine w line ∧ toPanelLine w line < x.stop := by
  simp only [windowHits, Bool.and_eq_true, decide_eq_true_eq, and_assoc]
  refine and_congr_right fun hlends => ?_
  obtain ⟨-, hbase, hend⟩ := lends_iff.mp hlends
  have hmono : ∀ a b, w.canvasBase ≤ a → a ≤ b → toPanelLine w a ≤ toPanelLine w b := fun a b ha hab => by
    unfold toPanelLine; omega
  constructor
  · rintro ⟨hrange, hfirst, hmeets⟩
    obtain ⟨line, hlow, hhigh, hband⟩ := (meetsLines_iff (hmono _ _ (by omega) hrange) hlines).mp hmeets
    refine ⟨w.canvasBase + (line - w.panelBase), ?_⟩
    unfold toPanelLine at *
    omega
  · rintro ⟨line, hlow, hhigh, hcanvas, hstop, hband, hbandStop⟩
    refine ⟨by omega, by omega, (meetsLines_iff (hmono _ _ (by omega) (by omega)) hlines).mpr
      ⟨toPanelLine w line, hmono _ _ (by omega) (by omega), hmono _ _ (by omega) (by omega), hband, hbandStop⟩⟩

/-- Line `line` of the canvas reaches band `i` through the window (R120). -/
def BandTable.through (t : BandTable) (w : Window) (line i : Nat) : Prop :=
  ∃ b, t.records[i]? = some b ∧ b.cls = .normal ∧ w.panelBase ≤ t.firstLine i ∧ t.firstLine i + b.lines ≤ w.panelEnd ∧
    w.canvasBase ≤ line ∧ line < w.canvasBase + (w.panelEnd - w.panelBase) ∧
    t.holdsLine i b (w.panelBase + (line - w.canvasBase))

theorem BandTable.through_iff {t : BandTable} {w : Window} {line i : Nat} {b : Band} (hb : t.records[i]? = some b) :
    t.through w line i ↔ lends w (t.placedAt i b) = true ∧ w.canvasBase ≤ line ∧ line < canvasEnd w ∧
      (t.placedAt i b).first ≤ toPanelLine w line ∧ toPanelLine w line < (t.placedAt i b).stop := by
  rw [lends_iff]
  constructor
  · rintro ⟨b', hb', hcls, hbase, hend, hlow, hhigh, hband, hstop⟩
    obtain rfl := Option.some.inj (hb.symm.trans hb')
    exact ⟨⟨hcls, hbase, hend⟩, hlow, hhigh, hband, hstop⟩
  · rintro ⟨⟨hcls, hbase, hend⟩, hlow, hhigh, hband, hstop⟩
    exact ⟨b, hb, hcls, hbase, hend, hlow, hhigh, hband, hstop⟩

theorem canvasHits_iff {t : BandTable} {slots : List (Option Window)} {ranges : List LineRange} {count i : Nat} {b : Band}
    (hb : t.records[i]? = some b) (hlines : 0 < b.lines) :
    ((ranges.filterMap (clipRange count)).any fun r => canvasHits slots r (t.placedAt i b)) = true ↔
      ∃ r ∈ ranges, ∃ line, lineIn count r line ∧ ∃ w, some w ∈ slots ∧ t.through w line i := by
  simp only [List.any_eq_true, List.mem_filterMap, canvasHits, Option.any_eq_true, windowHits_iff (x := t.placedAt i b) hlines,
    BandTable.through_iff hb]
  constructor
  · rintro ⟨c, ⟨r, hr, hc⟩, _, hmem, w, rfl, hlends, line, hline, hreach⟩
    exact ⟨r, hr, line, exists_clipRange_iff.mp ⟨c, hc, hline⟩, w, hmem, hlends, hreach⟩
  · rintro ⟨r, hr, line, hline, w, hmem, hlends, hreach⟩
    obtain ⟨c, hc, hin⟩ := exists_clipRange_iff.mpr hline
    exact ⟨c, ⟨r, hr, hc⟩, some w, hmem, w, rfl, hlends, line, hin, hreach⟩

theorem mem_linesOf {r : LineRange} {line : Nat} : line ∈ linesOf r ↔ r.first ≤ line ∧ line ≤ r.last := by
  simp only [linesOf, List.mem_map, List.mem_range]
  refine ⟨fun ⟨k, hk, h⟩ => by omega, fun h => ⟨line - r.first, by omega, by omega⟩⟩

theorem reachesLent_iff {t : BandTable} {slots : List (Option Window)} {line : Nat} :
    reachesLent t slots line = true ↔ ∃ i w, some w ∈ slots ∧ t.through w line i := by
  simp only [reachesLent, List.any_eq_true, Option.any_eq_true, Bool.and_eq_true, inCanvas, decide_eq_true_eq, lentBands,
    List.mem_filter, BandTable.mem_placed]
  constructor
  · rintro ⟨_, hmem, w, rfl, ⟨hlow, hhigh⟩, x, ⟨⟨i, b, hb, rfl⟩, hlends⟩, hband⟩
    exact ⟨i, w, hmem, (BandTable.through_iff hb).mpr ⟨hlends, hlow, hhigh, hband⟩⟩
  · rintro ⟨i, w, hmem, hthrough⟩
    obtain ⟨b, hb, -⟩ := id hthrough
    obtain ⟨hlends, hlow, hhigh, hband⟩ := (BandTable.through_iff hb).mp hthrough
    exact ⟨some w, hmem, w, rfl, ⟨hlow, hhigh⟩, _, ⟨⟨i, b, hb, rfl⟩, hlends⟩, hband⟩

/-- A range has a line below the count that reaches no lent band. -/
theorem canvasMissed_iff {t : BandTable} {slots : List (Option Window)} {count : Nat} {r : LineRange} :
    ((clipRange count r).any (canvasMissed t slots)) = true ↔
      ∃ line, lineIn count r line ∧ ∀ i, ¬∃ w, some w ∈ slots ∧ t.through w line i := by
  simp only [Option.any_eq_true, canvasMissed, List.any_eq_true, mem_linesOf, Bool.not_eq_true', ← Bool.not_eq_true,
    reachesLent_iff, not_exists]
  constructor
  · rintro ⟨c, hc, line, hline, hmissed⟩
    exact ⟨line, exists_clipRange_iff.mp ⟨c, hc, hline⟩, hmissed⟩
  · rintro ⟨line, hline, hmissed⟩
    obtain ⟨c, hc, hin⟩ := exists_clipRange_iff.mpr hline
    exact ⟨c, hc, line, hin, hmissed⟩

/-- The clipped ranges that satisfy a property are counted among the ranges. -/
theorem filterMap_filter_length {α β : Type} (f : α → Option β) (P : β → Bool) (xs : List α) :
    ((xs.filterMap f).filter P).length = xs.countP fun x => (f x).any P := by
  induction xs with
  | nil => rfl
  | cons x xs ih =>
    rw [List.filterMap_cons, List.countP_cons]
    cases hf : f x with
    | none => simpa [hf] using ih
    | some y =>
      cases hP : P y <;> simp [hP, ih]

/-- Settles O19: the checks of R30 one after the other, then the bands the windows translate to and the ranges missed. -/
theorem canvasDamageGoesThroughWindows : Obligations.CanvasDamageGoesThroughWindows := by
  intro q tag count ranges s htakes hs table through reaches inRange' hit missed
  refine ⟨congrArg Host.Outcome.next (takeRequest_of_takes htakes tag 0x04 _), ?_⟩
  refine answersWith_of_servedBy htakes (serve := serveDamage q (some .canvas) count (.all ranges)) ?_
  rw [serveDamage, if_neg fun h => DamageTarget.noConfusion h.2]
  refine servedBy_ite_of_iff (by decide) (and_iff_left rfl) ?_
  refine servedBy_ite_of_iff (by decide) (or_congr (eq_false_iff_not inRange_iff) counts_all_eq_false_iff) ?_
  refine servedBy_ite_of_iff (by decide) ranges_bad_iff (servedBy_accept ?_)
  obtain ⟨hlength, hrecords, hmarked⟩ := markWhere_marks table (hit := hit)
    (test := fun x => (ranges.filterMap (clipRange Config.canvasLines)).any fun r => canvasHits s.windows.slots r x)
    fun i b hb => canvasHits_iff hb (hs.lines_pos (p := .cluster) (List.mem_of_getElem? hb))
  refine ⟨_, _, _, rfl, hlength, hrecords, hmarked ?_, ?_, ?_⟩
  · rintro i ⟨r, -, line, -, w, -, b, hb, -⟩
    exact ⟨b, hb⟩
  · rw [filterMap_filter_length]
    refine (countsBands_countP ranges _).congr fun k _ => exists_congr fun r => and_congr_right fun _ => ?_
    exact canvasMissed_iff
  · rw [clippedAway_eq]
    rfl

/-! ### LINE_WATCH -/

/-- A line lies in one band of a table. -/
theorem BandTable.holdsLine_unique {t : BandTable} {i j line : Nat} {b c : Band} (hb : t.records[i]? = some b)
    (hc : t.records[j]? = some c) (hi : t.holdsLine i b line) (hj : t.holdsLine j c line) : i = j := by
  have hmono : ∀ {i j : Nat} {b : Band}, t.records[i]? = some b → i < j → t.firstLine i + b.lines ≤ t.firstLine j := by
    intro i j b hb hij
    have hsub : (t.records.take (i + 1)).Sublist (t.records.take j) :=
      List.take_sublist_take_left hij
    have hsum := (hsub.map Band.lines).sum_le_sum fun _ _ => Nat.zero_le _
    rw [List.take_add_one, hb] at hsum
    simpa [BandTable.firstLine] using hsum
  rcases Nat.lt_trichotomy i j with h | h | h
  · have := hmono hb h
    have hlow := hj.1
    have hhigh := hi.2
    omega
  · exact h
  · have := hmono hc h
    have hlow := hi.1
    have hhigh := hj.2
    omega

/-- The line's band on the cluster is one that a window lends. -/
theorem bandOfLine_lent_iff {s : State} {line : Nat} :
    (s.bandOfLine .cluster line).any (fun b => s.owner .cluster b == .media) = true ↔
      ∃ i b, s.cluster.bands.records[i]? = some b ∧ s.cluster.bands.holdsLine i b line ∧ s.lendsBand i b := by
  have hholds : ∀ i b, (decide ((s.cluster.bands.placedAt i b).first ≤ line) &&
      decide (line < (s.cluster.bands.placedAt i b).stop)) = true ↔ s.cluster.bands.holdsLine i b line := fun i b => by
    rw [Bool.and_eq_true, decide_eq_true_eq, decide_eq_true_eq]; rfl
  have howner : ∀ i b, (s.owner .cluster (s.cluster.bands.placedAt i b) == .media) = true ↔ s.lendsBand i b := fun i b => by
    rw [beq_iff_eq]
    exact State.owner_eq_media_iff.trans (or_iff_right (by decide))
  rw [Option.any_eq_true]
  constructor
  · rintro ⟨x, hx, hmedia⟩
    have hline := List.find?_some hx
    obtain ⟨i, b, hb, rfl⟩ := (BandTable.mem_placed _).mp (List.mem_of_find?_eq_some hx)
    exact ⟨i, b, hb, (hholds i b).mp hline, (howner i b).mp hmedia⟩
  · rintro ⟨i, b, hb, hline, hlent⟩
    have hmem : s.cluster.bands.placedAt i b ∈ s.cluster.bands.placed := (BandTable.mem_placed _).mpr ⟨i, b, hb, rfl⟩
    cases hfound : s.bandOfLine .cluster line with
    | none => exact absurd ((hholds i b).mpr hline) (List.find?_eq_none.mp hfound _ hmem)
    | some x =>
      have hline' := List.find?_some hfound
      obtain ⟨j, c, hc, rfl⟩ := (BandTable.mem_placed _).mp (List.mem_of_find?_eq_some hfound)
      obtain rfl := BandTable.holdsLine_unique hb hc hline ((hholds j c).mp hline')
      obtain rfl := Option.some.inj (hb.symm.trans hc)
      exact ⟨_, rfl, (howner i b).mpr hlent⟩

theorem serveLineWatch_panelNumber (q : Port) (p : Panel) (position line : Nat) (mode : Option WatchMode) (s : State) :
    serveLineWatch q (panelNumber p) position line mode s =
      if 1 < position then (s, refuse .badParam)
      else if line = 0xFFFF then
        (s.updPanel p fun x => x.setWatches q ((x.watches q).put position none),
          accept (.watch (((s.panel p).watches q).get position)))
      else if mode = none ∨ (s.panel p).timing.nAct ≤ line then (s, refuse .badParam)
      else if q = .media ∧ p = .cluster
          ∧ (s.bandOfLine p line).any (fun b => s.owner p b == .media) = false then (s, refuse .notPermitted)
      else
        (s.updPanel p fun x =>
            x.setWatches q ((x.watches q).put position (some { line := line, mode := mode.getD .oneShot })),
          accept (.watch (((s.panel p).watches q).get position))) := by
  unfold serveLineWatch
  rw [panelOf_panelNumber]
  cases mode with
  | none => simp
  | some mode => simp

/-- Settles O28: the operands that name nothing, the emptied position, and the checks of R84 one after the other. -/
theorem lineWatchByTable : Obligations.LineWatchByTable := by
  intro q tag p position line mode s htakes x put pair before done run
  have hput : ∀ content, (s.updPanel p fun x => x.setWatches q ((x.watches q).put position content)) = done content := by
    intro content
    cases q <;> rfl
  have hbefore : ((s.panel p).watches q).get position = before := by cases q <;> rfl
  have hrun : run = .next (takeRequest q tag 0x07 (serveLineWatch q (panelNumber p) position line mode) s) := rfl
  refine ⟨fun panel hpanel => ?_, fun hposition => ?_, fun hposition hline => ?_, fun hposition hline => ?_⟩
  · refine congrArg Host.Outcome.next ((takeRequest_of_takes htakes tag 0x07 _).trans ?_)
    simp only [serveLineWatch, panelOf_of_gt hpanel]
  · rw [hrun, takeRequest_of_takes htakes, serveLineWatch_panelNumber, if_pos hposition]
  · rw [hrun, takeRequest_of_takes htakes, serveLineWatch_panelNumber, if_neg (Nat.not_lt.mpr hposition), if_pos hline, hput,
      hbefore]
  · rw [hrun]
    refine answersWith_of_servedBy htakes ?_
    rw [serveLineWatch_panelNumber, if_neg (Nat.not_lt.mpr hposition), if_neg hline, hput, hbefore]
    refine servedBy_ite (by decide) fun _ => servedBy_ite_of_iff (by decide) ?_ (servedBy_accept ⟨rfl, rfl⟩)
    refine and_congr_right fun _ => and_congr_right fun hp => ?_
    subst hp
    exact eq_false_iff_not bandOfLine_lent_iff

end Sys2Proof.Machine

/-!
PROOF. Grants that end: MEDIA_DISABLE (O9), WINDOW_CLOSE (O40), GRANT_EXPIRY (O43), and the entry into FAULT (O49).
-/

namespace Sys2Proof.Machine

open Sys2Proof

/-! ### What ending grants leaves of the bands -/

theorem markWhere_map_lines (hit : Placed → Bool) (bs : List Band) : (markWhere hit bs).map Band.lines = bs.map Band.lines := by
  have h := congrArg (List.map Band.lines) (markWhere_other hit bs)
  rw [List.map_map, List.map_map] at h
  exact h

theorem BandTable.firstLine_congr {t u : BandTable} (h : u.records.map Band.lines = t.records.map Band.lines) (i : Nat) :
    u.firstLine i = t.firstLine i := by
  rw [BandTable.firstLine, BandTable.firstLine, List.map_take, List.map_take, h]

/-- A window lends the same bands after grants have ended. -/
theorem State.lendsAt_endGrants (s : State) (gone : List Grant) (w : Window) (j : Nat) :
    (s.endGrants gone).cluster.bands.lendsAt w j ↔ s.cluster.bands.lendsAt w j := by
  have hfirst : (s.endGrants gone).cluster.bands.firstLine j = s.cluster.bands.firstLine j :=
    BandTable.firstLine_congr (markWhere_map_lines ..) j
  have hband : (s.endGrants gone).cluster.bands.records[j]? = s.cluster.bands.records[j]?.map fun b =>
      { b with dirty := b.dirty || gone.any fun g => g.covers .cluster j } :=
    getElem?_markIndices (fun i => gone.any fun g => g.covers .cluster i) s.cluster.bands.records j
  simp only [BandTable.lendsAt, hfirst, hband, Option.map_eq_some_iff, exists_exists_and_eq_and]

/-- A media grant on the cluster is one of a window exactly when it covers a band the window lends (R122). -/
theorem State.windowGrants_eq (s : State) (w : Window) :
    s.windowGrants w = s.grants.records.filter fun g =>
      decide (g.port = .media) && (s.cluster.bands.lentIndices w).any (g.covers .cluster) := by
  simp only [State.windowGrants, BandTable.lentIndices, List.any_map]
  rfl

theorem lentIndices_any_covers_iff {t : BandTable} {w : Window} {g : Grant} :
    (t.lentIndices w).any (g.covers .cluster) = true ↔
      g.panel = .cluster ∧ ∃ j, g.first ≤ j ∧ j ≤ g.last ∧ t.lendsAt w j := by
  simp only [List.any_eq_true, BandTable.mem_lentIndices, Grant.covers, Bool.and_eq_true, decide_eq_true_eq, and_assoc]
  constructor
  · rintro ⟨j, hlends, hpanel, hlow, hhigh⟩
    exact ⟨hpanel, j, hlow, hhigh, hlends⟩
  · rintro ⟨hpanel, j, hlow, hhigh, hlends⟩
    exact ⟨j, hlends, hpanel, hlow, hhigh⟩

/-! ### MEDIA_DISABLE -/

/-- No notice of a media grant reaches the supervisor port. -/
theorem toldTo_supervisor_of_media {told : List (Port × Notice)} (h : ∀ y ∈ told, y.1 = .media) :
    toldTo .supervisor told = [] := by
  rw [toldTo, List.filter_eq_nil_iff.mpr fun y hy => by rw [h y hy]; decide, List.map_nil]

theorem postAll_of_disabled {told : List (Port × Notice)} {s : State} (h : ∀ y ∈ told, y.1 = .media)
    (hdisabled : s.mediaEnabled = false) : postAll told s = s := by
  rw [postAll_eq, toldTo_supervisor_of_media h, hdisabled]
  have hsame : s = { s with mediaEnabled := false } := by rw [← hdisabled]
  exact hsame.symm

/-- A MEDIA_DISABLE ends every media grant without a notice and empties the port's queue and watches. -/
theorem disableMedia_eq (s : State) :
    disableMedia s = ((({ s with mediaEnabled := false, media := { s.media with queue := [] } } : State).endGrants
      (s.grantsOf .media)).updPanel .cluster dropMediaWatches).updPanel .centre dropMediaWatches := by
  have hgone : ({ s with mediaEnabled := false, media := { s.media with queue := [] } } : State).grantsOf .media =
      s.grantsOf .media := rfl
  have hmedia : ∀ y ∈ ({ s with mediaEnabled := false, media := { s.media with queue := [] } } : State).revocations
      .portDisable (s.grantsOf .media), y.1 = .media := by
    intro y hy
    obtain ⟨g, hg, rfl⟩ := List.mem_map.mp hy
    exact of_decide_eq_true (List.mem_filter.mp hg).2
  simp only [disableMedia]
  rw [hgone, revokeAll_eq, postAll_of_disabled hmedia rfl]

theorem mem_grantsOf {s : State} {q : Port} {g : Grant} : g ∈ s.grantsOf q ↔ g ∈ s.grants.records ∧ g.port = q := by
  rw [State.grantsOf, List.mem_filter, decide_eq_true_eq]

/-- Settles O9: the media grants end, and the port is emptied. -/
theorem mediaDisableRevokesEverything : Obligations.MediaDisableRevokesEverything := by
  intro tag s htakes henabled
  have hgrants : (disableMedia s).grants.records =
      s.grants.records.filter fun x => (s.grantsOf .media).all fun g => x.id != g.id := by
    rw [disableMedia_eq]; rfl
  have hmem : ∀ g, g ∈ (disableMedia s).grants.records ↔
      g ∈ s.grants.records ∧ ∀ g' ∈ s.grantsOf .media, g.id ≠ g'.id := fun g => by
    rw [hgrants, List.mem_filter, List.all_eq_true]
    simp only [bne_iff_ne]
  refine ⟨disableMedia s, ?_, ?_, ?_, ?_, ?_, fun g hg => ?_, fun hids g hg hport => ?_, fun p i b hb => ?_, ?_⟩
  · have hserve : serveMediaDisable .supervisor s = (disableMedia s, accept (.mediaPort true)) := by
      rw [serveMediaDisable, if_neg (by decide), henabled]; rfl
    rw [exec_takes (r := .mediaDisable) htakes rfl]
    exact congrArg (fun x : State × Answer => Host.Outcome.next (placeReply .supervisor tag 0x1D x.2 x.1)) hserve
  · rw [disableMedia_eq]; rfl
  · rw [disableMedia_eq]; rfl
  · rw [disableMedia_eq]; rfl
  · rw [disableMedia_eq]; rfl
  · obtain ⟨hin, hapart⟩ := (hmem g).mp hg
    refine ⟨hin, ?_⟩
    cases hport : g.port with
    | supervisor => rfl
    | media => exact absurd rfl (hapart g (mem_grantsOf.mpr ⟨hin, hport⟩))
  · refine (hmem g).mpr ⟨hg, fun g' hg' heq => ?_⟩
    obtain ⟨hin, hmedia⟩ := mem_grantsOf.mp hg'
    have hsame : g = g' :=
      (List.inj_on_of_nodup_map (f := Grant.id) (by rw [List.Nodup, List.pairwise_map]; exact hids)) hg hin heq
    rw [← hsame, hport] at hmedia
    cases hmedia
  · have hrecords : ((disableMedia s).panel p).bands.records =
        markWhere (fun x => (s.grantsOf .media).any fun g => g.covers p x.index) (s.panel p).bands.records := by
      rw [disableMedia_eq]; cases p <;> rfl
    rw [hrecords, getElem?_markIndices (fun i => (s.grantsOf .media).any fun g => g.covers p i), hb]
    rfl
  · rw [disableMedia_eq]; rfl

/-! ### Closing a window -/

theorem PostsThrough.windows (slots : List (Option Window)) :
    PostsThrough fun s => { s with windows := { s.windows with slots := slots } } :=
  ⟨fun _ => rfl, fun _ => rfl, fun _ => rfl, fun _ _ _ => rfl⟩

/-- What a close of window `i` tells, when these grants are revoked. -/
def State.closeTold (s : State) (i : Nat) (w : Window) (reason : CloseReason) (gone : List Grant) (lent : Nat) :
    List (Port × Notice) :=
  s.revocations (closeRevokeReason reason) gone ++
    [(.media, s.noticeOf .cluster (.windowClosed i reason w.canvasBase w.panelBase w.panelEnd lent gone.length))]

theorem closeWindow_eq (i : Nat) (w : Window) (reason : CloseReason) (s : State) :
    closeWindow i w reason s =
      postAll (s.closeTold i w reason (s.windowGrants w) (lentBands s.cluster.bands w).length)
        { s.endGrants (s.windowGrants w) with windows := { s.windows with slots := s.windows.slots.set i none } } := by
  have hclose : closeWindow i w reason s = postAll
      [(.media, s.noticeOf .cluster (.windowClosed i reason w.canvasBase w.panelBase w.panelEnd
        (lentBands s.cluster.bands w).length (s.windowGrants w).length))]
      { revokeAll (closeRevokeReason reason) (s.windowGrants w) s with
        windows := { (revokeAll (closeRevokeReason reason) (s.windowGrants w) s).windows with
          slots := (revokeAll (closeRevokeReason reason) (s.windowGrants w) s).windows.slots.set i none } } := rfl
  have hslots : ∀ told, (postAll told (s.endGrants (s.windowGrants w))).windows.slots = s.windows.slots := fun told => by
    rw [postAll_windows]; rfl
  rw [hclose, revokeAll_eq, hslots, State.closeTold, postAll_append]
  exact congrArg (postAll _) ((PostsThrough.windows (s.windows.slots.set i none)).postAll _ _)

/-- Settles O40: the checks of R122 one after the other, then the close. -/
theorem windowCloseByTable : Obligations.WindowCloseByTable := by
  intro q tag i s htakes hlegal
  refine answersWith_of_servedBy htakes (serve := serveWindowClose q i) ?_
  obtain ⟨-, -, hids, -⟩ := hlegal
  refine servedBy_ite (by decide) fun _ => servedBy_ite (by decide) fun _ => ?_
  rw [List.getD_eq_getElem?_getD]
  by_cases hopen : ∃ v, s.windows.slots[i]? = some (some v)
  · obtain ⟨w, hw⟩ := hopen
    rw [hw]
    refine servedBy_passed (not_not_intro ⟨w, rfl⟩) (servedBy_accept
      ⟨w, s.windowGrants w, (lentBands s.cluster.bands w).length, s.endGrants (s.windowGrants w), rfl,
        ⟨?_, BandTable.countsBands_lentBands⟩, State.endsGrants_endGrants hids fun g hg => ?_, rfl, closeWindow_eq ..⟩)
    · rw [State.windowGrants_eq]
      refine s.selects_filter fun g _ => ?_
      rw [Bool.and_eq_true, decide_eq_true_eq, lentIndices_any_covers_iff]
      exact Iff.rfl
    · rw [State.windowGrants_eq] at hg
      exact (List.mem_filter.mp hg).1
  · have hnone : s.windows.slots[i]?.getD none = none := by
      rcases h : s.windows.slots[i]? with - | - | w
      · rfl
      · rfl
      · exact absurd ⟨w, h⟩ hopen
    rw [hnone]
    exact servedBy_refused (by decide) hopen

/-! ### GRANT_EXPIRY -/

theorem State.frameEndDue_iff {s : State} {p : Panel} {start : Tick} {length : Nat}
    (hstart : (s.panel p).frame.start = some start) (hlength : (s.panel p).frame.length = some length) :
    s.frameEndDue p = true ↔ (s.panel p).power.state = .scanning ∧ s.count = start.after length := by
  have htick : (s.panel p).frameTick length = some (start.after length) := by rw [PanelState.frameTick, hstart]; rfl
  simp only [State.frameEndDue, hlength, htick, Bool.and_eq_true, beq_iff_eq, Option.some.injEq]
  exact and_congr_right fun _ => eq_comm

/-- A grant expires: it ends, and its port is told. -/
theorem expireGrant_eq (s : State) (g : Grant) :
    expireGrant s g = post g.port (s.noticeOf g.panel (.grantExpired g.id g.state g.held (g.last + 1 - g.first)))
      (s.endGrants [g]) := by
  rw [expireGrant, endGrant_eq]; rfl

/-- Only the grant itself has its id. -/
theorem eq_of_id_eq {gs : List Grant} (hids : gs.Pairwise idsApart) {g h : Grant} (hg : g ∈ gs) (hh : h ∈ gs)
    (heq : g.id = h.id) : g = h :=
  (List.inj_on_of_nodup_map (f := Grant.id) (by rw [List.Nodup, List.pairwise_map]; exact hids)) hg hh heq

/-- Settles O43: the grant that reaches its limit is found by its id, and ends. -/
theorem grantExpiryEndsGrant : Obligations.GrantExpiryEndsGrant := by
  intro s g start length hreset hlegal x hg hlimit hscan hstart hlength hnow
  obtain ⟨-, -, hids, -⟩ := hlegal
  have hdue : s.frameEndDue g.panel = true := (State.frameEndDue_iff hstart hlength).mpr ⟨hscan, hnow⟩
  have hfound : s.expiryDue g.id = some g := by
    cases h : s.expiryDue g.id with
    | none =>
      have := List.find?_eq_none.mp h g hg
      simp [hlimit, hdue] at this
    | some g' =>
      have hid := List.find?_some h
      simp only [Bool.and_eq_true, beq_iff_eq, and_assoc] at hid
      rw [eq_of_id_eq hids (List.mem_of_find?_eq_some h) hg hid.1]
  refine ⟨s.endGrants [g], State.endsGrants_endGrants hids fun g' hg' => List.mem_singleton.mp hg' ▸ hg, ?_⟩
  have hrun : exec (.grantExpiry g.id) s = .next (expireGrant s g.hold) := by
    show Host.Outcome.next (unlessReset s _) = _
    rw [unlessReset_run hreset, hfound]
  rw [hrun, expireGrant_eq]
  rfl

end Sys2Proof.Machine

/-!
PROOF. Supervision (O49): SUPERVISE_START and KEEPALIVE by their checks, and the entry into FAULT, which closes the windows one
after the other.
-/

namespace Sys2Proof.Machine

open Sys2Proof

/-! ### Closing the windows in order of index -/

/-- Grants have ended since `s`, and the window slots are these. -/
def State.closedTo (s : State) (slots : List (Option Window)) (gone : List Grant) : State :=
  { s.endGrants gone with windows := { s.windows with slots := slots } }

/-- One more window is closed, with more grants ended. -/
theorem State.closedTo_closedTo (s : State) (slots slots' : List (Option Window)) (gone more : List Grant) :
    { (s.closedTo slots gone).endGrants more with
        windows := { (s.closedTo slots gone).windows with slots := slots' } } = s.closedTo slots' (gone ++ more) := by
  have h := congrArg (fun u : State => ({ u with windows := { s.windows with slots := slots' } } : State))
    (State.endGrants_append s gone more)
  exact h

theorem PostsThrough.closeWith (more : List Grant) (slots : List (Option Window)) :
    PostsThrough fun s => { s.endGrants more with windows := { s.windows with slots := slots } } :=
  ⟨fun _ => rfl, fun _ => rfl, fun _ => rfl, fun _ _ _ => rfl⟩

/-- The media grants of a window that are left once these grants have ended (R122). -/
theorem State.windowGrants_closedTo {s : State} (hids : s.grants.records.Pairwise idsApart) {gone : List Grant}
    (hgone : ∀ g ∈ gone, g ∈ s.grants.records) (slots : List (Option Window)) (w : Window) :
    s.selects (fun g => g.port = .media ∧ g.panel = .cluster ∧ g ∉ gone ∧
      ∃ j, g.first ≤ j ∧ j ≤ g.last ∧ s.cluster.bands.lendsAt w j) ((s.closedTo slots gone).windowGrants w) := by
  have hrecords : (s.closedTo slots gone).grants.records = s.grants.records.filter fun g => decide (g ∉ gone) :=
    congrArg GrantList.records (State.endsGrants_endGrants hids hgone).1
  rw [State.windowGrants_eq, hrecords, List.filter_filter]
  refine s.selects_filter fun g _ => ?_
  have hlends : ∀ j, (s.closedTo slots gone).cluster.bands.lendsAt w j ↔ s.cluster.bands.lendsAt w j :=
    s.lendsAt_endGrants gone w
  rw [Bool.and_eq_true, Bool.and_eq_true, decide_eq_true_eq, decide_eq_true_eq, lentIndices_any_covers_iff]
  simp only [hlends]
  tauto

/-- A window lends as many bands once grants have ended. -/
theorem State.countsBands_closedTo (s : State) (slots : List (Option Window)) (gone : List Grant) (w : Window) :
    CountsBands s.cluster.bands.records.length (s.cluster.bands.lendsAt w)
      (lentBands (s.closedTo slots gone).cluster.bands w).length := by
  have h := BandTable.countsBands_lentBands (t := (s.closedTo slots gone).cluster.bands) (w := w)
  have hlength : (s.closedTo slots gone).cluster.bands.records.length = s.cluster.bands.records.length :=
    markWhere_length ..
  rw [hlength] at h
  exact h.congr fun j _ => s.lendsAt_endGrants gone w j

/-- What a close tells is the same once grants have ended. -/
theorem State.closeTold_closedTo (s : State) (slots : List (Option Window)) (gone : List Grant) (i : Nat) (w : Window)
    (reason : CloseReason) (more : List Grant) (lent : Nat) :
    (s.closedTo slots gone).closeTold i w reason more lent = s.closeTold i w reason more lent := by
  have hnotice : ∀ p b, (s.closedTo slots gone).noticeOf p b = s.noticeOf p b := fun p b => by
    cases p <;> rfl
  simp only [State.closeTold, State.revocations, hnotice]

/-- The panel notices of a state are unchanged by posting. -/
theorem State.closeTold_postAll (told : List (Port × Notice)) (s : State) (i : Nat) (w : Window) (reason : CloseReason)
    (more : List Grant) (lent : Nat) :
    (postAll told s).closeTold i w reason more lent = s.closeTold i w reason more lent := by
  have hnotice : ∀ p b, (postAll told s).noticeOf p b = s.noticeOf p b := fun p b => noticeOf_congr (by rw [postAll_panel]) b
  simp only [State.closeTold, State.revocations, hnotice]

/-- Closing a window after notices have been posted. -/
theorem closeWindow_postAll (i : Nat) (w : Window) (reason : CloseReason) (told : List (Port × Notice)) (s : State) :
    closeWindow i w reason (postAll told s) =
      postAll (told ++ s.closeTold i w reason (s.windowGrants w) (lentBands s.cluster.bands w).length)
        { s.endGrants (s.windowGrants w) with windows := { s.windows with slots := s.windows.slots.set i none } } := by
  have hgrants : (postAll told s).windowGrants w = s.windowGrants w := by
    rw [State.windowGrants, postAll_grants, postAll_cluster]; rfl
  rw [closeWindow_eq, hgrants, postAll_cluster, State.closeTold_postAll, postAll_append, postAll_windows]
  refine congrArg (postAll _) ?_
  rw [← (PostsThrough.closeWith (s.windowGrants w) (s.windows.slots.set i none)).postAll told s, postAll_windows]

theorem set_append_cons {α : Type} (done rest : List α) (x y : α) :
    (done ++ x :: rest).set done.length y = done ++ y :: rest := by
  rw [List.set_append_right _ _ (Nat.le_refl _), Nat.sub_self, List.set_cons_zero]

theorem getElem?_append_cons {α : Type} (done rest : List α) (x : α) : (done ++ x :: rest)[done.length]? = some x := by
  rw [List.getElem?_append_right (Nat.le_refl _), Nat.sub_self, List.getElem?_cons_zero]

/-- Grants selected from a list without repetition stand once, apart from those selected before. -/
theorem nodup_append_selected {before more : List Grant} (hbefore : before.Nodup) (hmore : more.Nodup)
    (hapart : ∀ g ∈ more, g ∉ before) : (before ++ more).Nodup :=
  List.nodup_append.mpr ⟨hbefore, hmore, fun _ hg g' hg' heq => hapart g' hg' (heq ▸ hg)⟩

/-- The OPEN windows from an index on are closed in order, as the recursion over the slots says. -/
theorem closesFrom_foldl {s : State} (hids : s.grants.records.Pairwise idsApart) (rest : List (Option Window)) :
    ∀ (done : List (Option Window)) (before : List Grant) (told : List (Port × Notice)),
      (∀ g ∈ before, g ∈ s.grants.records) → before.Nodup →
      ∃ gone later, s.closesFrom done.length rest before gone later ∧ (∀ g ∈ gone, g ∈ s.grants.records) ∧ gone.Nodup ∧
        (List.range' done.length rest.length).foldl (closeIfOpen .fault) (postAll told (s.closedTo (done ++ rest) before)) =
          postAll (told ++ later) (s.closedTo (done ++ rest.map fun _ => none) gone) := by
  induction rest with
  | nil =>
    intro done before told hbefore hnodup
    exact ⟨before, [], ⟨rfl, rfl⟩, hbefore, hnodup, by rw [List.append_nil told]; rfl⟩
  | cons o rest ih =>
    intro done before told hbefore hnodup
    have hslots : (postAll told (s.closedTo (done ++ o :: rest) before)).windows.slots = done ++ o :: rest := by
      rw [postAll_windows]; rfl
    have hnext : ∀ (x : Option Window) (xs : List (Option Window)), done ++ x :: xs = (done ++ [x]) ++ xs := fun x xs => by
      rw [List.append_assoc]; rfl
    rw [List.length_cons, List.range'_succ, List.foldl_cons]
    cases o with
    | none =>
      have hstay : closeIfOpen .fault (postAll told (s.closedTo (done ++ none :: rest) before)) done.length =
          postAll told (s.closedTo (done ++ none :: rest) before) := by
        rw [closeIfOpen, hslots, getElem?_append_cons]
      obtain ⟨gone, later, hcloses, hmem, hgone, hrun⟩ := ih (done ++ [none]) before told hbefore hnodup
      rw [List.length_append, List.length_singleton, ← hnext none rest, ← hnext none (rest.map fun _ => none)] at hrun
      rw [List.length_append, List.length_singleton] at hcloses
      exact ⟨gone, later, hcloses, hmem, hgone, by rw [hstay, hrun]; rfl⟩
    | some w =>
      let u := s.closedTo (done ++ some w :: rest) before
      have hselects := State.windowGrants_closedTo hids hbefore (done ++ some w :: rest) w
      have hclose : closeIfOpen .fault (postAll told u) done.length =
          postAll (told ++ s.closeTold done.length w .fault (u.windowGrants w) (lentBands u.cluster.bands w).length)
            (s.closedTo (done ++ none :: rest) (before ++ u.windowGrants w)) := by
        rw [closeIfOpen, hslots, getElem?_append_cons]
        show closeWindow done.length w .fault (postAll told u) = _
        have hset : u.windows.slots.set done.length none = done ++ none :: rest := set_append_cons done rest (some w) none
        rw [closeWindow_postAll, hset, State.closeTold_closedTo, State.closedTo_closedTo]
      have hmem : ∀ g ∈ before ++ u.windowGrants w, g ∈ s.grants.records := fun g hg =>
        (List.mem_append.mp hg).elim (hbefore g) fun h => ((hselects.2 g).mp h).1
      have hrecords : s.grants.records.Nodup := hids.imp fun {g h} hne heq => hne (congrArg Grant.id heq)
      have hnodup' : (before ++ u.windowGrants w).Nodup :=
        nodup_append_selected hnodup (hrecords.sublist hselects.1) fun g hg => ((hselects.2 g).mp hg).2.2.2.1
      obtain ⟨gone, later, hcloses, hgoneMem, hgone, hrun⟩ := ih (done ++ [none]) (before ++ u.windowGrants w)
        (told ++ s.closeTold done.length w .fault (u.windowGrants w) (lentBands u.cluster.bands w).length) hmem hnodup'
      rw [List.length_append, List.length_singleton, ← hnext none rest, ← hnext none (rest.map fun _ => none)] at hrun
      rw [List.length_append, List.length_singleton] at hcloses
      refine ⟨gone, s.closeTold done.length w .fault (u.windowGrants w) (lentBands u.cluster.bands w).length ++ later,
        ⟨u.windowGrants w, (lentBands u.cluster.bands w).length, later, hselects, s.countsBands_closedTo .., ?_, hcloses⟩,
        hgoneMem, hgone, ?_⟩
      · rw [State.closeTold, List.append_assoc]; rfl
      · rw [hclose, hrun, List.append_assoc]; rfl

/-! ### The entry into FAULT -/

theorem State.closedTo_self (s : State) : s.closedTo s.windows.slots [] = s := by
  rw [State.closedTo, State.endGrants_nil]

/-- Every window is closed, and the notices are those of each close in order. -/
theorem closeAllWindows_eq {s : State} (hids : s.grants.records.Pairwise idsApart) (hslots : s.windows.slots.length = 4) :
    ∃ gone told, s.closesFrom 0 s.windows.slots [] gone told ∧ (∀ g ∈ gone, g ∈ s.grants.records) ∧ gone.Nodup ∧
      closeAllWindows .fault s = postAll told (s.closedTo [none, none, none, none] gone) := by
  obtain ⟨gone, told, hcloses, hmem, hnodup, hrun⟩ :=
    closesFrom_foldl hids s.windows.slots [] [] [] (fun g hg => nomatch hg) .nil
  rw [List.nil_append, List.nil_append, List.nil_append, State.closedTo_self, postAll_nil, hslots] at hrun
  have hnone : (s.windows.slots.map fun _ => (none : Option Window)) = [none, none, none, none] := by
    rw [List.map_const', hslots]; rfl
  rw [hnone] at hrun
  exact ⟨gone, told, hcloses, hmem, hnodup, hrun⟩

/-- The closes look at no monitor and no cause. -/
theorem closesFrom_monitor (s : State) (m : Monitor) (f : Causes) (rest : List (Option Window)) :
    ∀ (i : Nat) (before gone : List Grant) (told : List (Port × Notice)),
      ({ s with monitor := m, faults := f } : State).closesFrom i rest before gone told ↔
        s.closesFrom i rest before gone told := by
  induction rest with
  | nil => intro i before gone told; rfl
  | cons o rest ih =>
    intro i before gone told
    cases o with
    | none => exact ih (i + 1) before gone told
    | some w =>
      have hnotice : ∀ p b, ({ s with monitor := m, faults := f } : State).noticeOf p b = s.noticeOf p b := fun p b => by
        cases p <;> rfl
      simp only [State.closesFrom, ih, State.revocations, hnotice]
      rfl

/-- As many grants have left as were revoked. -/
theorem gone_length {s : State} (hids : s.grants.records.Pairwise idsApart) {gone : List Grant}
    (hmem : ∀ g ∈ gone, g ∈ s.grants.records) (hnodup : gone.Nodup) :
    s.grants.records.length - (s.endGrants gone).grants.records.length = gone.length := by
  have hrecords : s.grants.records.Nodup := hids.imp fun {g h} hne heq => hne (congrArg Grant.id heq)
  rw [(State.endsGrants_endGrants hids hmem).1]
  have hsplit := List.length_eq_length_filter_add (fun g => decide (g ∈ gone)) (l := s.grants.records)
  have hin : (s.grants.records.filter fun g => decide (g ∈ gone)).length = gone.length := by
    refine (List.Perm.length_eq ?_)
    refine (List.perm_ext_iff_of_nodup (hrecords.filter _) hnodup).mpr fun g => ?_
    rw [List.mem_filter, decide_eq_true_eq]
    exact ⟨And.right, fun h => ⟨hmem g h, h⟩⟩
  have hout : (s.grants.records.filter fun g => decide (g ∉ gone)) =
      s.grants.records.filter fun g => !decide (g ∈ gone) :=
    congrArg (fun f => s.grants.records.filter f) (funext fun g => decide_not)
  simp only [hout]
  omega

theorem enterFault_failsOver {s : State} (hids : s.grants.records.Pairwise idsApart) (hslots : s.windows.slots.length = 4)
    (reason : FaultReason) (elapsed : Nat) : s.failsOver (enterFault reason elapsed s) reason elapsed := by
  let s2 : State := { s with monitor := s.monitor.fail reason, faults := { s.faults with supervision := true } }
  obtain ⟨gone, told, hcloses, hmem, hnodup, hclose⟩ := closeAllWindows_eq (s := s2) hids hslots
  have hlength : s.grants.records.length - (closeAllWindows .fault s2).grants.records.length = gone.length := by
    rw [hclose, postAll_grants]
    exact gone_length hids hmem hnodup
  refine ⟨gone, s.endGrants gone, told, s.openWindows, (closesFrom_monitor s _ _ _ _ _ _ _).mp hcloses,
    State.endsGrants_endGrants hids hmem, ?_, ?_⟩
  · have hcount := countsBands_countP s.windows.slots Option.isSome
    rw [hslots, List.countP_eq_length_filter] at hcount
    refine hcount.congr fun i _ => ?_
    constructor
    · rintro ⟨o, ho, hsome⟩
      obtain ⟨w, rfl⟩ := Option.isSome_iff_exists.mp hsome
      exact ⟨w, ho⟩
    · rintro ⟨w, hw⟩
      exact ⟨some w, hw, rfl⟩
  · intro n
    have hrun : enterFault reason elapsed s =
        if s.faults.supervision = true then closeAllWindows .fault s2
        else postBoth (deviceNotice (.supervisionFault reason elapsed s.openWindows
          (s.grants.records.length - (closeAllWindows .fault s2).grants.records.length) s.cluster.frame.number))
          (closeAllWindows .fault s2) := rfl
    rw [hrun, hlength, hclose]
    split
    · rw [List.append_nil]; rfl
    · rw [postBoth_eq_postAll, ← postAll_append]; rfl

/-! ### SUPERVISE_START and KEEPALIVE -/

theorem fractionInRange_iff {f : Nat} :
    fractionInRange f = true ↔ f = 0 ∨ f = 25 ∨ f = 50 ∨ f = 75 ∨ f = 100 := by
  simp [fractionInRange, or_assoc]

/-- Settles O49: the checks of R153, the monitor's states of R154, and the entry of R156. -/
theorem supervisionStartsAndFails : Obligations.SupervisionStartsAndFails := by
  intro q tag s m openStart elapsed
  refine ⟨fun htakes period fraction => ?_, fun htakes => ?_, fun hreset hlegal hfallback hrunning hover => ?_⟩
  · refine answersWith_of_servedBy htakes (serve := serveSuperviseStart q period fraction) ?_
    refine servedBy_ite (by decide) fun _ => ?_
    refine servedBy_ite_of_iff (by decide)
      (or_congr inRange_iff (or_congr Iff.rfl (eq_false_iff_not fractionInRange_iff))) ?_
    refine servedBy_ite_of_iff (by decide) ?_ (servedBy_accept ⟨rfl, rfl⟩)
    show s.monitor.state ≠ .off ↔ s.monitor.state = .running ∨ s.monitor.state = .fault
    cases s.monitor.state <;> decide
  · have hrun : ∀ a, serveKeepalive q s = a → exec (.keepalive q tag) s = .next (placeReply q tag 0x19 a.2 a.1) :=
      fun a ha => ha ▸ exec_takes (r := .keepalive) htakes rfl
    refine ⟨?_, ?_, ?_, ?_, ?_⟩
    · rintro rfl
      exact hrun (s, refuse .notPermitted) rfl
    · rintro rfl hoff
      refine hrun (s, refuse .wrongState) ?_
      rw [serveKeepalive, if_neg (by decide), hoff]
    · rintro rfl hfault
      refine hrun (s, refuse .faulted) ?_
      rw [serveKeepalive, if_neg (by decide), hfault]
    · rintro rfl hrunning hlate
      refine (hrun ({ s with monitor := s.monitor.begin s.count }, accept (.keepalive elapsed)) ?_).trans ?_
      · rw [serveKeepalive, if_neg (by decide), hrunning]
        exact if_pos hlate
      · rw [Monitor.begin, ← hrunning]
    · rintro rfl hrunning hearly ⟨-, -, hids, -⟩ hfallback
      refine ⟨enterFault .early elapsed s, enterFault_failsOver hids hfallback.1 .early elapsed,
        hrun (_, { outcome := .tooEarly, results := .tooEarly elapsed openStart }) ?_⟩
      rw [serveKeepalive, if_neg (by decide), hrunning]
      exact if_neg (Nat.not_le.mpr hearly)
  · obtain ⟨-, -, hids, -⟩ := hlegal
    refine ⟨_, enterFault_failsOver hids hfallback.1 .missed (m.period * 20000), ?_⟩
    show Host.Outcome.next (unlessReset s _) = _
    have hdue : s.periodDue = true := by
      rw [State.periodDue, Bool.and_eq_true, beq_iff_eq, decide_eq_true_eq]
      exact ⟨hrunning, hover⟩
    rw [unlessReset_run hreset, if_pos hdue]
    rfl

end Sys2Proof.Machine

/-!
PROOF. Write grants: WRITE_OPEN (O41) with the next id, and WRITE_CLOSE (O42) with the checks its CRC list gives.
-/

namespace Sys2Proof.Machine

open Sys2Proof

/-! ### The next id -/

/-- The ids tried run from the next id on around the 255 of them, past every id held. -/
theorem freeId_walk (held : List Nat) (n m : Nat) :
    ∃ k, freeId held n (m % 255 + 1) = (m + k) % 255 + 1 ∧ ∀ j, j < k → (m + j) % 255 + 1 ∈ held := by
  induction n generalizing m with
  | zero => exact ⟨0, rfl, fun j hj => absurd hj (Nat.not_lt_zero j)⟩
  | succ n ih =>
    rw [freeId]
    split
    · rename_i hheld
      have hafter : idAfter (m % 255 + 1) = (m + 1) % 255 + 1 := by unfold idAfter; split <;> omega
      obtain ⟨k, hk, hwalk⟩ := ih (m + 1)
      refine ⟨k + 1, ?_, fun j hj => ?_⟩
      · rw [hafter, hk, Nat.add_assoc, Nat.add_comm 1 k]
      · cases j with
        | zero => exact List.contains_iff_mem.mp hheld
        | succ j =>
          have := hwalk j (Nat.lt_of_succ_lt_succ hj)
          rwa [Nat.add_assoc, Nat.add_comm 1 j] at this
    · exact ⟨0, rfl, fun j hj => absurd hj (Nat.not_lt_zero j)⟩

/-- The next id after a grant joins: the first one free. -/
theorem GrantList.append_nextId {l : GrantList} {g : Grant} (hnext : 1 ≤ l.nextId ∧ l.nextId ≤ 255)
    (hroom : l.records.length < 8) :
    ∃ k, (l.append g).nextId = (l.nextId + k) % 255 + 1 ∧
      (¬∃ y ∈ l.records ++ [g], y.id = (l.append g).nextId) ∧
      ∀ j, j < k → ∃ y ∈ l.records ++ [g], y.id = (l.nextId + j) % 255 + 1 := by
  have hafter : idAfter l.nextId = l.nextId % 255 + 1 := by unfold idAfter; split <;> omega
  have hfree : (l.append g).nextId ∉ (l.records ++ [g]).map Grant.id :=
    freeId_not_mem (by rw [List.length_map, List.length_append, List.length_singleton]; omega) idAfter_range
  obtain ⟨k, hk, hwalk⟩ := freeId_walk ((l.records ++ [g]).map Grant.id) 9 l.nextId
  refine ⟨k, ?_, fun ⟨y, hy, hid⟩ => hfree (List.mem_map.mpr ⟨y, hy, hid⟩), fun j hj => List.mem_map.mp (hwalk j hj)⟩
  rw [← hk, ← hafter]
  rfl

/-! ### The checks of R129 -/

theorem mem_bandsIn {s : State} {p : Panel} {first last : Nat} {x : Placed} :
    x ∈ s.bandsIn p first last ↔ ∃ i b, (s.panel p).bands.records[i]? = some b ∧ first ≤ i ∧ i ≤ last ∧
      (s.panel p).bands.placedAt i b = x := by
  simp only [State.bandsIn, List.mem_filter, BandTable.mem_placed, inIndexRange, Bool.and_eq_true, decide_eq_true_eq]
  constructor
  · rintro ⟨⟨i, b, hb, rfl⟩, hlow, hhigh⟩
    exact ⟨i, b, hb, hlow, hhigh, rfl⟩
  · rintro ⟨i, b, hb, hlow, hhigh, rfl⟩
    exact ⟨⟨i, b, hb, rfl⟩, hlow, hhigh⟩

/-- A band of the range belongs to the other owner. -/
theorem bandsIn_owner_iff {s : State} {q : Port} {p : Panel} {first last : Nat} :
    (s.bandsIn p first last).all (fun b => s.owner p b == ownerOfPort q) = false ↔
      ∃ i b, first ≤ i ∧ i ≤ last ∧ (s.panel p).bands.records[i]? = some b ∧ ¬(s.mediaBand p i b ↔ q = .media) := by
  have howner : ∀ i b, s.owner p ((s.panel p).bands.placedAt i b) = ownerOfPort q ↔ (s.mediaBand p i b ↔ q = .media) := by
    intro i b
    rw [← State.owner_eq_media_iff]
    cases q <;> cases s.owner p ((s.panel p).bands.placedAt i b) <;> simp [ownerOfPort]
  simp only [List.all_eq_false, mem_bandsIn, beq_iff_eq]
  constructor
  · rintro ⟨_, ⟨i, b, hb, hlow, hhigh, rfl⟩, hne⟩
    exact ⟨i, b, hlow, hhigh, hb, mt (howner i b).mpr hne⟩
  · rintro ⟨i, b, hlow, hhigh, hb, hne⟩
    exact ⟨_, ⟨i, b, hb, hlow, hhigh, rfl⟩, mt (howner i b).mp hne⟩

/-- Two ranges of bands meet exactly in a common band. -/
theorem grantMeets_iff {s : State} (hlegal : ∀ g ∈ s.grants.records, g.first ≤ g.last) {p : Panel} {first last : Nat}
    (hrange : first ≤ last) :
    s.grantMeets p first last = true ↔ ∃ i, first ≤ i ∧ i ≤ last ∧ s.granted p i := by
  simp only [State.grantMeets, List.any_eq_true, Bool.and_eq_true, decide_eq_true_eq, State.granted]
  constructor
  · rintro ⟨g, hg, ⟨hpanel, hlast⟩, hfirst⟩
    have := hlegal g hg
    exact ⟨max first g.first, by omega, by omega, g, hg, hpanel, by omega, by omega⟩
  · rintro ⟨i, hlow, hhigh, g, hg, hpanel, hfirst, hlast⟩
    exact ⟨g, hg, ⟨hpanel, by omega⟩, by omega⟩

theorem driveIn_iff {s : State} {p : Panel} {first last : Nat} :
    s.driveIn p first last = true ↔
      ∃ e d, (s.panel p).seq = some e ∧ d ∈ e.driving ∧ first ≤ d.band ∧ d.band ≤ last := by
  unfold State.driveIn
  cases (s.panel p).seq with
  | none => simp
  | some e => simp

/-- Settles O41: the checks of R129 one after the other, then the grant and the next id. -/
theorem writeOpenByTable : Obligations.WriteOpenByTable := by
  intro q tag p first last lifetime s htakes hlegal x
  obtain ⟨-, -, -, -, hranges, hlow, hhigh, -⟩ := hlegal
  refine ⟨fun panel hpanel => ?_, ?_⟩
  · refine congrArg Host.Outcome.next ((takeRequest_of_takes htakes tag 0x12 _).trans ?_)
    simp only [serveWriteOpen, panelOf_of_gt hpanel]
  · refine answersWith_of_servedBy htakes (serve := serveWriteOpen q (panelNumber p) first last lifetime) ?_
    rw [serveWriteOpen, panelOf_panelNumber]
    refine servedBy_ite (by decide) fun hrange => servedBy_ite (by decide) fun _ => ?_
    refine servedBy_ite_of_iff (by decide) bandsIn_owner_iff ?_
    refine servedBy_ite_of_iff (by decide)
      (grantMeets_iff (fun g hg => (hranges g hg).2.2.1) (Nat.not_lt.mp (not_or.mp hrange).1)) ?_
    have hcount : (s.grantsOf q).length = s.grants.records.countP fun g => decide (g.port = q) :=
      (List.countP_eq_length_filter ..).symm
    rw [hcount]
    refine servedBy_ite (by decide) fun hfull => servedBy_accept ?_
    obtain ⟨k, hnext, hfree, hwalk⟩ := GrantList.append_nextId (g := s.newGrant q p first last lifetime) ⟨hlow, hhigh⟩
      (Nat.not_le.mp (not_or.mp hfull).1)
    have hstate : (s.newGrant q p first last lifetime).state =
        if s.driveIn p first last = true then .pending else .granted := rfl
    refine ⟨(s.newGrant q p first last lifetime).state, (s.grants.append (s.newGrant q p first last lifetime)).nextId, k,
      ?_, ?_, hnext, hfree, hwalk, rfl, rfl⟩
    · rw [← driveIn_iff, hstate]
      split
      · exact iff_of_true rfl ‹_›
      · exact iff_of_false (by decide) ‹_›
    · rw [hstate]
      split
      · exact .inl rfl
      · exact .inr rfl

/-! ### The bands of a grant -/

/-- The bands of an index range, in order. -/
theorem placeBands_range (first last : Nat) (bs : List Band) : ∀ i l : Nat,
    ((placeBands i l bs).filter (inIndexRange first last)).map Placed.band = (bs.take (last + 1 - i)).drop (first - i) := by
  induction bs with
  | nil => intro i l; simp [placeBands]
  | cons b bs ih =>
    intro i l
    rw [placeBands, List.filter_cons]
    by_cases hlast : i ≤ last
    · rw [show last + 1 - i = last + 1 - (i + 1) + 1 by omega, List.take_succ_cons]
      by_cases hfirst : first ≤ i
      · have hin : inIndexRange first last { index := i, first := l, band := b } = true := by
          simp [inIndexRange, hfirst, hlast]
        rw [if_pos hin, List.map_cons, ih, show first - i = 0 by omega, show first - (i + 1) = 0 by omega]
        rfl
      · have hout : ¬inIndexRange first last { index := i, first := l, band := b } = true := by
          simp [inIndexRange, hfirst]
        rw [if_neg hout, ih, show first - i = first - (i + 1) + 1 by omega, List.drop_succ_cons]
    · have hout : ¬inIndexRange first last { index := i, first := l, band := b } = true := by
        simp [inIndexRange, hlast]
      rw [if_neg hout, ih, show last + 1 - i = 0 by omega, show last + 1 - (i + 1) = 0 by omega]
      simp

/-- The PROTECTED bands of a grant's range below an index. -/
def Grant.guardedBelow (g : Grant) (bs : List Band) (stop : Nat) : Nat :=
  ((bs.take stop).drop g.first).countP fun b => decide (b.cls = .guarded)

theorem guardedIn_length (s : State) (g : Grant) :
    (guardedIn (s.bandsIn g.panel g.first g.last)).length =
      g.guardedBelow (s.panel g.panel).bands.records (g.last + 1) := by
  have hbands := placeBands_range g.first g.last (s.panel g.panel).bands.records 0 0
  rw [Nat.sub_zero, Nat.sub_zero] at hbands
  rw [Grant.guardedBelow, ← hbands, List.countP_map, guardedIn, ← List.countP_eq_length_filter]
  refine congrArg (fun f => ((placeBands 0 0 (s.panel g.panel).bands.records).filter
    (inIndexRange g.first g.last)).countP f) (funext fun x => ?_)
  rw [Function.comp_apply, Bool.eq_iff_iff, beq_iff_eq, decide_eq_true_eq]

/-- Each PROTECTED band of the range takes the CRC whose place is the number of PROTECTED bands before it. -/
theorem getElem?_setChecks (first last : Nat) (bs : List Band) : ∀ (i k : Nat) (crcs : List Crc),
    (setChecks first last i crcs bs)[k]? = bs[k]?.map fun b =>
      if first ≤ i + k ∧ i + k ≤ last ∧ b.cls = .guarded then
        b.setCheck crcs[((bs.take k).drop (first - i)).countP fun b => decide (b.cls = .guarded)]?
      else b := by
  induction bs with
  | nil => intro i k crcs; rfl
  | cons b bs ih =>
    intro i k crcs
    cases k with
    | zero =>
      rw [setChecks, Nat.add_zero]
      by_cases hin : first ≤ i ∧ i ≤ last ∧ b.cls = .guarded
      · rw [if_pos hin]
        simp [hin, List.head?_eq_getElem?]
      · rw [if_neg hin]
        simp [hin]
    | succ k =>
      have hindex : i + (k + 1) = i + 1 + k := by omega
      have htail : ∀ n : Nat, crcs.tail[n]? = crcs[n + 1]? := fun n => by cases crcs <;> simp
      rw [setChecks, hindex, List.take_succ_cons]
      by_cases hin : first ≤ i ∧ i ≤ last ∧ b.cls = .guarded
      · rw [if_pos hin, List.getElem?_cons_succ, List.getElem?_cons_succ, ih, show first - i = 0 by omega,
          show first - (i + 1) = 0 by omega]
        simp only [htail, List.drop_zero, List.countP_cons, hin.2.2, decide_true, if_true]
      · rw [if_neg hin, List.getElem?_cons_succ, List.getElem?_cons_succ, ih]
        refine congrArg (fun f => bs[k]?.map f) (funext fun c => ?_)
        by_cases hc : first ≤ i + 1 + k ∧ i + 1 + k ≤ last ∧ c.cls = .guarded
        · rw [if_pos hc, if_pos hc]
          by_cases hfirst : first ≤ i
          · have hcls : ¬b.cls = .guarded := fun h => hin ⟨hfirst, by omega, h⟩
            rw [show first - i = 0 by omega, show first - (i + 1) = 0 by omega]
            simp [hcls]
          · rw [show first - i = first - (i + 1) + 1 by omega, List.drop_succ_cons]
        · rw [if_neg hc, if_neg hc]

/-- The PROTECTED bands of a range are counted by their classes alone. -/
theorem Grant.guardedBelow_congr {g : Grant} {bs cs : List Band} (h : cs.map Band.cls = bs.map Band.cls) (stop : Nat) :
    g.guardedBelow cs stop = g.guardedBelow bs stop := by
  have hclasses : ∀ bs : List Band, g.guardedBelow bs stop =
      (((bs.map Band.cls).take stop).drop g.first).countP fun c => decide (c = .guarded) := fun bs => by
    rw [← List.map_take, ← List.map_drop, List.countP_map]
    rfl
  rw [hclasses, hclasses, h]

/-- The bands of a panel after a grant over some of them was closed with a CRC list. -/
def Grant.closedRecords (g : Grant) (crcs : List Crc) (bs : List Band) : List Band :=
  setChecks g.first g.last 0 crcs (markWhere (inIndexRange g.first g.last) bs)

theorem Grant.getElem?_closedRecords (g : Grant) (crcs : List Crc) (bs : List Band) (i : Nat) :
    (g.closedRecords crcs bs)[i]? = bs[i]?.map fun b =>
      if g.first ≤ i ∧ i ≤ g.last then
        if b.cls = .guarded then { b with dirty := true, expected := crcs[g.guardedBelow bs i]?, mismatches := 0 }
        else { b with dirty := true }
      else b := by
  have hmarked : ∀ k : Nat, (markWhere (inIndexRange g.first g.last) bs)[k]? =
      bs[k]?.map fun b => { b with dirty := b.dirty || (decide (g.first ≤ k) && decide (k ≤ g.last)) } :=
    getElem?_markIndices (fun k => decide (g.first ≤ k) && decide (k ≤ g.last)) bs
  have hclasses : (markWhere (inIndexRange g.first g.last) bs).map Band.cls = bs.map Band.cls :=
    List.ext_getElem? fun k => by
      rw [List.getElem?_map, List.getElem?_map, hmarked, Option.map_map]
      rfl
  have hcount := g.guardedBelow_congr hclasses i
  rw [closedRecords, getElem?_setChecks, hmarked, Option.map_map]
  refine congrArg (fun f => bs[i]?.map f) (funext fun b => ?_)
  rw [Function.comp_apply, Nat.zero_add, Nat.sub_zero, ← hcount]
  by_cases hin : g.first ≤ i ∧ i ≤ g.last
  · by_cases hcls : b.cls = .guarded
    · rw [if_pos ⟨hin.1, hin.2, hcls⟩, if_pos hin, if_pos hcls]
      simp [Band.setCheck, Grant.guardedBelow, hin]
    · rw [if_neg fun h => hcls h.2.2, if_pos hin, if_neg hcls]
      simp [hin]
  · rw [if_neg fun h => hin ⟨h.1, h.2.1⟩, if_neg hin]
    have : (decide (g.first ≤ i) && decide (i ≤ g.last)) = false := by
      rw [Bool.eq_false_iff]
      simpa using hin
    rw [this, Bool.or_false]

theorem Grant.closedRecords_length (g : Grant) (crcs : List Crc) (bs : List Band) :
    (g.closedRecords crcs bs).length = bs.length := by
  have hnone : ∀ i, (g.closedRecords crcs bs).length ≤ i ↔ bs.length ≤ i := fun i => by
    rw [← List.getElem?_eq_none_iff, ← List.getElem?_eq_none_iff, g.getElem?_closedRecords, Option.map_eq_none_iff]
  exact Nat.le_antisymm ((hnone _).mpr le_rfl) ((hnone _).mp le_rfl)

/-- Dropping the entries of several bands keeps the others in order. -/
theorem foldl_dropExpectation (is : List Nat) (s : State) :
    is.foldl (fun s i => dropExpectation i s) s = s.updPanel .cluster fun x =>
      { x with link := { x.link with expectations := x.link.expectations.filter fun e => decide (e.band ∉ is) } } := by
  induction is generalizing s with
  | nil =>
    have hall : (s.cluster.link.expectations.filter fun e => decide (e.band ∉ ([] : List Nat))) =
        s.cluster.link.expectations := List.filter_eq_self.mpr fun e _ => by simp
    show s = { s with cluster := { s.cluster with link := { s.cluster.link with
      expectations := s.cluster.link.expectations.filter fun e => decide (e.band ∉ ([] : List Nat)) } } }
    rw [hall]
  | cons i is ih =>
    rw [List.foldl_cons, ih, dropExpectation, updPanel_updPanel]
    refine congrArg (fun f => s.updPanel .cluster f) (funext fun x => ?_)
    have hfilter : (x.link.expectations.filter fun e => e.band != i).filter (fun e => decide (e.band ∉ is)) =
        x.link.expectations.filter fun e => decide (e.band ∉ i :: is) := by
      rw [List.filter_filter]
      refine congrArg (fun f => x.link.expectations.filter f) (funext fun e => ?_)
      rw [Bool.eq_iff_iff]
      simp [and_comm]
    simp only [hfilter]

/-! ### WRITE_CLOSE -/

/-- The bands of a grant's range that are PROTECTED, by their indices. -/
def State.guardedIndices (s : State) (g : Grant) : List Nat :=
  (guardedIn (s.bandsIn g.panel g.first g.last)).map Placed.index

theorem State.mem_guardedIndices {s : State} {g : Grant} {i : Nat} :
    i ∈ s.guardedIndices g ↔ g.first ≤ i ∧ i ≤ g.last ∧
      ∃ b, (s.panel g.panel).bands.records[i]? = some b ∧ b.cls = .guarded := by
  simp only [State.guardedIndices, guardedIn, List.mem_map, List.mem_filter, mem_bandsIn, beq_iff_eq]
  constructor
  · rintro ⟨_, ⟨⟨j, b, hb, hlow, hhigh, rfl⟩, hcls⟩, rfl⟩
    exact ⟨hlow, hhigh, b, hb, hcls⟩
  · rintro ⟨hlow, hhigh, b, hb, hcls⟩
    exact ⟨_, ⟨⟨i, b, hb, hlow, hhigh, rfl⟩, hcls⟩, rfl⟩

/-- The expectations left on the grant's panel. -/
def State.expectationsLeft (s : State) (g : Grant) : List Expectation :=
  match g.panel with
  | .cluster => s.cluster.link.expectations.filter fun e => decide (e.band ∉ s.guardedIndices g)
  | .centre => s.centre.link.expectations

theorem State.mem_expectationsLeft (s : State) (g : Grant) {e : Expectation} :
    e ∈ s.expectationsLeft g ↔ e ∈ (s.panel g.panel).link.expectations ∧
      ¬(g.panel = .cluster ∧ g.first ≤ e.band ∧ e.band ≤ g.last ∧
        ∃ b, (s.panel g.panel).bands.records[e.band]? = some b ∧ b.cls = .guarded) := by
  unfold State.expectationsLeft
  cases hp : g.panel with
  | cluster =>
    simp only [List.mem_filter, decide_eq_true_eq, State.mem_guardedIndices, hp, true_and]
    rfl
  | centre => exact (and_iff_left fun h => nomatch h.1).symm

theorem State.expectationsLeft_sublist (s : State) (g : Grant) :
    (s.expectationsLeft g).Sublist (s.panel g.panel).link.expectations := by
  unfold State.expectationsLeft
  cases g.panel with
  | cluster => exact List.filter_sublist
  | centre => exact List.Sublist.refl _

/-- A closed grant: it ends, its bands take their checks, and their expectations are dropped. -/
theorem closeGrant_eq (g : Grant) (crcs : List Crc) (s : State) :
    closeGrant g crcs s = { s.setPanel g.panel { s.panel g.panel with
        bands := { (s.panel g.panel).bands with
          records := g.closedRecords crcs (s.panel g.panel).bands.records }
        link := { (s.panel g.panel).link with expectations := s.expectationsLeft g } } with
      grants := { s.grants with records := s.grants.records.filter fun x => x.id != g.id } } := by
  have hclose : closeGrant g crcs s = (s.guardedIndices g).foldl (fun s i =>
      match g.panel with
      | .centre => s
      | .cluster => dropExpectation i s)
      ((endGrant g s).updBands g.panel (setChecks g.first g.last 0 crcs)) := rfl
  rw [hclose]
  unfold State.expectationsLeft
  cases hp : g.panel with
  | cluster =>
    dsimp only
    rw [foldl_dropExpectation]
    simp only [endGrant, hp]
    rfl
  | centre =>
    have hskip : ∀ (is : List Nat) (u : State), is.foldl (fun s _ => s) u = u := fun is u => by
      induction is generalizing u with
      | nil => rfl
      | cons i is ih => exact ih u
    simp only [hskip]
    simp only [endGrant, hp]
    rfl

theorem grantNamed_eq_some {s : State} (hids : s.grants.records.Pairwise idsApart) {q : Port} {id : Nat} {g : Grant}
    (hg : g ∈ s.grants.records) (hport : g.port = q) (hid : g.id = id) : s.grantNamed q id = some g := by
  cases h : s.grantNamed q id with
  | none => exact absurd ⟨hid, hport⟩ (grantNamed_eq_none_iff.mp h g hg)
  | some g' =>
    have hnamed := List.find?_some h
    simp only [Bool.and_eq_true, beq_iff_eq, decide_eq_true_eq] at hnamed
    rw [eq_of_id_eq hids (List.mem_of_find?_eq_some h) hg (hnamed.1.trans hid.symm)]

/-- Settles O42: the checks of R134 one after the other, then the grant's end with the checks of its bands. -/
theorem writeCloseByTable : Obligations.WriteCloseByTable := by
  intro q tag id crcs s htakes hlegal guardedIn'
  obtain ⟨-, -, hids, -⟩ := hlegal
  refine answersWith_of_servedBy htakes (serve := serveWriteClose q id (.all crcs)) ?_
  rw [serveWriteClose]
  by_cases hnamed : ∃ g ∈ s.grants.records, g.port = q ∧ g.id = id
  · obtain ⟨g, hg, hport, hid⟩ := hnamed
    rw [grantNamed_eq_some hids hg hport hid]
    refine servedBy_passed (not_not_intro ⟨g, hg, hport, hid⟩) (servedBy_ite_of_iff (by decide) ?_ (servedBy_accept ?_))
    · rw [guardedIn_length]
      constructor
      · rintro (hwhole | ⟨hne, hlength⟩)
        · cases hwhole
        · exact ⟨g, hg, hport, hid, hne, hlength⟩
      · rintro ⟨g', hg', hport', hid', hne, hlength⟩
        obtain rfl := eq_of_id_eq hids hg' hg (hid'.trans hid.symm)
        exact .inr ⟨hne, hlength⟩
    · have hrecords := g.getElem?_closedRecords crcs (s.panel g.panel).bands.records
      refine ⟨g, g.closedRecords crcs (s.panel g.panel).bands.records, s.expectationsLeft g, hg, hport, hid, rfl, ?_,
        fun i b hb => ⟨fun hout => ?_, fun hin hcls => ?_, fun hin hcls => ?_⟩, fun e => s.mem_expectationsLeft g,
        s.expectationsLeft_sublist g, ?_⟩
      · exact g.closedRecords_length crcs _
      · rw [hrecords, hb, Option.map_some, if_neg hout]
      · rw [hrecords, hb, Option.map_some, if_pos hin, if_neg (by rw [hcls]; decide)]
      · rw [hrecords, hb, Option.map_some, if_pos hin, if_pos hcls]
        rfl
      · rw [closeGrant_eq]
        have hothers : s.grants.records.filter (fun x => x.id != g.id) =
            s.grants.records.filter (fun y => decide (y ≠ g)) := by
          refine List.filter_congr fun y hy => ?_
          rw [Bool.eq_iff_iff, bne_iff_ne, decide_eq_true_eq]
          exact not_congr ⟨eq_of_id_eq hids hy hg, fun h => h ▸ rfl⟩
        rw [hothers]
        rfl
  · have hnone : s.grantNamed q id = none :=
      grantNamed_eq_none_iff.mpr fun g hg h => hnamed ⟨g, hg, h.2, h.1⟩
    rw [hnone]
    exact servedBy_refused (by decide) hnamed

end Sys2Proof.Machine

/-!
PROOF. Panel power sequencing: the entry into DRAIN, and PANEL_ON, PANEL_STOP and PANEL_OFF (O44), loss of power-good (O47),
the supply warning (O48), and the profile write (O54).
-/

namespace Sys2Proof.Machine

open Sys2Proof

/-! ### PANEL_STATE and the entry into DRAIN -/

theorem postPanelState_eq (p : Panel) (left : PowerState) (reason : PanelReason) (s : State) :
    postPanelState p left reason s =
      postAll (toOwn p (s.noticeOf p (.panelState left (s.panel p).power.state reason (s.panel p).power.logicEn
        (s.panel p).power.gateEn (s.panel p).power.powerGood))) s :=
  postOwn_eq_postAll p _ s

/-- Revocations name the frame numbers of the panels alone. -/
theorem State.revocations_congr {s t : State} (h : ∀ p, (t.panel p).frame.number = (s.panel p).frame.number)
    (reason : RevokeReason) (gone : List Grant) : t.revocations reason gone = s.revocations reason gone :=
  List.map_congr_left fun g _ => by rw [noticeOf_congr (h g.panel)]

theorem updPower_number (s : State) (p q : Panel) (f : Power → Power) :
    ((s.updPower p f).panel q).frame.number = (s.panel q).frame.number := by cases p <;> cases q <;> rfl

/-- The power block of a panel that enters DRAIN (R147). -/
def Power.draining (now : Tick) (w : Power) : Power :=
  { w with
    state := .drain, gateEn := false, autostart := false
    step := some { step := .discharge, deadline := now.after (w.times.tC * 20000) } }

/-- The notices of the entry into DRAIN, in order (R137, R147, R148). -/
def State.drainTold (s : State) (p : Panel) (reason : PanelReason) : List (Port × Notice) :=
  s.revocations .drain (s.grantsOn p) ++
    toOwn p (s.noticeOf p (.panelState (s.panel p).power.state .drain reason (s.panel p).power.logicEn false
      (s.panel p).power.powerGood))

/-- The entry into DRAIN: the panel's grants end and its power block drains; the notices apart nothing else changes. -/
theorem enterDrain_eq (p : Panel) (reason : PanelReason) (s : State) :
    enterDrain p reason s = postAll (s.drainTold p reason)
      ((s.endGrants (s.grantsOn p)).updPower p (Power.draining s.count)) := by
  have hrevoked : ∀ f : Power → Power, revokeAll .drain ((s.updPower p f).grantsOn p) (s.updPower p f) =
      postAll (s.revocations .drain (s.grantsOn p)) ((s.endGrants (s.grantsOn p)).updPower p f) := fun f => by
    rw [revokeAll_eq, State.revocations_congr fun q => updPower_number s p q f]
    cases p <;> rfl
  have hpost : ∀ (told : List (Port × Notice)) (u : State) (f : Power → Power),
      (postAll told u).updPower p f = postAll told (u.updPower p f) := fun told u f => postAll_updPanel told u p _
  have hnotice : ∀ (told : List (Port × Notice)) (u : State) (b : NoticeBody), (postAll told u).noticeOf p b = u.noticeOf p b :=
    fun told u b => noticeOf_congr (by rw [postAll_panel]) b
  unfold enterDrain
  simp only [hrevoked, hpost, postPanelState_eq, hnotice, postAll_panel, ← postAll_append, State.drainTold]
  cases p <;> rfl

theorem enterDrain_drains {s : State} (hids : s.grants.records.Pairwise idsApart) (p : Panel) (reason : PanelReason) :
    s.drains (enterDrain p reason s) p reason := by
  refine ⟨s.grantsOn p, s.endGrants (s.grantsOn p), s.selects_filter fun g _ => decide_eq_true_iff, 
    State.endsGrants_endGrants hids fun g hg => List.mem_of_mem_filter hg, ?_⟩
  rw [enterDrain_eq]
  cases p <;> rfl

/-! ### PANEL_ON, PANEL_STOP and PANEL_OFF -/

/-- The first check of a power request that names a panel. -/
theorem servedBy_powerTarget {q : Port} {p : Panel} {s : State} {checks : List (Prop × OutcomeCode)}
    {ok : State → Results → Prop} {serve : State × Answer}
    (hrefused : powerTarget q (panelNumber p) = .error (refuse .notPermitted) → serve = (s, refuse .notPermitted))
    (htaken : powerTarget q (panelNumber p) = .ok p → ServedBy s checks ok (fun _ => .none) serve) :
    ServedBy s ((q = .media ∧ p = .cluster, .notPermitted) :: checks) ok (fun _ => .none) serve := by
  rw [powerTarget_panelNumber] at hrefused htaken
  by_cases hown : q = .media ∧ p = .cluster
  · rw [hrefused (if_pos hown)]
    exact servedBy_refused (by decide) hown
  · exact servedBy_passed hown (htaken (if_neg hown))

/-- The power block of a panel turned on (R142). -/
def Power.rampingUp (now : Tick) (tA tB tC : Nat) (w : Power) : Power :=
  { w with
    times := w.times.given tA tB tC, logicEn := true, state := .ramp
    step := some { step := .gateWait, deadline := now.after ((w.times.given tA tB tC).tA * 20000) } }

theorem updPower_eq_setPanel (s : State) (p : Panel) (f : Power → Power) :
    s.updPower p f = s.setPanel p { s.panel p with power := f (s.panel p).power } := rfl

/-- Turning a panel on starts its ramp with the step times given, and says so (R142). -/
theorem turnOn_eq (p : Panel) (tA tB tC : Nat) (s : State) :
    turnOn p tA tB tC s =
      postAll (toOwn p (s.noticeOf p (.panelState .off .ramp .request true (s.panel p).power.gateEn
        (s.panel p).power.powerGood)))
        (s.setPanel p { s.panel p with power := (s.panel p).power.rampingUp s.count tA tB tC }) := by
  rw [turnOn, postPanelState_eq, updPower_eq_setPanel, panel_setPanel]
  refine congrArg (fun n => postAll (toOwn p n) _) (noticeOf_congr ?_ _)
  rw [panel_setPanel]

/-- A stop is pending once asked for. -/
theorem stopPanel_eq (p : Panel) (s : State) :
    stopPanel p s = if (s.panel p).power.stopPending = true then s
      else s.setPanel p { s.panel p with
        dimmer := (s.panel p).dimmer.darkened, power := { (s.panel p).power with stopPending := true } } := by
  unfold stopPanel
  cases p <;> rfl

/-- Settles O44: the checks of the power requests, and the effect of each by power state. -/
theorem panelOnStopOffByTable : Obligations.PanelOnStopOffByTable := by
  intro q tag s htakes
  refine ⟨fun panel tA tB tC hpanel => ?_, fun p => ?_⟩
  · have hnone := powerTarget_of_gt (q := q) (panelOf_of_gt hpanel)
    refine ⟨(exec_takes (r := .panelOn panel tA tB tC) htakes rfl).trans ?_,
      (exec_takes (r := .panelStop panel) htakes rfl).trans ?_, (exec_takes (r := .panelOff panel) htakes rfl).trans ?_⟩
    · simp only [serveRequest, servePanelOn, hnone, Request.code]
    · simp only [serveRequest, servePanelStop, hnone, Request.code]
    · simp only [serveRequest, servePanelOff, hnone, Request.code]
  intro x w pick
  refine ⟨fun tA tB tC hA hB hC => ?_, ?_, ?_⟩
  · refine answersWith_of_servedBy htakes (serve := servePanelOn q (panelNumber p) tA tB tC) ?_
    refine servedBy_powerTarget (fun h => by rw [servePanelOn, h]) fun h => ?_
    have hbytes : ¬(255 < tA ∨ 255 < tB ∨ 255 < tC) := by omega
    simp only [servePanelOn, h, if_neg hbytes]
    refine servedBy_ite (by decide) fun _ => servedBy_accept ⟨turnOn_eq p tA tB tC s, ?_⟩
    rw [turnOn_eq, postAll_panel, panel_setPanel]
    rfl
  · refine answersWith_of_servedBy htakes (serve := servePanelStop q (panelNumber p)) ?_
    refine servedBy_powerTarget (fun h => by rw [servePanelStop, h]) fun h => ?_
    rw [servePanelStop, h]
    refine servedBy_ite (by decide) fun hscanning => servedBy_accept ⟨stopPanel_eq p s, ?_⟩
    rw [stopPanel_eq]
    split
    · rename_i hpending
      rw [Power.reply, hpending, not_not.mp hscanning]
    · rw [panel_setPanel, Power.reply, not_not.mp hscanning]
  · refine answersWith_of_servedBy htakes (serve := servePanelOff q (panelNumber p)) ?_
    refine servedBy_powerTarget (fun h => by rw [servePanelOff, h]) fun h => ?_
    rw [servePanelOff, h]
    refine servedBy_accept ⟨?_, ?_, ?_, rfl⟩
    · rintro (hstate | hstate) <;> rw [offPanel, hstate]
    · rintro (hstate | hstate) ⟨-, -, hids, -⟩ <;>
        · rw [offPanel, hstate]
          exact enterDrain_drains hids p .request
    · intro hstate
      have hoff : offPanel p s = (stopPanel p s).updPower p fun w => { w with offPending := true } := by
        rw [offPanel, hstate]
      rw [hoff, stopPanel_eq, updPower_eq_setPanel]
      by_cases hpending : (s.panel p).power.stopPending = true
      · simp only [x, w, hpending, if_true]
      · simp only [x, w, if_neg hpending, panel_setPanel, setPanel_setPanel]

/-! ### Loss of power-good -/

/-- Settles O47: the level apart nothing changes where the input is not watched; else the scan ends and the panel drains. -/
theorem powerGoodLossDrains : Obligations.PowerGoodLossDrains := by
  intro p s hreset hlegal x low o
  obtain ⟨-, -, hids, -⟩ := hlegal
  have hrun : exec (.powerGoodLoss p) s = .next (if (s.setPanel p low).watchesPower p = true then
      losePower p (s.setPanel p low) else s.setPanel p low) := by
    have hreset' : (s.setPanel p low).inReset = false := by cases p <;> exact hreset
    exact congrArg Host.Outcome.next (unlessReset_run hreset')
  have hstate : ((s.setPanel p low).panel p).power.state = x.power.state := by rw [panel_setPanel]
  have hwatches : (s.setPanel p low).watchesPower p = true ↔ x.power.state = .ready ∨ x.power.state = .scanning := by
    rw [State.watchesPower, hstate, Bool.or_eq_true, beq_iff_eq, beq_iff_eq]
  have hscanning : (s.setPanel p low).scanning p = true ↔ x.power.state = .scanning := by
    rw [State.scanning, hstate, beq_iff_eq]
  refine ⟨fun hready hscan => ?_, fun hready => ⟨losePower p (s.setPanel p low), ?_, ?_⟩,
    fun hscan => ⟨losePower p (s.setPanel p low), ?_, ?_⟩⟩
  · rw [hrun, if_neg (mt hwatches.mp (not_or.mpr ⟨hready, hscan⟩))]
  · rw [hrun, if_pos (hwatches.mpr (.inl hready))]
  · rw [losePower, if_neg (mt hscanning.mp (by rw [hready]; decide))]
    have hgrants : (setPowerCause (s.setPanel p low)).grants = s.grants := by cases p <;> rfl
    have hdrains := enterDrain_drains (s := setPowerCause (s.setPanel p low)) (hgrants ▸ hids) p .powerLost
    have hcause : setPowerCause (s.setPanel p low) =
        { s.setPanel p low with faults := { s.faults with power := true } } := by cases p <;> rfl
    rwa [hcause] at hdrains ⊢
  · rw [hrun, if_pos (hwatches.mpr (.inr hscan))]
  · rw [losePower, if_pos (hscanning.mpr hscan)]
    have hended : setPowerCause (abandonScan p (s.setPanel p low)) =
        { (s.setPanel p low.abandoned).setPanel (otherPanel p) { o with lock := { o.lock with inFlight := [] } } with
          faults := { s.faults with power := true }
          touch := { s.touch with waits := if p = .centre then [] else s.touch.waits } } := by cases p <;> rfl
    rw [hended]
    refine enterDrain_drains ?_ p .powerLost
    cases p <;> exact hids

/-! ### Supply warning -/

/-- Settles O48: the flag follows the input, and the dimmers of SCANNING panels are capped at the edge. -/
theorem supplyWarningEdges : Obligations.SupplyWarningEdges := by
  intro s hreset capped n
  have hcap : ∀ (p : Panel) (u : State), capPanel p u = u.setPanel p (capped (u.panel p)) := fun p u => by
    rw [capPanel]
    by_cases hscanning : (u.panel p).power.state = .scanning
    · rw [if_pos (by rw [State.scanning, hscanning]; rfl)]
      exact congrArg (u.setPanel p) (if_pos hscanning).symm
    · rw [if_neg (by rwa [State.scanning, beq_iff_eq])]
      exact (setPanel_panel_self u p).symm.trans (congrArg (u.setPanel p) (if_neg hscanning).symm)
  refine ⟨fun hhold => ?_, fun hhold => ?_, fun hhold => ?_, fun hhold => ?_⟩
  all_goals
    refine congrArg Host.Outcome.next ((unlessReset_run (by exact hreset)).trans ?_)
  · rw [if_neg (Bool.eq_false_iff.mp hhold), beginHold, hcap, hcap, postBoth_eq_postAll]
    rfl
  · rw [if_pos hhold]
  · rw [if_pos hhold, endHold, postBoth_eq_postAll]
    rfl
  · rw [if_neg (Bool.eq_false_iff.mp hhold)]

/-! ### The profile write -/

/-- Settles O54: the checks of R177 with the copy of every live item, and the end of the write. -/
theorem profileWriteAndResetDevice : Obligations.ProfileWriteAndResetDevice := by
  refine ⟨fun q tag s htakes => ⟨fun a b => ?_, ?_⟩, fun s w hreset hwriting hdone => ?_⟩
  · refine answersWith_of_servedBy htakes (serve := serveProfileWrite q a b) ?_
    refine servedBy_ite (by decide) fun _ => ?_
    match a, b with
    | none, _ => exact servedBy_refused (by decide) (.inl rfl)
    | some a, none => exact servedBy_refused (by decide) (.inr rfl)
    | some a, some b =>
      refine servedBy_passed (by rintro (h | h) <;> cases h) (servedBy_ite_of_iff (by decide) ?_ (servedBy_accept ?_))
      · rw [Option.isSome_iff_ne_none]
      · refine ⟨s.liveProfile a b, rfl, rfl, rfl, rfl, rfl, rfl, rfl, fun p => ?_, List.length_map .., fun i g hg => ?_, rfl,
          rfl, rfl, rfl, rfl⟩
        · cases p <;> rfl
        · show (s.touch.groups.map Group.spec)[i]? = _
          rw [List.getElem?_map, hg]
          rfl
  · refine answersWith_of_servedBy htakes (serve := serveResetDevice q) ?_
    cases q with
    | supervisor => exact servedBy_passed (by decide) (servedBy_accept ⟨rfl, rfl⟩)
    | media => exact servedBy_refused (by decide) rfl
  · refine congrArg Host.Outcome.next ((unlessReset_run hreset).trans ?_)
    have hdue : s.writeDue = some w := by rw [State.writeDue, hwriting]; exact if_pos hdone
    rw [hdue]
    rfl

end Sys2Proof.Machine

/-!
PROOF. The frame start as one state and its notices, and what begins with it: PANEL_START (O45), the power steps that expire
(O46).
-/

namespace Sys2Proof.Machine

open Sys2Proof

/-! ### Band slots back to back -/

/-- Slots without touch slots between them start where the one before ends. -/
theorem getElem?_layDown_nil (bands : List BandItem) : ∀ i x k : Nat,
    (layDown [] i x bands)[k]? = bands[k]?.map fun b =>
      { start := x + ((bands.take k).map BandItem.cost).sum, cost := b.cost, kind := b.kind } := by
  induction bands with
  | nil => intro i x k; rfl
  | cons b bs ih =>
    intro i x k
    show ({ start := x + 0, cost := b.cost, kind := b.kind } :: layDown [] (i + 1) (x + 0 + b.cost) bs : List Slot)[k]? = _
    cases k with
    | zero => rfl
    | succ k =>
      rw [List.getElem?_cons_succ, List.getElem?_cons_succ, ih, List.take_succ_cons, List.map_cons, List.sum_cons,
        Nat.add_zero, Nat.add_assoc]

theorem layDown_nil_length (bands : List BandItem) (i x : Nat) : (layDown [] i x bands).length = bands.length := by
  induction bands generalizing i x with
  | nil => rfl
  | cons b bs ih => exact congrArg (· + 1) (ih (i + 1) _)

theorem endOfSlots_layDown_nil (bands : List BandItem) (i x : Nat) (h : bands ≠ []) :
    endOfSlots (layDown [] i x bands) = x + (bands.map BandItem.cost).sum := by
  induction bands generalizing i x with
  | nil => exact absurd rfl h
  | cons b bs ih =>
    show endOfSlots ({ start := x + 0, cost := b.cost, kind := b.kind } :: layDown [] (i + 1) (x + 0 + b.cost) bs) = _
    cases bs with
    | nil => rfl
    | cons c cs =>
      have htail := ih (i + 1) (x + b.cost) (List.cons_ne_nil _ _)
      have hlast : ∀ (y z : Slot) (l : List Slot), endOfSlots (y :: z :: l) = endOfSlots (z :: l) := fun y z l => by
        rw [endOfSlots, List.getLast?_cons_cons]; rfl
      rw [List.map_cons, List.sum_cons, ← Nat.add_assoc, ← htail]
      exact hlast _ _ _

theorem bandPlan_tail (bands : List BandItem) : (bandPlan bands).tail = (bands.map BandItem.cost).sum := by
  cases bands with
  | nil => rfl
  | cons b bs => exact (endOfSlots_layDown_nil (b :: bs) 0 0 (List.cons_ne_nil _ _)).trans (Nat.zero_add _)

/-- The slots that refresh every band. -/
theorem bandItems_all_eq (t : Timing) (polarity : FramePolarity) (i : Nat) (lines : List Nat) (k : Nat) :
    (bandItems t polarity (fun _ => true) i lines)[k]? =
      lines[k]?.map fun l => { cost := refreshCost t l, kind := .refresh (i + k) polarity } := by
  induction lines generalizing i k with
  | nil => rfl
  | cons l ls ih =>
    cases k with
    | zero => rfl
    | succ k =>
      rw [bandItems, List.getElem?_cons_succ, List.getElem?_cons_succ, ih, Nat.add_assoc, Nat.add_comm 1 k]

theorem bandItems_length (t : Timing) (polarity : FramePolarity) (refreshed : Nat → Bool) (i : Nat) (lines : List Nat) :
    (bandItems t polarity refreshed i lines).length = lines.length := by
  induction lines generalizing i with
  | nil => rfl
  | cons l ls ih => exact congrArg (· + 1) (ih (i + 1))

/-! ### The frame start -/

/-- The notices of a plan handed over, in the number of the frame that starts (R63). -/
def Handed.told (h : Handed) (p : Panel) (t : Timing) (number : FrameNo) : List (Port × Notice) :=
  (if h.stretched = true then
      toPlan p h.mediaOwned { panel := some p, frame := number, body := .frameStretched h.fixed h.length h.late } else []) ++
    (if h.late = true then
      toPlan p h.mediaOwned { panel := some p, frame := number, body := .planLate h.buildTime (leadTime t) h.length } else [])

theorem postPlanNotice_eq (p : Panel) (lent : Bool) (b : NoticeBody) (s : State) :
    postPlanNotice p lent b s = postAll (toPlan p lent (s.noticeOf p b)) s := by
  cases p <;> cases lent <;> rfl

theorem postPlanNotices_eq (p : Panel) (h : Handed) (s : State) :
    postPlanNotices p h s = postAll (h.told p (s.panel p).timing (s.panel p).frame.number) s := by
  unfold postPlanNotices Handed.told
  cases h.stretched <;> cases h.late <;>
    simp only [postPlanNotice_eq, postAll_append, postAll_nil, postAll_panel, if_true, if_false,
      Bool.false_eq_true, State.noticeOf]

/-- The lock of the other panel once a frame has started (R16). -/
def PanelState.partnerMarked (now : Tick) (o : PanelState) : PanelState :=
  { o with lock :=
      if o.power.state = .scanning ∧ o.lock.settings.source = .partner then
        { o.lock with inFlight := insertDue now (now.after o.lock.settings.partnerOffset) o.lock.inFlight }
      else o.lock }

theorem producePartnerMarker_eq (p : Panel) (s : State) :
    producePartnerMarker p s = s.updPanel (otherPanel p) (PanelState.partnerMarked s.count) := by
  have hscanning : s.scanning (otherPanel p) = true ↔ (s.panel (otherPanel p)).power.state = .scanning := by
    rw [State.scanning, beq_iff_eq]
  unfold producePartnerMarker
  by_cases hpaired : (s.panel (otherPanel p)).power.state = .scanning ∧
      (s.panel (otherPanel p)).lock.settings.source = .partner
  · rw [if_pos ⟨hscanning.mpr hpaired.1, hpaired.2⟩, updPanel_eq_setPanel, PanelState.partnerMarked, if_pos hpaired]
    rfl
  · rw [if_neg fun h => hpaired ⟨hscanning.mp h.1, h.2⟩, updPanel_eq_setPanel, PanelState.partnerMarked, if_neg hpaired,
      setPanel_panel_self]

/-- A panel whose frame has started, with its FRAME command (R9, R69). -/
def PanelState.started (now : Tick) (h : Handed) (x : PanelState) : PanelState :=
  { x.startFrame now h with
    link := { x.link with lastCommand := some (.frame x.frame.number (polarityOf x.frame.number) h.length) } }

/-- The deferred groups of a frame that starts are counted on the centre panel (R53). -/
def Touch.countDeferred (p : Panel) (n : Nat) (t : Touch) : Touch :=
  if p = .centre then { t with deferred := t.deferred + BitVec.ofNat 16 n } else t

/-- The state after a frame start, the notices apart. -/
def State.frameStarted (s : State) (p : Panel) (h : Handed) : State :=
  { (s.updPanel p (PanelState.started s.count h)).updPanel (otherPanel p) (PanelState.partnerMarked s.count) with
    touch := s.touch.countDeferred p h.deferred }

theorem PostsThrough.frameStarted (p : Panel) (h : Handed) : PostsThrough fun s => s.frameStarted p h := by
  cases p <;> exact ⟨fun _ => rfl, fun _ => rfl, fun _ => rfl, fun _ _ _ => rfl⟩

/-- A frame start: the panel started, the other panel's partner marker, the deferred groups, and the plan's notices. -/
theorem frameStart_eq (p : Panel) (h : Handed) (s : State) :
    frameStart p h s = postAll (h.told p (s.panel p).timing (s.panel p).frame.number) (s.frameStarted p h) := by
  unfold frameStart
  simp only [producePartnerMarker_eq, postPlanNotices_eq, postAll_count, postAll_updPanel]
  cases p <;> rfl

/-- A frame start after notices have been posted. -/
theorem frameStart_postAll (p : Panel) (h : Handed) (told : List (Port × Notice)) (s : State) :
    frameStart p h (postAll told s) =
      postAll (told ++ h.told p (s.panel p).timing (s.panel p).frame.number) (s.frameStarted p h) := by
  rw [frameStart_eq, postAll_panel, (PostsThrough.frameStarted p h).postAll, postAll_append]

/-! ### PANEL_START -/

theorem PanelState.fullCost_eq (x : PanelState) :
    x.fullCost = (x.bands.records.map fun b => b.lines * x.timing.tLine + x.timing.tSet).sum +
      x.timing.nVb * x.timing.tLine := by
  rw [PanelState.fullCost, fullRefreshCost, List.map_map]
  rfl

theorem State.lentNow_iff {s : State} {p : Panel} :
    s.lentNow p = true ↔ ∃ i b, (s.panel p).bands.records[i]? = some b ∧ s.mediaBand p i b := by
  simp only [State.lentNow, List.any_eq_true, BandTable.mem_placed, beq_iff_eq]
  constructor
  · rintro ⟨_, ⟨i, b, hb, rfl⟩, howner⟩
    exact ⟨i, b, hb, State.owner_eq_media_iff.mp howner⟩
  · rintro ⟨i, b, hb, hmedia⟩
    exact ⟨_, ⟨i, b, hb, rfl⟩, State.owner_eq_media_iff.mpr hmedia⟩

/-- Clearing the records lends the same bands. -/
theorem State.lentNow_beginScan (s : State) {p : Panel} :
    (s.updPanel p PanelState.beginScan).lentNow p = true ↔
      ∃ i b, (s.panel p).bands.records[i]? = some b ∧ s.mediaBand p i b := by
  rw [State.lentNow_iff]
  have hrecords : ((s.updPanel p PanelState.beginScan).panel p).bands.records =
      (s.panel p).bands.records.map Band.atStart := by rw [panel_updPanel]; rfl
  have hmedia : ∀ i b, (s.updPanel p PanelState.beginScan).mediaBand p i b.atStart ↔ s.mediaBand p i b := fun i b => by
    cases p with
    | centre => exact iff_of_true (.inl rfl) (.inl rfl)
    | cluster =>
      have hfirst : (s.updPanel .cluster PanelState.beginScan).cluster.bands.firstLine i = s.cluster.bands.firstLine i :=
        BandTable.firstLine_congr (by
          show (s.cluster.bands.records.map Band.atStart).map Band.lines = _
          rw [List.map_map]; rfl) i
      simp only [State.mediaBand, State.lendsBand, hfirst]
      rfl
  simp only [hrecords, List.getElem?_map, Option.map_eq_some_iff]
  constructor
  · rintro ⟨i, _, ⟨b, hb, rfl⟩, h⟩
    exact ⟨i, b, hb, (hmedia i b).mp h⟩
  · rintro ⟨i, b, hb, h⟩
    exact ⟨i, b.atStart, ⟨b, hb, rfl⟩, (hmedia i b).mpr h⟩

theorem State.firstHanded_beginScan (s : State) (p : Panel) :
    (s.updPanel p PanelState.beginScan).firstHanded p =
      { plan := fullPlan (s.panel p).timing .pos ((s.panel p).bands.records.map Band.lines)
        length := max (s.panel p).timing.tNom (s.panel p).fullCost
        fixed := (s.panel p).timing.tNom
        stretched := decide ((s.panel p).timing.tNom < (s.panel p).fullCost)
        late := false
        deferred := 0
        mediaOwned := (s.updPanel p PanelState.beginScan).lentNow p
        buildTime := 0 } := by
  have hlines : (((s.panel p).beginScan).bands.records.map Band.lines) = (s.panel p).bands.records.map Band.lines := by
    show ((s.panel p).bands.records.map Band.atStart).map Band.lines = _
    rw [List.map_map]; rfl
  have hcost : (s.panel p).beginScan.fullCost = (s.panel p).fullCost :=
    congrArg (fullRefreshCost (s.panel p).timing) hlines
  unfold State.firstHanded
  simp only [panel_updPanel, hlines, hcost]
  rfl

/-- A dark backlight has no edge in any frame. -/
theorem Dimmer.formEdges_of_dark {d : Dimmer} (h : d.dark) (length : Nat) : d.formEdges length = d := by
  obtain ⟨happlied, -, -, -, -, hedges, hactive⟩ := h
  unfold Dimmer.formEdges edgeList
  rw [if_pos happlied, hactive, ← hedges]
  obtain ⟨_⟩ := d
  simp_all

/-- A hand-over without a build in progress or a plan ready counts a stretched frame and nothing else. -/
theorem Builder.handOver_of_empty {h : Handed} {y : Builder} (hlate : h.late = false) (hbuild : y.build = none)
    (hready : y.ready = none) :
    y.handOver h = { y with stretched := y.stretched + (if h.stretched then 1 else 0) } := by
  cases y
  subst hbuild hready
  unfold Builder.handOver
  rw [hlate]
  cases h.stretched <;> simp

/-- The panel whose frame 0 has started (R12, R37, R43, R144). -/
theorem PanelState.started_beginScan {x : PanelState} (hlegal : x.scanLegal) (hready : x.power.state = .ready) (now : Tick)
    {h : Handed} (hlate : h.late = false) (hdeferred : h.deferred = 0) :
    PanelState.started now h x.beginScan = { x with
      frame := { number := 0, start := some now, length := some h.length, next := none }
      lock := { x.lock.ended with
        state := if x.lock.settings.source = .none then .free else .seek, tBase := x.timing.tNom }
      bands := { x.bands with
        records := x.bands.records.map fun b => { b with dirty := false, hold := 0, balance := 0 } }
      builder := { x.builder with stretched := x.builder.stretched + (if h.stretched then 1 else 0) }
      seq := some
        { plan := h.plan, position := 0, blankAt := h.length - x.timing.nVb * x.timing.tLine, blankBegun := false,
          driving := [], refreshed := 0, touches := 0, deferred := 0, stretched := h.stretched, late := false }
      link := { x.link with lastCommand := some (.frame 0 .pos h.length) }
      power := { x.power with
        state := .scanning, stopPending := false, offPending := false, autostart := false } } := by
  have hstill : x.power.state ≠ .scanning := by rw [hready]; decide
  obtain ⟨-, hout, hdark⟩ := hlegal
  obtain ⟨-, -, -, -, hbuild, hplan, -, hflight⟩ := hout hstill
  have hdimmer := Dimmer.formEdges_of_dark (hdark (.inl hstill)) h.length
  have hlock : x.lock.atStart x.timing.tNom = { x.lock.ended with
      state := if x.lock.settings.source = .none then .free else .seek, tBase := x.timing.tNom } := by
    unfold FrameLock.atStart FrameLock.restart FrameLock.ended
    rw [hflight]
    cases x.lock.settings.source <;> rfl
  have hbuilder := Builder.handOver_of_empty hlate hbuild hplan
  have hstarted : PanelState.started now h x.beginScan = { x.beginScan with
      frame := { number := 0, start := some now, length := some h.length, next := none }
      lock := x.lock.atStart x.timing.tNom
      builder := x.builder.handOver h
      seq := some (h.executing x.timing)
      link := { x.link with lastCommand := some (.frame 0 .pos h.length) }
      dimmer := x.dimmer.formEdges h.length } := rfl
  rw [hstarted, hdimmer, hlock, hbuilder, Handed.executing, hdeferred, hlate]
  rfl

theorem State.firstHanded_postAll (told : List (Port × Notice)) (s : State) (p : Panel) :
    (postAll told s).firstHanded p = s.firstHanded p := by
  have howner : ∀ b, (postAll told s).owner p b = s.owner p b := fun b => by
    cases p with
    | centre => rfl
    | cluster => rw [State.owner, postAll_windows]; rfl
  simp only [State.firstHanded, State.lentNow, postAll_panel, howner]

/-- A notice of a panel whose frame number is 0. -/
def firstNotice (p : Panel) (b : NoticeBody) : Notice := { panel := some p, frame := 0, body := b }

/-- PANEL_START: PANEL_STATE, then the notices of frame 0. -/
theorem startScanning_eq (p : Panel) (s : State) :
    startScanning p s = postAll
      (toOwn p (firstNotice p (.panelState .ready .scanning .request (s.panel p).power.logicEn (s.panel p).power.gateEn
          (s.panel p).power.powerGood)) ++
        ((s.updPanel p PanelState.beginScan).firstHanded p).told p (s.panel p).timing 0)
      ((s.updPanel p PanelState.beginScan).frameStarted p ((s.updPanel p PanelState.beginScan).firstHanded p)) := by
  simp only [startScanning, postPanelState_eq, State.firstHanded_postAll, frameStart_postAll]
  cases p <;> rfl

/-- The notices of a frame 0 that is stretched: no other is told. -/
theorem Handed.told_of_not_late {h : Handed} (hlate : h.late = false) (p : Panel) (t : Timing) (number : FrameNo) :
    h.told p t number = if h.stretched = true then
      toPlan p h.mediaOwned { panel := some p, frame := number, body := .frameStretched h.fixed h.length false } else [] := by
  rw [Handed.told, hlate]
  exact List.append_nil _

/-- The plan of frame 0: every band refreshed at POS, back to back. -/
theorem fullPlan_slot (t : Timing) (polarity : FramePolarity) {bs : List Band} {i : Nat} {b : Band} (hb : bs[i]? = some b) :
    (fullPlan t polarity (bs.map Band.lines)).slots[i]? =
      some { start := ((bs.take i).map fun b => b.lines * t.tLine + t.tSet).sum, cost := b.lines * t.tLine + t.tSet,
             kind := .refresh i polarity } := by
  have hcosts : ((bandItems t polarity (fun _ => true) 0 (bs.map Band.lines)).take i).map BandItem.cost =
      (bs.take i).map fun b => b.lines * t.tLine + t.tSet := by
    rw [List.map_take, bandItems_cost_of_all, List.map_map, ← List.map_take]
    rfl
  show (layDown [] 0 0 _)[i]? = _
  rw [getElem?_layDown_nil, bandItems_all_eq, List.getElem?_map, hb, hcosts, Nat.zero_add, Nat.zero_add]
  rfl

theorem fullPlan_length (t : Timing) (polarity : FramePolarity) (lines : List Nat) :
    (fullPlan t polarity lines).slots.length = lines.length :=
  (layDown_nil_length _ 0 0).trans (bandItems_length ..)

theorem fullPlan_tail (t : Timing) (polarity : FramePolarity) (lines : List Nat) :
    (fullPlan t polarity lines).tail = (lines.map (refreshCost t)).sum := by
  rw [fullPlan, bandPlan_tail, bandItems_cost_of_all]

theorem Touch.countDeferred_zero (p : Panel) (t : Touch) : t.countDeferred p 0 = t := by
  cases p with
  | cluster => rfl
  | centre => simp [Touch.countDeferred]

theorem startScanning_beginsScan {s : State} {p : Panel} (hlegal : (s.panel p).scanLegal)
    (hready : (s.panel p).power.state = .ready) :
    s.beginsScan (startScanning p s) p (max (s.panel p).timing.tNom (s.panel p).fullCost) := by
  have hhanded := s.firstHanded_beginScan p
  have hlent := s.lentNow_beginScan (p := p)
  have hrun := startScanning_eq p s
  generalize (s.updPanel p PanelState.beginScan).firstHanded p = h at hhanded hrun
  generalize (s.updPanel p PanelState.beginScan).lentNow p = lent at hhanded hlent
  have hpanel := PanelState.started_beginScan hlegal hready s.count (h := h) (by rw [hhanded]) (by rw [hhanded])
  have hmark : ((s.updPanel p PanelState.beginScan).frameStarted p h) =
      (s.setPanel p (PanelState.started s.count h (s.panel p).beginScan)).updPanel (otherPanel p)
        (PanelState.partnerMarked s.count) := by
    have hdeferred : h.deferred = 0 := by rw [hhanded]
    unfold State.frameStarted
    rw [hdeferred, Touch.countDeferred_zero]
    cases p <;> rfl
  subst hhanded
  refine ⟨by rw [PanelState.fullCost_eq], fullPlan (s.panel p).timing .pos ((s.panel p).bands.records.map Band.lines),
    decide (p = .centre) || lent, _, ?_, ?_, fun i b hb => fullPlan_slot _ _ hb, ?_, rfl, ?_⟩
  · rw [fullPlan_length, List.length_map]
  · rw [fullPlan_tail, List.map_map]
    rfl
  · rw [Bool.or_eq_true, decide_eq_true_eq, hlent]
    cases p with
    | centre => exact iff_of_true (.inl rfl) (.inl rfl)
    | cluster => simp [State.mediaBand]
  · rw [hrun, hmark, hpanel, Handed.told_of_not_late rfl]
    simp only [PanelState.fullCost_eq]
    cases p with
    | centre => rfl
    | cluster => cases lent <;> rfl

theorem startScanning_panel (p : Panel) (s : State) :
    (startScanning p s).panel p =
      PanelState.started s.count ((s.updPanel p PanelState.beginScan).firstHanded p) (s.panel p).beginScan := by
  rw [startScanning_eq, postAll_panel]
  cases p <;> rfl

/-- Settles O45: the checks of R141, and frame 0. -/
theorem panelStartByTable : Obligations.PanelStartByTable := by
  intro q tag p s htakes hlegal x
  refine ⟨fun panel hpanel => (exec_takes (r := .panelStart panel) htakes rfl).trans ?_, ?_⟩
  · simp only [serveRequest, servePanelStart, powerTarget_of_gt (panelOf_of_gt hpanel), Request.code]
  · refine answersWith_of_servedBy htakes (serve := servePanelStart q (panelNumber p)) ?_
    refine servedBy_powerTarget (fun h => by rw [servePanelStart, h]) fun h => ?_
    rw [servePanelStart, h]
    refine servedBy_ite (by decide) fun hready => servedBy_accept ⟨_, startScanning_beginsScan (hlegal p) (not_not.mp hready), ?_⟩
    rw [startScanning_panel]
    have hlength : ((s.updPanel p PanelState.beginScan).firstHanded p).length =
        max (s.panel p).timing.tNom (s.panel p).fullCost := by rw [State.firstHanded_beginScan]
    exact congrArg (fun n => Results.panelStart _ (some n)) hlength

/-! ### The timed steps -/

/-- A panel that stands still stays legal under any power block that stands still. -/
theorem PanelState.scanLegal.standing {x : PanelState} (h : x.scanLegal) (hx : x.power.state ≠ .scanning) {w : Power}
    (hw : w.state ≠ .scanning) : PanelState.scanLegal { x with power := w } := by
  obtain ⟨-, hstill, hdark⟩ := h
  exact ⟨fun hscan => absurd hscan hw, fun _ => hstill hx, fun _ => hdark (.inl hx)⟩

/-- Settles O46: each step's expiry, with the scan that an autostart mark begins and the drain of an absent power-good. -/
theorem powerStepsExpire : Obligations.PowerStepsExpire := by
  intro p s hreset x w now told
  have hdue : ∀ k, now k → s.stepDue p k = true := fun k h => by rw [State.stepDue, h, beq_self_eq_true]
  have hrun : ∀ {k : PowerStep} (f : State → State), now k →
      unlessReset s (fun s => if s.stepDue p k then f s else s) = f s := fun f h => by
    rw [unlessReset_run hreset, if_pos (hdue _ h)]
  have hready : postPanelState p .ramp .stepDone
      ((s.updPower p fun w => { w with powerGood := true }).updPower p fun w => { w with state := .ready, step := none }) =
      postAll (told .ramp .ready w.logicEn true)
        (s.setPanel p { x with power := { w with state := .ready, step := none, powerGood := true } }) := by
    rw [postPanelState_eq]
    cases p <;> rfl
  have hsettled : ∀ auto, w.autostart = auto → ((s.updPower p fun w => { w with powerGood := true }).panel p).power.autostart = auto :=
    fun auto h => by rw [← h]; cases p <;> rfl
  refine ⟨fun h => ?_, fun h hauto => ?_, fun h hauto hstate hlegal => ?_, fun h hlegal => ?_, fun h => ?_⟩
  · exact congrArg Host.Outcome.next (hrun (endGateWait p) h)
  · refine congrArg Host.Outcome.next ((hrun (endSettle p true) h).trans ?_)
    show reachReady p _ = _
    rw [reachReady, if_neg (Bool.eq_false_iff.mp (hsettled _ hauto)), hready]
  · let y : PanelState := { x with power := { w with state := .ready, step := none, powerGood := true } }
    have hpanel : (postAll (told .ramp .ready w.logicEn true) (s.setPanel p y)).panel p = y := by
      rw [postAll_panel, panel_setPanel]
    have hstill : y.scanLegal := (hlegal p).standing (by rw [hstate]; decide) (nomatch ·)
    refine ⟨_, max x.timing.tNom x.fullCost, congrArg Host.Outcome.next (hrun (endSettle p true) h), ?_⟩
    show State.beginsScan _ (reachReady p _) p _
    rw [reachReady, if_pos (hsettled _ hauto), hready]
    have hbegins := startScanning_beginsScan (s := postAll (told .ramp .ready w.logicEn true) (s.setPanel p y)) (p := p)
      (by rw [hpanel]; exact hstill) (by rw [hpanel])
    rwa [hpanel] at hbegins
  · obtain ⟨-, -, hids, -⟩ := hlegal
    refine ⟨_, congrArg Host.Outcome.next (hrun (endSettle p false) h), ?_⟩
    show State.drains _ (enterDrain p .powerAbsent (setPowerCause _)) p .powerAbsent
    have hcause : setPowerCause (s.updPower p fun w => { w with powerGood := false }) =
        { s.setPanel p { x with power := { w with powerGood := false } } with faults := { s.faults with power := true } } := by
      cases p <;> rfl
    rw [hcause]
    refine enterDrain_drains ?_ p .powerAbsent
    cases p <;> exact hids
  · refine congrArg Host.Outcome.next ((hrun (endDischarge p) h).trans ?_)
    rw [endDischarge, postPanelState_eq]
    cases p <;> rfl

end Sys2Proof.Machine

/-!
PROOF. The integrity checker: what a mismatch and the missing reports of a frame end do, and BAND_REPORT (O32).
-/

namespace Sys2Proof.Machine

open Sys2Proof

/-! ### One mismatch -/

/-- One more mismatch of the entry's band takes its count to the limit. -/
def State.missesAt (s : State) (y : Expectation) : Bool :=
  s.cluster.bands.records[y.band]?.any fun b => decide (s.mismatchLimit ≤ b.mismatches + 1)

theorem State.missesAt_iff {s : State} {y : Expectation} : s.missesAt y = true ↔ s.missesToLimit y := by
  rw [State.missesAt, Option.any_eq_true]
  simp only [decide_eq_true_eq]
  rfl

/-- A count that rises stays below the limit, or stands at it. -/
theorem limit_le_mismatch_iff (limit : Nat) (b : Band) :
    limit ≤ (b.mismatch limit).mismatches ↔ limit ≤ b.mismatches + 1 := by
  show limit ≤ min (b.mismatches + 1) limit ↔ _
  omega

/-- The INTEGRITY_FAULT of an entry (R80). -/
def State.faultTold (s : State) (y : Expectation) (received : Option Crc) : List (Port × Notice) :=
  s.cluster.bands.records[y.band]?.toList.map fun b =>
    (.supervisor, s.noticeOf .cluster
      (.integrityFault y.frame y.band y.crc received (min (b.mismatches + 1) s.mismatchLimit)))

/-- A mismatch counted, and the INTEGRITY cause set at the limit (R78, R79). -/
def State.missed (s : State) (y : Expectation) : State :=
  { s.updBands .cluster (modifyBand y.band (Band.mismatch s.mismatchLimit)) with
    faults := { s.faults with integrity := s.faults.integrity || s.missesAt y } }

/-- A mismatch is told when it sets the cause. -/
theorem countMismatch_eq (y : Expectation) (received : Option Crc) (s : State) :
    countMismatch y received s =
      postAll (if !s.faults.integrity && s.missesAt y then s.faultTold y received else []) (s.missed y) := by
  have hband : (s.updBands .cluster (modifyBand y.band (Band.mismatch s.mismatchLimit))).bandAt .cluster y.band =
      s.cluster.bands.records[y.band]?.map fun b =>
        { index := y.band
          first := (s.updBands .cluster (modifyBand y.band (Band.mismatch s.mismatchLimit))).cluster.bands.firstLine y.band
          band := b.mismatch s.mismatchLimit } := by
    rw [bandAt_eq]
    show (modifyBand y.band (Band.mismatch s.mismatchLimit) s.cluster.bands.records)[y.band]?.map _ = _
    rw [modifyBand_eq_modify, List.getElem?_modify_eq]
    exact Option.map_map ..
  rcases Option.eq_none_or_eq_some s.cluster.bands.records[y.band]? with hb | ⟨b, hb⟩
  · have hmisses : s.missesAt y = false := by rw [State.missesAt, hb]; rfl
    rw [hb] at hband
    simp only [countMismatch, hband, Option.map_none, State.missed, hmisses, Bool.and_false, Bool.or_false]
    rfl
  · have hmisses : s.missesAt y = decide (s.mismatchLimit ≤ b.mismatches + 1) := by rw [State.missesAt, hb]; rfl
    have htold : s.faultTold y received = [(.supervisor, s.noticeOf .cluster
        (.integrityFault y.frame y.band y.crc received (min (b.mismatches + 1) s.mismatchLimit)))] := by
      rw [State.faultTold, hb]; rfl
    rw [hb] at hband
    simp only [countMismatch, hband, Option.map_some, limit_le_mismatch_iff, State.missed, hmisses, htold]
    by_cases hlimit : s.mismatchLimit ≤ b.mismatches + 1
    · rw [if_pos hlimit, decide_eq_true hlimit, Bool.or_true, Bool.and_true]
      cases s.faults.integrity <;> rfl
    · rw [if_neg hlimit, decide_eq_false hlimit, Bool.or_false, Bool.and_false]
      rfl

/-! ### BAND_REPORT -/

theorem expectationFor_eq_none_iff {s : State} {frame : FrameNo} {band : Nat} :
    s.expectationFor .cluster frame band = none ↔
      ∀ e ∈ s.cluster.link.expectations, ¬(e.frame = frame ∧ e.band = band) := by
  rw [State.expectationFor, List.find?_eq_none]
  simp only [Bool.and_eq_true, beq_iff_eq]
  rfl

/-- Entries of different bands are told apart by their band. -/
theorem expectationFor_eq_some {s : State} (hapart : (s.cluster.link.expectations.map Expectation.band).Nodup)
    {e : Expectation} (he : e ∈ s.cluster.link.expectations) : s.expectationFor .cluster e.frame e.band = some e := by
  cases h : s.expectationFor .cluster e.frame e.band with
  | none => exact absurd ⟨rfl, rfl⟩ (expectationFor_eq_none_iff.mp h e he)
  | some e' =>
    have hfound := List.find?_some h
    simp only [Bool.and_eq_true, beq_iff_eq] at hfound
    rw [List.inj_on_of_nodup_map hapart (List.mem_of_find?_eq_some h) he hfound.2]

/-- Settles O32: what a report that matches no entry, an equal CRC, and another CRC do. -/
theorem bandReportsAreCompared : Obligations.BandReportsAreCompared := by
  intro frame band crc s hreset x
  have hrun : ∀ p, exec (.bandReport p frame band crc true) s = .next (takeReport p frame band crc s) := fun p =>
    congrArg Host.Outcome.next (unlessReset_run hreset)
  have hbad : ∀ p, exec (.bandReport p frame band crc false) s = .next s := fun p =>
    congrArg Host.Outcome.next (unlessReset_run hreset)
  refine ⟨hbad, fun ok => ?_, fun hnone => ?_, ?_⟩
  · cases ok with
    | true => exact hrun .centre
    | false => exact hbad .centre
  · rw [hrun, takeReport, expectationFor_eq_none_iff.mpr hnone]
  · rintro hapart e he rfl rfl b hb
    intro count after faulted run
    have hcompare : run = .next (compareReport e crc (dropExpectation e.band s)) := by
      show exec _ s = _
      rw [hrun, takeReport, expectationFor_eq_some hapart he]
    have hset : ∀ f : Band → Band, (dropExpectation e.band s).updBands .cluster (modifyBand e.band f) =
        { s with cluster := { x with
          bands := { x.bands with records := x.bands.records.set e.band (f b) }
          link := { x.link with expectations := x.link.expectations.filter fun y => y.band != e.band } } } := fun f =>
      congrArg (fun bs => ({ s with cluster := { x with
        bands := { x.bands with records := bs }
        link := { x.link with expectations := x.link.expectations.filter fun y => y.band != e.band } } } : State))
        (modifyBand_eq_set hb f)
    have hmisses : (dropExpectation e.band s).missesAt e = decide (s.mismatchLimit ≤ b.mismatches + 1) := by
      show (s.cluster.bands.records[e.band]?.any _) = _
      rw [hb]; rfl
    have htold : (dropExpectation e.band s).faultTold e (some crc) = [(.supervisor, s.noticeOf .cluster
        (.integrityFault e.frame e.band e.crc (some crc) count))] := by
      show (s.cluster.bands.records[e.band]?.toList.map _) = _
      rw [hb]; rfl
    have hmissed : (dropExpectation e.band s).missed e = { after count with
        faults := { s.faults with integrity := s.faults.integrity || decide (s.mismatchLimit ≤ b.mismatches + 1) } } := by
      rw [State.missed, hmisses, hset]
      rfl
    have htells : crc ≠ e.crc → run = .next (postAll
        (if !s.faults.integrity && decide (s.mismatchLimit ≤ b.mismatches + 1) then [(.supervisor, s.noticeOf .cluster
          (.integrityFault e.frame e.band e.crc (some crc) count))] else [])
        { after count with
          faults := { s.faults with integrity := s.faults.integrity || decide (s.mismatchLimit ≤ b.mismatches + 1) } }) :=
      fun hne => by
        rw [hcompare, compareReport, if_neg hne, countMismatch_eq, hmisses, hmissed, htold]
        rfl
    refine ⟨fun heq => ?_, fun hne hbelow => ?_, fun hne hlimit hcause => ?_, fun hne hlimit hcause => ?_⟩
    · rw [hcompare, compareReport, if_pos heq, hset]
    · rw [htells hne, decide_eq_false (Nat.not_le.mpr hbelow), Bool.and_false, Bool.or_false]
      rfl
    · rw [htells hne, decide_eq_true hlimit, hcause]
      rfl
    · rw [htells hne, decide_eq_true hlimit, hcause]
      rfl

/-! ### The missing reports of a frame end -/

/-- The bands of these entries have one more mismatch. -/
def missedRecords (limit : Nat) (es : List Expectation) (bs : List Band) : List Band :=
  es.foldl (fun bs y => modifyBand y.band (Band.mismatch limit) bs) bs

theorem getElem?_missedRecords (limit : Nat) (es : List Expectation) (hapart : (es.map Expectation.band).Nodup) (i : Nat) :
    ∀ bs : List Band, (missedRecords limit es bs)[i]? =
      bs[i]?.map fun b => if es.any (fun y => y.band == i) then b.mismatch limit else b := by
  induction es with
  | nil => intro bs; simp [missedRecords]
  | cons y es ih =>
    intro bs
    obtain ⟨hnotin, hrest⟩ := List.nodup_cons.mp hapart
    have hstep : missedRecords limit (y :: es) bs =
        missedRecords limit es (modifyBand y.band (Band.mismatch limit) bs) := rfl
    rw [hstep, ih hrest, modifyBand_eq_modify, List.getElem?_modify]
    by_cases hband : y.band = i
    · have hother : es.any (fun z => z.band == i) = false := by
        rw [List.any_eq_false]
        intro z hz
        rw [beq_iff_eq]
        exact fun heq => hnotin (List.mem_map.mpr ⟨z, hz, heq.trans hband.symm⟩)
      simp [hband, hother, Function.comp_def]
    · simp [hband]

/-- The INTEGRITY_FAULT of the first entry whose missing report reaches the limit. -/
def State.firstMissing (s : State) : List Expectation → List (Port × Notice)
  | [] => []
  | y :: es => if s.missesAt y then s.faultTold y none else s.firstMissing es

/-- What the entries that are missing tell: nothing where the cause was set. -/
def State.missingNotices (s : State) (es : List Expectation) : List (Port × Notice) :=
  if s.faults.integrity then [] else s.firstMissing es

/-- Every entry counted as missing. -/
def State.allMissed (s : State) (es : List Expectation) : State :=
  { s.updBands .cluster (missedRecords s.mismatchLimit es) with
    faults := { s.faults with integrity := s.faults.integrity || es.any s.missesAt } }

theorem PostsThrough.missed (y : Expectation) : PostsThrough fun s => s.missed y :=
  ⟨fun _ => rfl, fun _ => rfl, fun _ => rfl, fun _ _ _ => rfl⟩

theorem PostsThrough.allMissed (es : List Expectation) : PostsThrough fun s => s.allMissed es :=
  ⟨fun _ => rfl, fun _ => rfl, fun _ => rfl, fun _ _ _ => rfl⟩

/-- An entry missing leaves the records of the others. -/
theorem State.missed_record {s : State} {y z : Expectation} (h : y.band ≠ z.band) :
    (s.missed y).cluster.bands.records[z.band]? = s.cluster.bands.records[z.band]? := by
  show (modifyBand y.band (Band.mismatch s.mismatchLimit) s.cluster.bands.records)[z.band]? = _
  rw [modifyBand_eq_modify, List.getElem?_modify_ne _ _ h]

theorem State.missesAt_missed {s : State} {y z : Expectation} (h : y.band ≠ z.band) :
    (s.missed y).missesAt z = s.missesAt z := by
  rw [State.missesAt, State.missed_record h]; rfl

theorem State.firstMissing_missed {s : State} {y : Expectation} {es : List Expectation}
    (h : ∀ z ∈ es, y.band ≠ z.band) : (s.missed y).firstMissing es = s.firstMissing es := by
  induction es with
  | nil => rfl
  | cons z es ih =>
    have hz := h z List.mem_cons_self
    have htold : (s.missed y).faultTold z none = s.faultTold z none := by
      rw [State.faultTold, State.missed_record hz]; rfl
    rw [State.firstMissing, State.firstMissing, State.missesAt_missed hz, htold, ih fun w hw => h w (List.mem_cons_of_mem z hw)]

theorem State.missingNotices_postAll (told : List (Port × Notice)) (s : State) (es : List Expectation) :
    (postAll told s).missingNotices es = s.missingNotices es := by
  have hmisses : ∀ y, (postAll told s).missesAt y = s.missesAt y := fun y => by
    rw [State.missesAt, postAll_cluster, postAll_mismatchLimit]; rfl
  have htold : ∀ y, (postAll told s).faultTold y none = s.faultTold y none := fun y => by
    have hnotice : ∀ b, (postAll told s).noticeOf .cluster b = s.noticeOf .cluster b :=
      fun b => noticeOf_congr (by rw [postAll_panel]) b
    simp only [State.faultTold, postAll_cluster, postAll_mismatchLimit, hnotice]
  have hfirst : (postAll told s).firstMissing es = s.firstMissing es := by
    induction es with
    | nil => rfl
    | cons y es ih => rw [State.firstMissing, State.firstMissing, hmisses, htold, ih]
  rw [State.missingNotices, State.missingNotices, postAll_faults, hfirst]

/-- The entries judged one after the other. -/
theorem foldl_countMismatch (es : List Expectation) : ∀ s : State, (es.map Expectation.band).Nodup →
    es.foldl (fun s y => countMismatch y none s) s = postAll (s.missingNotices es) (s.allMissed es) := by
  induction es with
  | nil =>
    intro s _
    have hall : s.allMissed [] = s := by
      unfold State.allMissed
      rw [List.any_nil, Bool.or_false]
      rfl
    have hnone : s.missingNotices [] = [] := by
      unfold State.missingNotices State.firstMissing
      exact ite_self _
    rw [hall, hnone]
    rfl
  | cons y es ih =>
    intro s hapart
    obtain ⟨hnotin, hrest⟩ := List.nodup_cons.mp hapart
    have hothers : ∀ z ∈ es, y.band ≠ z.band := fun z hz heq => hnotin (List.mem_map.mpr ⟨z, hz, heq.symm⟩)
    have hany : es.any (s.missed y).missesAt = es.any s.missesAt :=
      Bool.eq_iff_iff.mpr (by
        simp only [List.any_eq_true]
        exact exists_congr fun z => and_congr_right fun hz => by rw [State.missesAt_missed (hothers z hz)])
    have hall : (s.missed y).allMissed es = s.allMissed (y :: es) := by
      unfold State.allMissed
      rw [hany, List.any_cons, ← Bool.or_assoc]
      rfl
    have htold : (if !s.faults.integrity && s.missesAt y then s.faultTold y none else []) ++
        (s.missed y).missingNotices es = s.missingNotices (y :: es) := by
      have hcause : (s.missed y).faults.integrity = (s.faults.integrity || s.missesAt y) := rfl
      rw [State.missingNotices, State.missingNotices, hcause, State.firstMissing_missed hothers, State.firstMissing]
      cases s.faults.integrity <;> cases s.missesAt y <;> simp
    rw [List.foldl_cons, countMismatch_eq, ih _ hrest, State.missingNotices_postAll, (PostsThrough.allMissed es).postAll,
      ← postAll_append, hall, htold]

end Sys2Proof.Machine

/-!
PROOF. The frame-end work of every block as one state and its notices, in order (3.7).
-/

namespace Sys2Proof.Machine

open Sys2Proof

/-! ### The missing reports -/

theorem State.firstMissing_of_none {s : State} {es : List Expectation} (h : ∀ y ∈ es, ¬s.missesToLimit y) :
    s.firstMissing es = [] := by
  induction es with
  | nil => rfl
  | cons y es ih =>
    have hy : ¬s.missesAt y = true := mt State.missesAt_iff.mp (h y List.mem_cons_self)
    rw [State.firstMissing, if_neg hy, ih fun z hz => h z (List.mem_cons_of_mem y hz)]

theorem State.firstMissing_append {s : State} {before after : List Expectation} {y : Expectation}
    (hbefore : ∀ z ∈ before, ¬s.missesToLimit z) (hy : s.missesToLimit y) :
    s.firstMissing (before ++ y :: after) = s.faultTold y none := by
  induction before with
  | nil => exact if_pos (State.missesAt_iff.mpr hy)
  | cons z before ih =>
    have hz : ¬s.missesAt z = true := mt State.missesAt_iff.mp (hbefore z List.mem_cons_self)
    rw [List.cons_append, State.firstMissing, if_neg hz, ih fun w hw => hbefore w (List.mem_cons_of_mem z hw)]

/-- The notices of the missing reports at a frame end of the panel. -/
def State.missingOn (s : State) : Panel → List (Port × Notice)
  | .cluster => s.missingNotices s.cluster.link.expectations
  | .centre => []

theorem State.missingTold_missingOn (s : State) (p : Panel) : s.missingTold p (s.missingOn p) := by
  cases p with
  | centre => exact ⟨fun _ => rfl, fun h => nomatch h⟩
  | cluster =>
    refine ⟨?_, ?_⟩
    · rintro (h | h | h)
      · cases h
      · exact if_pos h
      · exact (congrArg (fun l => if s.faults.integrity then [] else l) (State.firstMissing_of_none h)).trans (ite_self _)
    · intro _ hclear before y after b hsplit hbefore hb hlimit
      rw [State.missingOn, State.missingNotices, hclear, hsplit, State.firstMissing_append hbefore ⟨b, hb, hlimit⟩,
        State.faultTold, hb]
      rfl

/-! ### The grants of the panel -/

/-- The grants on the panel that expire at its frame end (R135). -/
def State.expiring (s : State) (p : Panel) : List Grant :=
  s.grants.records.filter fun g => decide (g.panel = p) && decide (g.lifetime ≤ g.held + 1)

theorem State.mem_expiring {s : State} {p : Panel} {g : Grant} :
    g ∈ s.expiring p ↔ g ∈ s.grants.records ∧ g.panel = p ∧ g.lifetime ≤ g.held + 1 := by
  simp [State.expiring]

/-- A grant one frame later. -/
def Grant.heldOn (p : Panel) (g : Grant) : Grant := if g.panel = p then { g with held := g.held + 1 } else g

/-- The GRANT_EXPIRED notices of a frame end (R137). -/
def State.expiredTold (s : State) (p : Panel) : List (Port × Notice) :=
  (s.expiring p).map fun g => (g.port, s.noticeOf p (.grantExpired g.id g.state (g.held + 1) (g.last + 1 - g.first)))

/-- Expiring grants one after the other ends all of them and tells each of their ports. -/
theorem expireAll_eq (gone : List Grant) (s : State) :
    gone.foldl expireGrant s = postAll
      (gone.map fun g => (g.port, s.noticeOf g.panel (.grantExpired g.id g.state g.held (g.last + 1 - g.first))))
      (s.endGrants gone) := by
  induction gone generalizing s with
  | nil => exact (State.endGrants_nil s).symm
  | cons g gone ih =>
    have hnotice : ∀ (told : List (Port × Notice)) (p : Panel) (b : NoticeBody),
        (postAll told (s.endGrants [g])).noticeOf p b = s.noticeOf p b := fun told p b =>
      (noticeOf_congr (by rw [postAll_panel]) b).trans (State.noticeOf_endGrants s [g] p b)
    rw [List.foldl_cons, ih, expireGrant_eq, post_eq_postAll, (PostsThrough.endGrants gone).postAll, State.endGrants_append,
      ← postAll_append]
    simp only [hnotice]
    rfl

/-- Grants of one panel end: the bands of the other panel stay. -/
theorem State.endGrants_on {s : State} {p : Panel} {gone : List Grant} (h : ∀ g ∈ gone, g.panel = p) :
    s.endGrants gone = { s.updBands p (markWhere fun x => gone.any fun g => g.covers p x.index) with
      grants := { s.grants with records := s.grants.records.filter fun x => gone.all fun g => x.id != g.id } } := by
  have hother : ∀ q, q ≠ p → ∀ bs : List Band, markWhere (fun x => gone.any fun g => g.covers q x.index) bs = bs :=
    fun q hq bs => by
      have hnone : (fun x : Placed => gone.any fun g => g.covers q x.index) = fun _ => false := funext fun x => by
        rw [List.any_eq_false]
        intro g hg
        simp [Grant.covers, h g hg, hq.symm]
      rw [hnone, markIndices_false]
  unfold State.endGrants
  cases p with
  | cluster => rw [hother .centre (by decide)]; rfl
  | centre => rw [hother .cluster (by decide)]; rfl

theorem raiseHeld_expired (s : State) (p : Panel) : (raiseHeld p s).expired p = (s.expiring p).map Grant.hold := by
  have hrecords : (raiseHeld p s).grants.records = s.grants.records.map (Grant.heldOn p) := rfl
  rw [State.expired, hrecords, List.filter_map, State.expiring]
  have htest : ((fun g => decide (g.panel = p) && decide (g.lifetime ≤ g.held)) ∘ Grant.heldOn p) =
      fun g : Grant => decide (g.panel = p) && decide (g.lifetime ≤ g.held + 1) := funext fun g => by
    by_cases hp : g.panel = p <;> simp [Grant.heldOn, hp]
  rw [htest]
  refine List.map_congr_left fun g hg => ?_
  have hp : g.panel = p := (State.mem_expiring.mp hg).2.1
  exact if_pos hp

/-- The panel's grants at a frame end: those at their limit expire, the others are held one frame longer. -/
def State.grantsHeld (s : State) (p : Panel) : State :=
  { s.updBands p (markWhere fun x => (s.expiring p).any fun g => g.covers p x.index) with
    grants := { s.grants with
      records := (s.grants.records.filter fun g => decide (g ∉ s.expiring p)).map (Grant.heldOn p) } }

theorem Grant.heldOn_id (p : Panel) (g : Grant) : (g.heldOn p).id = g.id := by
  unfold Grant.heldOn
  split <;> rfl

theorem grantFrameEnd_eq {s : State} (hids : s.grants.records.Pairwise idsApart) (p : Panel) :
    grantFrameEnd p s = postAll (s.expiredTold p) (s.grantsHeld p) := by
  have hon : ∀ g ∈ (s.expiring p).map Grant.hold, g.panel = p := fun g hg => by
    obtain ⟨y, hy, rfl⟩ := List.mem_map.mp hg
    exact (State.mem_expiring.mp hy).2.1
  have hrecords : ((s.grants.records.map (Grant.heldOn p)).filter fun x =>
      ((s.expiring p).map Grant.hold).all fun g => x.id != g.id) =
      (s.grants.records.filter fun g => decide (g ∉ s.expiring p)).map (Grant.heldOn p) := by
    rw [List.filter_map]
    refine congrArg (List.map (Grant.heldOn p)) (List.filter_congr fun x hx => ?_)
    rw [Bool.eq_iff_iff, Function.comp_apply, List.all_map, List.all_eq_true, decide_eq_true_eq]
    constructor
    · intro h hmem
      simpa [Grant.heldOn_id, Grant.hold] using h x hmem
    · intro hmem g hg
      rw [Function.comp_apply, Grant.heldOn_id, bne_iff_ne]
      exact fun heq => hmem (eq_of_id_eq hids hx (State.mem_expiring.mp hg).1 heq ▸ hg)
  have hcovers : (fun x : Placed => ((s.expiring p).map Grant.hold).any fun g => g.covers p x.index) =
      fun x => (s.expiring p).any fun g => g.covers p x.index := funext fun x => by
    rw [List.any_map]; rfl
  have htold : ((s.expiring p).map Grant.hold).map (fun g =>
      (g.port, (raiseHeld p s).noticeOf g.panel (.grantExpired g.id g.state g.held (g.last + 1 - g.first)))) =
      s.expiredTold p := by
    rw [List.map_map]
    refine List.map_congr_left fun g hg => ?_
    have hp : g.panel = p := (State.mem_expiring.mp hg).2.1
    rw [← hp]
    rfl
  unfold grantFrameEnd
  simp only [raiseHeld_expired]
  rw [expireAll_eq, htold, State.endGrants_on hon, hcovers]
  have hgrants : (raiseHeld p s).grants.records = s.grants.records.map (Grant.heldOn p) := rfl
  rw [hgrants, hrecords]
  cases p <;> rfl

/-! ### The dimmer, the integrity checker and the report -/

/-- The dimmer's part of a frame end (R107, R110, R111). -/
def PanelState.dimmed (x : PanelState) : PanelState :=
  if x.power.stopPending then x
  else { x with dimmer := { x.dimmer.takeDuty with enable := x.dimmer.enable || decide (x.frame.number = 0) } }

/-- Nothing of the panel but its dimmer changes. -/
theorem PanelState.dimmed_eq (x : PanelState) : x.dimmed = { x with dimmer := x.dimmed.dimmer } := by
  unfold PanelState.dimmed
  split <;> rfl

theorem dimFrameEnd_eq (p : Panel) (s : State) : dimFrameEnd p s = s.updPanel p PanelState.dimmed := by
  rw [updPanel_eq_setPanel, PanelState.dimmed, dimFrameEnd]
  split
  · exact (setPanel_panel_self s p).symm
  · rfl

/-- The entries left on the cluster are judged and leave (R79). -/
def State.judged (s : State) : Panel → State
  | .centre => s
  | .cluster => (s.allMissed s.cluster.link.expectations).updPanel .cluster fun x =>
      { x with link := { x.link with expectations := [] } }

theorem PostsThrough.judged (p : Panel) : PostsThrough fun s => s.judged p := by
  cases p <;> exact ⟨fun _ => rfl, fun _ => rfl, fun _ => rfl, fun _ _ _ => rfl⟩

theorem judgeMissing_eq {s : State} (hapart : s.expectationsApart) (p : Panel) :
    judgeMissing p s = postAll (s.missingOn p) (s.judged p) := by
  cases p with
  | centre => rfl
  | cluster =>
    rw [judgeMissing, foldl_countMismatch _ s hapart, postAll_updPanel]
    rfl

theorem State.missingOn_postAll (told : List (Port × Notice)) (s : State) (p : Panel) :
    (postAll told s).missingOn p = s.missingOn p := by
  cases p with
  | centre => rfl
  | cluster => rw [State.missingOn, postAll_cluster, State.missingNotices_postAll]; rfl

/-- The FRAME_REPORT of a frame end, to each port subscribed (R65). -/
def State.reportTold (s : State) (p : Panel) : List (Port × Notice) :=
  (if (s.panel p).builder.subSupervisor = true then [(.supervisor, s.noticeOf p (s.panel p).frameReport)] else []) ++
    (if (s.panel p).builder.subMedia = true then [(.media, s.noticeOf p (s.panel p).frameReport)] else [])

theorem reportFrame_eq (p : Panel) (s : State) : reportFrame p s = postAll (s.reportTold p) s := by
  unfold State.reportTold
  rw [postAll_append]
  by_cases hsupervisor : (s.panel p).builder.subSupervisor = true <;> by_cases hmedia : (s.panel p).builder.subMedia = true <;>
    simp only [reportFrame, hsupervisor, hmedia, if_true, if_false, Bool.false_eq_true, postAll_nil, postAll_singleton,
      panelNotice_eq_noticeOf]

theorem State.reportTold_postAll (told : List (Port × Notice)) (s : State) (p : Panel) :
    (postAll told s).reportTold p = s.reportTold p := by
  have hnotice : ∀ b, (postAll told s).noticeOf p b = s.noticeOf p b := fun b => noticeOf_congr (by rw [postAll_panel]) b
  simp only [State.reportTold, postAll_panel, hnotice]

theorem State.reportTold_updDimmer (s : State) (p : Panel) (f : Dimmer → Dimmer) :
    (s.updDimmer p f).reportTold p = s.reportTold p := by
  cases p <;> rfl

/-! ### What the work of the other blocks leaves to the checker -/

/-- The missing reports tell the same where limits, causes, counts and the frame number are the same. -/
theorem State.missingNotices_congr {s t : State} (hlimit : t.mismatchLimit = s.mismatchLimit)
    (hcause : t.faults = s.faults) (hnumber : t.cluster.frame.number = s.cluster.frame.number)
    (hcounts : t.cluster.bands.records.map Band.mismatches = s.cluster.bands.records.map Band.mismatches)
    (es : List Expectation) : t.missingNotices es = s.missingNotices es := by
  have hcount : ∀ i : Nat, t.cluster.bands.records[i]?.map Band.mismatches = s.cluster.bands.records[i]?.map Band.mismatches :=
    fun i => by rw [← List.getElem?_map, ← List.getElem?_map, hcounts]
  have hnotice : ∀ b, t.noticeOf .cluster b = s.noticeOf .cluster b := fun b =>
    noticeOf_congr (s := s) (t := t) (p := .cluster) hnumber b
  have hmissesAt : ∀ (u : State) (y : Expectation), u.missesAt y =
      (u.cluster.bands.records[y.band]?.map Band.mismatches).any fun n => decide (u.mismatchLimit ≤ n + 1) := fun u y => by
    rw [Option.any_map]; rfl
  have hfaultTold : ∀ (u : State) (y : Expectation), u.faultTold y none =
      (u.cluster.bands.records[y.band]?.map Band.mismatches).toList.map fun n =>
        (.supervisor, u.noticeOf .cluster (.integrityFault y.frame y.band y.crc none (min (n + 1) u.mismatchLimit))) :=
    fun u y => by rw [Option.toList_map, List.map_map]; rfl
  have hfirst : t.firstMissing es = s.firstMissing es := by
    induction es with
    | nil => rfl
    | cons y es ih =>
      simp only [State.firstMissing, hmissesAt, hfaultTold, hcount, hlimit, hnotice, ih]
  rw [State.missingNotices, State.missingNotices, hcause, hfirst]

/-- The bands at a frame end before the integrity checker's work: holds risen, grants ended. -/
def State.beforeJudging (s : State) (p : Panel) : State := (ageTouch p (raiseHolds p s)).grantsHeld p

/-- A frame end's work of every block but the dimmer, the notices apart. -/
def State.worked (s : State) (p : Panel) : State := (s.beforeJudging p).judged p

/-- The notices of the frame-end work, in order (log entry 16). -/
def State.workTold (s : State) (p : Panel) : List (Port × Notice) :=
  s.expiredTold p ++ s.missingOn p ++ s.reportTold p

theorem mapBands_field {α : Type} {f : Placed → Band} {g : Band → α} (h : ∀ x, g (f x) = g x.band) (bs : List Band) :
    ∀ i l : Nat, (mapBands f i l bs).map g = bs.map g := by
  induction bs with
  | nil => intro i l; rfl
  | cons b bs ih => intro i l; rw [mapBands, List.map_cons, List.map_cons, h, ih]

theorem State.beforeJudging_mismatches (s : State) :
    (s.beforeJudging .cluster).cluster.bands.records.map Band.mismatches = s.cluster.bands.records.map Band.mismatches := by
  show (mapBands _ 0 0 (mapBands _ 0 0 s.cluster.bands.records)).map Band.mismatches = _
  rw [mapBands_field, mapBands_field]
  · intro x
    show Band.mismatches (if _ then _ else _) = _
    split <;> rfl
  · intro x
    show Band.mismatches (if _ then _ else _) = _
    split <;> rfl

theorem State.missingOn_beforeJudging (s : State) (p : Panel) : (s.beforeJudging p).missingOn p = s.missingOn p := by
  cases p with
  | centre => rfl
  | cluster =>
    show (s.beforeJudging .cluster).missingNotices s.cluster.link.expectations = _
    exact State.missingNotices_congr (s := s) (t := s.beforeJudging .cluster) rfl rfl rfl s.beforeJudging_mismatches
      s.cluster.link.expectations

/-- The integrity checker does not ask the dimmer. -/
theorem State.missingOn_updDimmer (s : State) (p : Panel) (f : Dimmer → Dimmer) :
    (s.updDimmer p f).missingOn p = s.missingOn p := by
  cases p with
  | centre => rfl
  | cluster => exact State.missingNotices_congr (s := s) (t := s.updDimmer .cluster f) rfl rfl rfl rfl s.cluster.link.expectations

theorem State.judged_updDimmer (s : State) (p : Panel) (f : Dimmer → Dimmer) :
    (s.updDimmer p f).judged p = (s.judged p).updDimmer p f := by
  cases p <;> rfl

theorem State.judged_beside (s : State) (p : Panel) :
    ((s.judged p).panel p).dimmer = (s.panel p).dimmer ∧ ((s.judged p).panel p).power = (s.panel p).power ∧
      ((s.judged p).panel p).frame = (s.panel p).frame ∧ (s.judged p).reportTold p = s.reportTold p := by
  cases p <;> exact ⟨rfl, rfl, rfl, rfl⟩

/-- The dimmer's work asks the dimmer, the marks and the frame number alone. -/
theorem updPanel_dimmed_eq {s t : State} {p : Panel} (hdimmer : (t.panel p).dimmer = (s.panel p).dimmer)
    (hpower : (t.panel p).power = (s.panel p).power) (hframe : (t.panel p).frame = (s.panel p).frame) :
    t.updPanel p PanelState.dimmed = t.updDimmer p fun _ => (s.panel p).dimmed.dimmer := by
  have hdimmed : (t.panel p).dimmed.dimmer = (s.panel p).dimmed.dimmer := by
    unfold PanelState.dimmed
    rw [hpower, hdimmer, hframe]
    split
    · exact hdimmer
    · rfl
  rw [updPanel_eq_setPanel, PanelState.dimmed_eq, hdimmed]
  rfl

theorem State.beforeJudging_beside (s : State) (p : Panel) :
    (s.beforeJudging p).cluster.link = s.cluster.link ∧ (s.beforeJudging p).reportTold p = s.reportTold p ∧
      ((s.beforeJudging p).panel p).dimmer = (s.panel p).dimmer ∧
      ((s.beforeJudging p).panel p).power = (s.panel p).power ∧ ((s.beforeJudging p).panel p).frame = (s.panel p).frame := by
  cases p <;> exact ⟨rfl, rfl, rfl, rfl, rfl⟩

theorem grantFrameEnd_beforeJudging {s : State} (hids : s.grants.records.Pairwise idsApart) (p : Panel) :
    grantFrameEnd p (ageTouch p (raiseHolds p s)) = postAll (s.expiredTold p) (s.beforeJudging p) := by
  have hgrants : (ageTouch p (raiseHolds p s)).grants = s.grants := by cases p <;> rfl
  rw [grantFrameEnd_eq (hgrants ▸ hids)]
  cases p <;> rfl

/-- The frame-end work: every block's part, the dimmer's among them, and the notices in order. -/
theorem frameEndWork_eq {s : State} (hids : s.grants.records.Pairwise idsApart) (hapart : s.expectationsApart) (p : Panel) :
    frameEndWork p s = postAll (s.workTold p) ((s.worked p).updDimmer p fun _ => (s.panel p).dimmed.dimmer) := by
  obtain ⟨hlink, hreport, hdimmer, hpower, hframe⟩ := s.beforeJudging_beside p
  have hapart' : ∀ (told : List (Port × Notice)) (f : Dimmer → Dimmer),
      (postAll told ((s.beforeJudging p).updDimmer p f)).expectationsApart := fun told f => by
    have hkept : ((s.beforeJudging p).updDimmer p f).cluster.link = (s.beforeJudging p).cluster.link := by cases p <;> rfl
    rw [State.expectationsApart, postAll_cluster, hkept, hlink]
    exact hapart
  unfold frameEndWork
  rw [grantFrameEnd_beforeJudging hids, dimFrameEnd_eq, postAll_updPanel, updPanel_dimmed_eq hdimmer hpower hframe,
    judgeMissing_eq (hapart' _ _), State.missingOn_postAll, State.missingOn_updDimmer, State.missingOn_beforeJudging,
    (PostsThrough.judged p).postAll, reportFrame_eq, ← postAll_append, ← postAll_append, State.judged_updDimmer,
    State.reportTold_postAll, State.reportTold_postAll, State.reportTold_updDimmer, (State.judged_beside ..).2.2.2, hreport,
    State.workTold, List.append_assoc]
  rfl

/-! ### The work as the statements say it -/

theorem length_eq_of_getElem?_map {α β : Type} {xs : List α} {ys : List β} {f : Nat → α → β}
    (h : ∀ i : Nat, ys[i]? = xs[i]?.map (f i)) : ys.length = xs.length := by
  have hnone : ∀ i, ys.length ≤ i ↔ xs.length ≤ i := fun i => by
    rw [← List.getElem?_eq_none_iff, ← List.getElem?_eq_none_iff, h, Option.map_eq_none_iff]
  exact Nat.le_antisymm ((hnone _).mpr le_rfl) ((hnone _).mp le_rfl)

theorem getElem?_mapBands (f : Placed → Band) (t : BandTable) (i : Nat) :
    (mapBands f 0 0 t.records)[i]? = t.records[i]?.map fun b => f (t.placedAt i b) := by
  have hplaced : placeBands 0 0 t.records = t.placed := rfl
  rw [mapBands_eq_map, List.getElem?_map, hplaced, BandTable.getElem?_placed, Option.map_map]
  rfl

/-- The bands at a frame end once holds have risen and grants have ended. -/
theorem State.getElem?_beforeJudging {s : State} {p : Panel} {e : Executing} (hseq : (s.panel p).seq = some e) (i : Nat) :
    ((s.beforeJudging p).panel p).bands.records[i]? = (s.panel p).bands.records[i]?.map fun b => { b with
      hold := if e.plan.skipsBand i = true then min (b.hold + 1) b.holdLimit else b.hold
      dirty := b.dirty || (s.expiring p).any fun g => g.covers p i } := by
  have hrecords : ((s.beforeJudging p).panel p).bands.records =
      markWhere (fun x => (s.expiring p).any fun g => g.covers p x.index)
        (mapBands (fun b => if (s.panel p).skips b.index then b.band.held else b.band) 0 0 (s.panel p).bands.records) := by
    cases p <;> rfl
  have hskips : (s.panel p).skips i = e.plan.skipsBand i := by rw [PanelState.skips, hseq]; rfl
  rw [hrecords, getElem?_markIndices fun i => (s.expiring p).any fun g => g.covers p i, getElem?_mapBands, Option.map_map]
  refine congrArg (fun f => (s.panel p).bands.records[i]?.map f) (funext fun b => ?_)
  have hheld : (if (s.panel p).skips i = true then b.held else b) =
      { b with hold := if e.plan.skipsBand i = true then min (b.hold + 1) b.holdLimit else b.hold } := by
    rw [hskips]
    split <;> rfl
  exact congrArg (fun c : Band => { c with dirty := c.dirty || (s.expiring p).any fun g => g.covers p i }) hheld

/-- A panel's band records after the frame-end work. -/
theorem State.getElem?_worked {s : State} (hapart : s.expectationsApart) {p : Panel} {e : Executing}
    (hseq : (s.panel p).seq = some e) (i : Nat) :
    ((s.worked p).panel p).bands.records[i]? = (s.panel p).bands.records[i]?.map fun b => { b with
      hold := if e.plan.skipsBand i = true then min (b.hold + 1) b.holdLimit else b.hold
      dirty := b.dirty || (s.expiring p).any fun g => g.covers p i
      mismatches :=
        if (decide (p = .cluster) && (s.panel p).link.expectations.any fun y => y.band == i) = true then
          min (b.mismatches + 1) s.mismatchLimit
        else b.mismatches } := by
  have hbefore := State.getElem?_beforeJudging hseq i
  cases p with
  | centre => exact hbefore
  | cluster =>
    have hrecords : ((s.worked .cluster).panel .cluster).bands.records =
        missedRecords s.mismatchLimit s.cluster.link.expectations ((s.beforeJudging .cluster).panel .cluster).bands.records := rfl
    rw [hrecords, getElem?_missedRecords _ _ hapart, hbefore, Option.map_map]
    refine congrArg (fun f => (s.panel .cluster).bands.records[i]?.map f) (funext fun b => ?_)
    have hpanel : s.panel .cluster = s.cluster := rfl
    rw [Function.comp_apply, decide_eq_true rfl, Bool.true_and, hpanel]
    by_cases hmissed : (s.cluster.link.expectations.any fun y => y.band == i) = true
    · rw [if_pos hmissed, if_pos hmissed]; rfl
    · rw [if_neg hmissed, if_neg hmissed]

/-- A mismatch at the limit sets the cause, and nothing clears it. -/
theorem State.worked_integrity (s : State) (p : Panel) :
    (s.worked p).faults.integrity = true ↔ s.faults.integrity = true ∨
      (p = .cluster ∧ ∃ y ∈ s.cluster.link.expectations, s.missesToLimit y) := by
  cases p with
  | centre => exact (or_iff_left fun h => nomatch h.1).symm
  | cluster =>
    have hcounts : ((s.beforeJudging .cluster).cluster.bands.records.map Band.mismatches) =
        s.cluster.bands.records.map Band.mismatches := State.beforeJudging_mismatches s
    have hmisses : ∀ y, (s.beforeJudging .cluster).missesAt y = true ↔ s.missesToLimit y := fun y => by
      rw [← State.missesAt_iff, ← Bool.eq_iff_iff]
      have hcount := congrArg (fun l : List Nat => l[y.band]?.any fun n => decide (s.mismatchLimit ≤ n + 1)) hcounts
      simp only [List.getElem?_map, Option.any_map] at hcount
      exact hcount
    show (s.faults.integrity || s.cluster.link.expectations.any (s.beforeJudging .cluster).missesAt) = true ↔ _
    simp only [Bool.or_eq_true, List.any_eq_true, hmisses, true_and]

theorem State.worked_endsFrame {s : State} (hapart : s.expectationsApart)
    {p : Panel} {e : Executing} {length : Nat} (hseq : (s.panel p).seq = some e)
    (hlength : (s.panel p).frame.length = some length) : s.endsFrame (s.worked p) p e length (s.workTold p) := by
  have hrecords := State.getElem?_worked hapart hseq
  have hreport : (s.panel p).frameReport = .frameReport length e.stretched e.late e.refreshed e.touches e.deferred := by
    rw [PanelState.frameReport, hseq, hlength]; rfl
  refine ⟨s.expiring p, ((s.worked p).panel p).bands.records, (s.worked p).faults.integrity, s.missingOn p,
    s.selects_filter fun g _ => by simp, s.missingTold_missingOn p, s.worked_integrity p, ?_, fun i b hb => ?_, ?_, ?_⟩
  · exact length_eq_of_getElem?_map hrecords
  · rw [hrecords, hb]; rfl
  · rw [State.workTold, State.reportTold, hreport, ← List.append_assoc]
    rfl
  · cases p <;> rfl

end Sys2Proof.Machine

/-!
PROOF. What leaves the running of the panels alone (`StillFrame`): posting, ending grants, marking bands, judging reports. It
keeps of each panel everything but the flags, hold counts and checks of its bands, its link and its watches.
-/

namespace Sys2Proof.Machine

open Sys2Proof

/-! ### What stays -/

/-- What of a band the plans go by: its lines and its balance. -/
def Band.carried (b : Band) : Nat × Int := (b.lines, b.balance)

/-- A panel runs on as it did. -/
structure PanelStill (x y : PanelState) : Prop where
  timing : y.timing = x.timing
  frame : y.frame = x.frame
  lock : y.lock = x.lock
  builder : y.builder = x.builder
  seq : y.seq = x.seq
  dimmer : y.dimmer = x.dimmer
  power : y.power = x.power
  bMax : y.bands.bMax = x.bands.bMax
  carried : y.bands.records.map Band.carried = x.bands.records.map Band.carried

/-- Both panels run on as they did, at the same instant. -/
structure StillFrame (s t : State) : Prop where
  count : t.count = s.count
  resetLogic : t.resetLogic = s.resetLogic
  panel : ∀ p, PanelStill (s.panel p) (t.panel p)

theorem PanelStill.refl (x : PanelState) : PanelStill x x := ⟨rfl, rfl, rfl, rfl, rfl, rfl, rfl, rfl, rfl⟩

theorem PanelStill.trans {x y z : PanelState} (h : PanelStill x y) (h' : PanelStill y z) : PanelStill x z :=
  ⟨h'.timing.trans h.timing, h'.frame.trans h.frame, h'.lock.trans h.lock, h'.builder.trans h.builder, h'.seq.trans h.seq,
    h'.dimmer.trans h.dimmer, h'.power.trans h.power, h'.bMax.trans h.bMax, h'.carried.trans h.carried⟩

theorem StillFrame.refl (s : State) : StillFrame s s := ⟨rfl, rfl, fun _ => .refl _⟩

theorem StillFrame.trans {s t u : State} (h : StillFrame s t) (h' : StillFrame t u) : StillFrame s u :=
  ⟨h'.count.trans h.count, h'.resetLogic.trans h.resetLogic, fun p => (h.panel p).trans (h'.panel p)⟩

theorem StillFrame.ite {s t u : State} {c : Prop} [Decidable c] (ht : StillFrame s t) (hu : StillFrame s u) :
    StillFrame s (if c then t else u) := by
  split
  · exact ht
  · exact hu

theorem StillFrame.foldl {α : Type} {f : State → α → State} (h : ∀ s x, StillFrame s (f s x)) (xs : List α) (s : State) :
    StillFrame s (xs.foldl f s) := by
  induction xs generalizing s with
  | nil => exact .refl s
  | cons x xs ih => exact (h s x).trans (ih (f s x))

theorem StillFrame.updPanel {s : State} {p : Panel} {f : PanelState → PanelState} (h : PanelStill (s.panel p) (f (s.panel p))) :
    StillFrame s (s.updPanel p f) where
  count := updPanel_count ..
  resetLogic := updPanel_resetLogic ..
  panel := fun p' => by
    rw [panel_updPanel_ite]
    split
    · subst p'; exact h
    · exact .refl _

/-- A change of bands that keeps lines and balances. -/
theorem StillFrame.updBands {s : State} {p : Panel} {f : List Band → List Band}
    (h : (f (s.panel p).bands.records).map Band.carried = (s.panel p).bands.records.map Band.carried) :
    StillFrame s (s.updBands p f) := .updPanel ⟨rfl, rfl, rfl, rfl, rfl, rfl, rfl, rfl, h⟩

theorem carried_mapBands {f : Placed → Band} (h : ∀ x, (f x).carried = x.band.carried) (bs : List Band) (i l : Nat) :
    (mapBands f i l bs).map Band.carried = bs.map Band.carried := mapBands_field h bs i l

theorem carried_modifyBand {f : Band → Band} (h : ∀ b, (f b).carried = b.carried) (i : Nat) (bs : List Band) :
    (modifyBand i f bs).map Band.carried = bs.map Band.carried := by
  rw [modifyBand_eq_modify]
  refine List.ext_getElem? fun j => ?_
  rw [List.getElem?_map, List.getElem?_map, List.getElem?_modify]
  cases bs[j]? with
  | none => rfl
  | some b =>
    show some (Band.carried (if i = j then f b else b)) = some b.carried
    split
    · rw [h]
    · rfl

theorem carried_markWhere (hit : Placed → Bool) (bs : List Band) :
    (markWhere hit bs).map Band.carried = bs.map Band.carried :=
  carried_mapBands (fun x => by
    show Band.carried (if hit x then _ else _) = _
    split <;> rfl) bs 0 0

theorem StillFrame.markWhere (s : State) (p : Panel) (hit : Placed → Bool) : StillFrame s (s.updBands p (markWhere hit)) :=
  .updBands (carried_markWhere hit _)

/-- A change of the link alone. -/
theorem StillFrame.updLink (s : State) (p : Panel) (f : PanelState → PanelState)
    (h : ∀ x, ∃ link supervisorWatch mediaWatch,
      f x = { x with link := link, supervisorWatch := supervisorWatch, mediaWatch := mediaWatch }) :
    StillFrame s (s.updPanel p f) := by
  obtain ⟨link, supervisorWatch, mediaWatch, hf⟩ := h (s.panel p)
  refine .updPanel ?_
  rw [hf]
  exact ⟨rfl, rfl, rfl, rfl, rfl, rfl, rfl, rfl, rfl⟩

/-- What lies outside the panels. -/
theorem StillFrame.of_panels {s t : State} (hcount : t.count = s.count) (hreset : t.resetLogic = s.resetLogic)
    (hpanel : ∀ p, t.panel p = s.panel p) : StillFrame s t :=
  ⟨hcount, hreset, fun p => by rw [hpanel]; exact .refl _⟩

theorem StillFrame.postAll (told : List (Port × Notice)) (s : State) : StillFrame s (postAll told s) :=
  .of_panels (postAll_count ..) (by rw [postAll_eq]) fun p => postAll_panel told s p

theorem StillFrame.post (q : Port) (n : Notice) (s : State) : StillFrame s (post q n s) := .postAll [(q, n)] s

theorem StillFrame.postBoth (n : Notice) (s : State) : StillFrame s (postBoth n s) := (StillFrame.post ..).trans (.post ..)

theorem StillFrame.postOwn (p : Panel) (n : Notice) (s : State) : StillFrame s (postOwn p n s) := by
  rw [postOwn_eq_postAll]
  exact .postAll ..

/-! ### Grants and watches -/

theorem StillFrame.grantList (s : State) (l : GrantList) : StillFrame s { s with grants := l } :=
  .of_panels rfl rfl fun p => by cases p <;> rfl

theorem StillFrame.endGrant (g : Grant) (s : State) : StillFrame s (endGrant g s) :=
  (StillFrame.grantList s _).trans (.markWhere ..)

theorem StillFrame.revokeGrant (reason : RevokeReason) (s : State) (g : Grant) : StillFrame s (revokeGrant reason s g) :=
  (StillFrame.endGrant g s).trans (.post ..)

theorem StillFrame.revokeAll (reason : RevokeReason) (gs : List Grant) (s : State) :
    StillFrame s (revokeAll reason gs s) := .foldl (StillFrame.revokeGrant reason) gs s

theorem StillFrame.expireGrant (s : State) (g : Grant) : StillFrame s (expireGrant s g) :=
  (StillFrame.endGrant g s).trans (.post ..)

theorem StillFrame.setGrantState (id : Nat) (st : GrantState) (s : State) : StillFrame s (setGrantState id st s) :=
  .grantList s _

theorem StillFrame.tearGrant (p : Panel) (i : Nat) (s : State) : StillFrame s (tearGrant p i s) := by
  unfold Machine.tearGrant
  cases s.coveringGrant p i with
  | none => exact .refl s
  | some g => exact .ite (.refl s) ((StillFrame.setGrantState ..).trans (.post ..))

theorem StillFrame.readyGrants (p : Panel) (i : Nat) (s : State) : StillFrame s (readyGrants p i s) :=
  .foldl (f := readyGrant) (fun s g => (StillFrame.setGrantState g.id .granted s).trans (.post ..)) _ s

theorem StillFrame.grantFrameEnd (p : Panel) (s : State) : StillFrame s (grantFrameEnd p s) :=
  (StillFrame.grantList s _).trans (.foldl .expireGrant _ _)

/-! ### The integrity checker, the touch scheduler and the report -/

theorem StillFrame.faults (s : State) (f : Causes) : StillFrame s { s with faults := f } :=
  .of_panels rfl rfl fun p => by cases p <;> rfl

theorem StillFrame.updTouch (s : State) (f : Touch → Touch) : StillFrame s (s.updTouch f) :=
  .of_panels rfl rfl fun p => by cases p <;> rfl

theorem StillFrame.missed (y : Expectation) (s : State) : StillFrame s (s.missed y) := by
  have hbands : StillFrame s (s.updBands .cluster (modifyBand y.band (Band.mismatch s.mismatchLimit))) :=
    .updBands (carried_modifyBand (f := Band.mismatch s.mismatchLimit) (fun _ => rfl) _ _)
  exact hbands.trans (.faults ..)

theorem StillFrame.countMismatch (y : Expectation) (received : Option Crc) (s : State) :
    StillFrame s (countMismatch y received s) := by
  rw [countMismatch_eq]
  exact (StillFrame.missed y s).trans (.postAll ..)

theorem StillFrame.dropExpectation (band : Nat) (s : State) : StillFrame s (dropExpectation band s) :=
  .updLink s .cluster _ fun _ => ⟨_, _, _, rfl⟩

theorem StillFrame.compareReport (y : Expectation) (crc : Crc) (s : State) : StillFrame s (compareReport y crc s) :=
  .ite (.updBands (carried_modifyBand (f := fun b => { b with mismatches := 0 }) (fun _ => rfl) _ _)) (.countMismatch ..)

theorem StillFrame.judgeMissing (p : Panel) (s : State) : StillFrame s (judgeMissing p s) := by
  cases p with
  | centre => exact .refl s
  | cluster =>
    exact (StillFrame.foldl (fun s e => .countMismatch e none s) _ s).trans (.updLink _ .cluster _ fun _ => ⟨_, _, _, rfl⟩)

theorem StillFrame.raiseHolds (p : Panel) (s : State) : StillFrame s (raiseHolds p s) :=
  .updBands (carried_mapBands (fun x => by
    show Band.carried (if (s.panel p).skips x.index then _ else _) = _
    split <;> rfl) _ 0 0)

theorem StillFrame.ageTouch (p : Panel) (s : State) : StillFrame s (ageTouch p s) := by
  cases p with
  | cluster => exact .refl s
  | centre => exact .of_panels rfl rfl fun p => by cases p <;> rfl

theorem StillFrame.reportFrame (p : Panel) (s : State) : StillFrame s (reportFrame p s) := by
  rw [reportFrame_eq]
  exact .postAll ..

theorem StillFrame.sendLink (p : Panel) (c : LinkCommand) (s : State) : StillFrame s (sendLink p c s) :=
  .updLink s p _ fun _ => ⟨_, _, _, rfl⟩

/-- The frame-end work changes of the running of the panels the dimmer's part alone (3.7). -/
theorem StillFrame.frameEndWork (p : Panel) (s : State) :
    StillFrame (s.updDimmer p fun _ => (s.panel p).dimmed.dimmer) (frameEndWork p s) := by
  have hbefore : StillFrame s (Machine.grantFrameEnd p (Machine.ageTouch p (Machine.raiseHolds p s))) :=
    ((StillFrame.raiseHolds p s).trans (.ageTouch ..)).trans (.grantFrameEnd ..)
  have hafter : StillFrame (Machine.dimFrameEnd p (Machine.grantFrameEnd p (Machine.ageTouch p (Machine.raiseHolds p s))))
      (Machine.frameEndWork p s) := (StillFrame.judgeMissing ..).trans (.reportFrame ..)
  have hp := hbefore.panel p
  rw [dimFrameEnd_eq, updPanel_dimmed_eq hp.dimmer hp.power hp.frame] at hafter
  refine StillFrame.trans ?_ hafter
  have hdim : ∀ u : State, (u.updDimmer p fun _ => (s.panel p).dimmed.dimmer) =
      u.updPanel p fun x => { x with dimmer := (s.panel p).dimmed.dimmer } := fun _ => rfl
  rw [hdim, hdim]
  refine ⟨?_, ?_, fun q => ?_⟩
  · rw [updPanel_count, updPanel_count]; exact hbefore.count
  · rw [updPanel_resetLogic, updPanel_resetLogic]; exact hbefore.resetLogic
  · rw [panel_updPanel_ite, panel_updPanel_ite]
    have hq := hbefore.panel q
    split
    · exact ⟨hq.timing, hq.frame, hq.lock, hq.builder, hq.seq, rfl, hq.power, hq.bMax, hq.carried⟩
    · exact hq

end Sys2Proof.Machine

/-!
PROOF. FRAME_END: the start of the next frame (O25), the end of the scan after a stop (O27), and the whole next state with the
frame-end work of every block (O26).
-/

namespace Sys2Proof.Machine

open Sys2Proof

/-! ### What is handed over -/

theorem State.handed_of_ready {s : State} {p : Panel} {r : ReadyPlan} (h : (s.panel p).builder.ready = some r) :
    s.handed p = r.handed := by
  simp only [State.handed, h]

theorem State.handed_of_build {s : State} {p : Panel} {b : Build} (hready : (s.panel p).builder.ready = none)
    (hbuild : (s.panel p).builder.build = some b) : s.handed p = b.handed := by
  simp only [State.handed, hready, hbuild]

/-- The plan handed over at a frame end: the ready plan, or the fallback plan of the build in progress (R61). -/
theorem State.handed_eq {s : State} {p : Panel} {plan : Plan} {T fixed : Nat} {stretched late : Bool} {deferred : Nat}
    {lent : Bool} {buildTime : Nat}
    (h : (∃ r, (s.panel p).builder.ready = some r ∧ plan = r.plan ∧ T = r.length ∧ fixed = r.fixed ∧
        stretched = r.stretched ∧ late = false ∧ deferred = r.deferred ∧ lent = r.mediaOwned) ∨
      ((s.panel p).builder.ready = none ∧ ∃ b, (s.panel p).builder.build = some b ∧ plan = b.snapshot.fallbackPlan ∧
        T = max b.snapshot.length b.snapshot.fallbackCost ∧ fixed = b.snapshot.length ∧
        stretched = decide (b.snapshot.length < b.snapshot.fallbackCost) ∧ late = true ∧
        deferred = b.snapshot.deferredIn plan ∧ buildTime = b.buildTime ∧
        (lent = true ↔ ∃ z ∈ b.snapshot.bands, z.mediaOwned = true))) :
    ∃ time, (late = true → time = buildTime) ∧
      s.handed p = { plan := plan, length := T, fixed := fixed, stretched := stretched, late := late, deferred := deferred,
                     mediaOwned := lent, buildTime := time } := by
  obtain ⟨r, hready, rfl, rfl, rfl, rfl, rfl, rfl, rfl⟩ |
    ⟨hready, b, hbuild, rfl, rfl, rfl, rfl, rfl, rfl, rfl, hlent⟩ := h
  · refine ⟨0, (fun hlate => nomatch hlate), ?_⟩
    rw [State.handed_of_ready hready]
    rfl
  · refine ⟨b.buildTime, fun _ => rfl, ?_⟩
    have hmedia : lent = b.snapshot.anyMedia := by
      rw [Bool.eq_iff_iff, hlent, Snapshot.anyMedia, List.any_eq_true]
    rw [State.handed_of_build hready hbuild, hmedia]
    rfl

/-! ### The touch scheduler's part -/

theorem judgeMissing_touch (p : Panel) (s : State) : (judgeMissing p s).touch = s.touch := by
  have hfold : ∀ (es : List Expectation) (u : State),
      (es.foldl (fun s e => countMismatch e none s) u).touch = u.touch := fun es => by
    induction es with
    | nil => exact fun u => rfl
    | cons y es ih =>
      intro u
      rw [List.foldl_cons, ih, countMismatch_eq, postAll_touch]
      rfl
  cases p with
  | centre => rfl
  | cluster => exact (updPanel_touch ..).trans (hfold _ s)

/-- Of the frame-end work the aging alone reaches the touch scheduler (R64). -/
theorem frameEndWork_touch (p : Panel) (s : State) : (frameEndWork p s).touch = (ageTouch p s).touch := by
  unfold frameEndWork
  rw [reportFrame_eq, postAll_touch, judgeMissing_touch, dimFrameEnd_eq, updPanel_touch, grantFrameEnd, expireAll_eq,
    postAll_touch]
  cases p <;> rfl

/-! ### FRAME_END taken -/

theorem exec_frameEnd {p : Panel} {s : State} {start : Tick} {length : Nat} (hreset : s.inReset = false)
    (hscan : (s.panel p).power.state = .scanning) (hstart : (s.panel p).frame.start = some start)
    (hlength : (s.panel p).frame.length = some length) (hnow : s.count = start.after length) :
    exec (.frameEnd p) s = .next (frameEnd p s) := by
  show Host.Outcome.next (unlessReset s _) = _
  rw [unlessReset_run hreset, if_pos ((State.frameEndDue_iff hstart hlength).mpr ⟨hscan, hnow⟩)]

/-- A panel in the number of its next frame (R9). -/
def PanelState.numbered (x : PanelState) : PanelState := { x with frame := { x.frame with number := x.frame.number + 1 } }

theorem frameEnd_of_goes_on {p : Panel} {s : State} (h : (s.panel p).power.stopPending = false) :
    frameEnd p s = frameStart p ((frameEndWork p s).handed p) ((frameEndWork p s).updPanel p PanelState.numbered) :=
  if_neg (Bool.eq_false_iff.mp h)

theorem frameEnd_of_stop {p : Panel} {s : State} (h : (s.panel p).power.stopPending = true) :
    frameEnd p s = (finishScan p (frameEndWork p s)).updPanel p PanelState.numbered := if_pos h

theorem PanelState.dimmed_of_stop {x : PanelState} (h : x.power.stopPending = true) : x.dimmed = x := if_pos h

theorem PanelState.dimmed_of_goes_on {x : PanelState} (h : x.power.stopPending = false) :
    x.dimmed.dimmer = { x.dimmer.takeDuty with enable := x.dimmer.enable || decide (x.frame.number = 0) } :=
  congrArg PanelState.dimmer (if_neg (Bool.eq_false_iff.mp h))

/-! ### The next frame -/

theorem frameStarted_panel (p : Panel) (h : Handed) (s : State) :
    (s.frameStarted p h).panel p = (s.panel p).started s.count h ∧
      (s.frameStarted p h).panel (otherPanel p) = (s.panel (otherPanel p)).partnerMarked s.count := by
  cases p <;> exact ⟨rfl, rfl⟩

/-- Settles O25: the frame-end work leaves the running of the panels, and the plan handed over starts. -/
theorem frameEndStartsNextFrame : Obligations.FrameEndStartsNextFrame := by
  intro p s start length hreset x number blank d duty hscan hstop hstart hlength hnow plan T stretched late deferred hplan
  refine ⟨_, exec_frameEnd hreset hscan hstart hlength hnow, ?_⟩
  have hstill := StillFrame.frameEndWork p s
  have hp := hstill.panel p
  have ho := hstill.panel (otherPanel p)
  have hown : (s.updDimmer p fun _ => x.dimmed.dimmer).panel p = { x with dimmer := x.dimmed.dimmer } := by
    cases p <;> rfl
  have hother : (s.updDimmer p fun _ => x.dimmed.dimmer).panel (otherPanel p) = s.panel (otherPanel p) := by
    cases p <;> rfl
  have hcount : (frameEndWork p s).count = s.count := by rw [hstill.count]; cases p <;> rfl
  rw [hown] at hp
  rw [hother] at ho
  obtain ⟨h, hhanded, hplan', hlength', hstretched, hlate, hdeferred⟩ : ∃ h, (frameEndWork p s).handed p = h ∧
      h.plan = plan ∧ h.length = T ∧ h.stretched = stretched ∧ h.late = late ∧ h.deferred = deferred := by
    obtain ⟨r, hready, rfl, rfl, rfl, rfl, rfl⟩ | ⟨hready, b, hbuild, rfl, rfl, rfl, rfl, rfl⟩ := hplan
    · exact ⟨r.handed, State.handed_of_ready (hp.builder ▸ hready), rfl, rfl, rfl, rfl, rfl⟩
    · exact ⟨b.handed, State.handed_of_build (hp.builder ▸ hready) (hp.builder ▸ hbuild), rfl, rfl, rfl, rfl, rfl⟩
  have hrun := frameEnd_of_goes_on hstop
  rw [hhanded, frameStart_eq] at hrun
  obtain ⟨hmine, hyours⟩ := frameStarted_panel p h ((frameEndWork p s).updPanel p PanelState.numbered)
  rw [panel_updPanel, updPanel_count, hcount] at hmine
  rw [panel_updPanel_other, updPanel_count, hcount] at hyours
  have htouch : (frameEnd p s).touch = ((frameEndWork p s).updPanel p PanelState.numbered).touch.countDeferred p h.deferred := by
    rw [hrun, postAll_touch]; rfl
  have hpanel : (frameEnd p s).panel p = (frameEndWork p s |>.panel p).numbered.started s.count h := by
    rw [hrun, postAll_panel, hmine]
  have hpanelOther : (frameEnd p s).panel (otherPanel p) = ((frameEndWork p s).panel (otherPanel p)).partnerMarked s.count := by
    rw [hrun, postAll_panel, hyours]
  have hdimmer : ((frameEndWork p s).panel p).numbered.dimmer =
      { x.dimmer.takeDuty with enable := x.dimmer.enable || decide (x.frame.number = 0) } :=
    hp.dimmer.trans (PanelState.dimmed_of_goes_on hstop)
  have hedges : (((frameEndWork p s).panel p).numbered.started s.count h).dimmer = Dimmer.formEdges h.length
      { x.dimmer.takeDuty with enable := x.dimmer.enable || decide (x.frame.number = 0) } :=
    congrArg (Dimmer.formEdges h.length) hdimmer
  rw [hpanel, hpanelOther]
  subst hplan' hlength' hstretched hlate hdeferred
  have hframe : ((frameEndWork p s).panel p).frame.number = x.frame.number := congrArg FrameTimer.number hp.frame
  have hblank : blankTime ((frameEndWork p s).panel p).timing = blank := by rw [hp.timing]; rfl
  refine ⟨?_, ?_, ?_, ?_, ?_, ?_, ?_, ?_, ?_, ?_, ?_, hp.lock, hp.power, hp.timing, ?_⟩
  · exact congrArg (fun n => ({ number := n + 1, start := _, length := _, next := _ } : FrameTimer)) hframe
  · show some (h.executing ((frameEndWork p s).panel p).timing) = _
    rw [Handed.executing, hblank]
  · show ((frameEndWork p s).panel p).builder.handOver h = _
    rw [hp.builder, Builder.handOver]
    cases h.stretched <;> cases h.late <;> simp [x]
  · exact congrArg (fun n => some (LinkCommand.frame (n + 1) (polarityOf (n + 1)) h.length)) hframe
  · exact congrArg Dimmer.applied hedges
  · rw [hedges]; rfl
  · exact congrArg Dimmer.frameDuty hedges
  · exact congrArg Dimmer.darkNow hedges
  · exact congrArg Dimmer.darkNext hedges
  · exact congrArg Dimmer.enable hedges
  · rintro rfl
    rw [htouch, updPanel_touch, frameEndWork_touch]
    rfl
  · show (if _ then _ else _) = _
    rw [ho.lock, ho.power]

/-! ### The end of the scan -/

/-- The state once the panel's scanning has ended with this power block, the notices apart (R11). -/
def State.scanEnded (s : State) (p : Panel) (power : Power) : State := (stopScan p s).updPower p fun _ => power

/-- The PANEL_STATE of the end of a scan (R148). -/
def State.stopTold (s : State) (p : Panel) : List (Port × Notice) :=
  toOwn p (s.noticeOf p (.panelState .scanning .ready .stopDone (s.panel p).power.logicEn (s.panel p).power.gateEn
    (s.panel p).power.powerGood))

theorem PostsThrough.scanEnded (p : Panel) (power : Power) : PostsThrough fun s => s.scanEnded p power := by
  cases p <;> exact ⟨fun _ => rfl, fun _ => rfl, fun _ => rfl, fun _ _ _ => rfl⟩

/-- The power block of a panel whose scan has ended (R145). -/
def Power.stopped (w : Power) : Power := { w with state := .ready, stopPending := false, offPending := false }

/-- The end of a scan: READY with PANEL_STATE, and the entry into DRAIN where off was pending. -/
theorem finishScan_eq (p : Panel) (s : State) :
    finishScan p s =
      if (s.panel p).power.offPending = true then
        enterDrain p .request (postAll (s.stopTold p) (s.scanEnded p (s.panel p).power.stopped))
      else postAll (s.stopTold p) (s.scanEnded p (s.panel p).power.stopped) := by
  have hready : postPanelState p .scanning .stopDone
      ((stopScan p s).updPower p fun w => { w with state := .ready, stopPending := false }) =
      postAll (s.stopTold p) (s.scanEnded p { (s.panel p).power with state := .ready, stopPending := false }) := by
    rw [postPanelState_eq]
    cases p <;> rfl
  unfold finishScan
  simp only [hready]
  by_cases hoff : (s.panel p).power.offPending = true
  · rw [if_pos hoff, if_pos hoff]
    have hpost : ∀ (told : List (Port × Notice)) (u : State) (f : Power → Power),
        (postAll told u).updPower p f = postAll told (u.updPower p f) := fun told u f => postAll_updPanel told u p _
    have hstopped : (s.scanEnded p { (s.panel p).power with state := .ready, stopPending := false }).updPower p
        (fun w => { w with offPending := false }) = s.scanEnded p (s.panel p).power.stopped := by cases p <;> rfl
    rw [hpost, hstopped]
  · rw [if_neg hoff, if_neg hoff, Power.stopped, ← Bool.eq_false_iff.mpr hoff]

/-- The panel and the other one once the scan has ended. -/
theorem scanEnded_panel (s : State) (p : Panel) (power : Power) :
    (s.scanEnded p power).panel p = { s.panel p with
      frame := { (s.panel p).frame with start := none, length := none, next := none }
      lock := (s.panel p).lock.ended
      builder := { (s.panel p).builder with build := none, ready := none }
      seq := none
      power := power } ∧
    (s.scanEnded p power).panel (otherPanel p) = { s.panel (otherPanel p) with
      lock := { (s.panel (otherPanel p)).lock with inFlight := [] } } := by
  cases p <;> exact ⟨rfl, rfl⟩

/-! ### The entry into DRAIN keeps the rest running -/

theorem StillFrame.endGrants (s : State) (gone : List Grant) : StillFrame s (s.endGrants gone) := by
  exact ⟨rfl, rfl, fun p => by
    cases p <;> exact ⟨rfl, rfl, rfl, rfl, rfl, rfl, rfl, rfl, carried_markWhere ..⟩⟩

theorem StillFrame.updPower {s t : State} (h : StillFrame s t) (p : Panel) (f : Power → Power) :
    StillFrame (s.updPower p f) (t.updPower p f) where
  count := (updPanel_count ..).trans (h.count.trans (updPanel_count ..).symm)
  resetLogic := (updPanel_resetLogic ..).trans (h.resetLogic.trans (updPanel_resetLogic ..).symm)
  panel := fun q => by
    have hq := h.panel q
    rw [State.updPower, State.updPower, panel_updPanel_ite, panel_updPanel_ite]
    split
    · exact ⟨hq.timing, hq.frame, hq.lock, hq.builder, hq.seq, hq.dimmer, congrArg f hq.power, hq.bMax, hq.carried⟩
    · exact hq

/-- The entry into DRAIN changes of the running of the panels the power block alone (R147). -/
theorem StillFrame.enterDrain (p : Panel) (reason : PanelReason) (s : State) :
    StillFrame (s.updPower p (Power.draining s.count)) (enterDrain p reason s) := by
  rw [enterDrain_eq]
  exact ((StillFrame.endGrants s _).updPower p _).trans (.postAll ..)

theorem enterDrain_grants (p : Panel) (reason : PanelReason) (s : State) : ∀ g ∈ (enterDrain p reason s).grants.records, g.panel ≠ p := by
  intro g hg hp
  rw [enterDrain_eq, postAll_grants, show ∀ (u : State) f, (u.updPower p f).grants = u.grants from fun u f => updPanel_grants ..] at hg
  obtain ⟨hmem, hkeep⟩ := List.mem_filter.mp hg
  have hgone : g ∈ s.grantsOn p := List.mem_filter.mpr ⟨hmem, decide_eq_true hp⟩
  simpa using List.all_eq_true.mp hkeep g hgone

/-! ### FRAME_END with a stop pending -/

theorem frameEndWork_still_of_stop {p : Panel} {s : State} (h : (s.panel p).power.stopPending = true) :
    StillFrame s (frameEndWork p s) := by
  have hstill := StillFrame.frameEndWork p s
  rw [PanelState.dimmed_of_stop h] at hstill
  have hsame : (s.updDimmer p fun _ => (s.panel p).dimmer) = s := by cases p <;> rfl
  rwa [hsame] at hstill

theorem updDimmer_same {s : State} {p : Panel} {d : Dimmer} (h : (s.panel p).dimmer = d) :
    (s.updDimmer p fun _ => d) = s := by
  subst h
  cases p <;> rfl

theorem State.worked_dimmer (s : State) (p : Panel) : ((s.worked p).panel p).dimmer = (s.panel p).dimmer := by
  obtain ⟨-, -, hdimmer, -, -⟩ := s.beforeJudging_beside p
  exact (State.judged_beside _ p).1.trans hdimmer

theorem workedDimmer_of_stop {p : Panel} {s : State} (h : (s.panel p).power.stopPending = true) :
    ((s.worked p).updDimmer p fun _ => (s.panel p).dimmed.dimmer) = s.worked p := by
  rw [PanelState.dimmed_of_stop h]
  exact updDimmer_same (s.worked_dimmer p)

/-- The end of a scan changes of the running of the panels what R11 says, and the power block. -/
theorem StillFrame.finishScan (p : Panel) (s : State) :
    StillFrame (s.scanEnded p (if (s.panel p).power.offPending = true then (s.panel p).power.stopped.draining s.count
      else (s.panel p).power.stopped)) (finishScan p s) := by
  rw [finishScan_eq]
  split
  · have hposted : StillFrame (s.scanEnded p (s.panel p).power.stopped)
        (Machine.postAll (s.stopTold p) (s.scanEnded p (s.panel p).power.stopped)) := .postAll ..
    have hdrained := StillFrame.enterDrain p .request
      (Machine.postAll (s.stopTold p) (s.scanEnded p (s.panel p).power.stopped))
    have hcount : (Machine.postAll (s.stopTold p) (s.scanEnded p (s.panel p).power.stopped)).count = s.count := by
      rw [postAll_count]; cases p <;> rfl
    rw [hcount] at hdrained
    have hpower : (s.scanEnded p (s.panel p).power.stopped).updPower p (Power.draining s.count) =
        s.scanEnded p ((s.panel p).power.stopped.draining s.count) := by cases p <;> rfl
    rw [← hpower]
    exact (hposted.updPower p _).trans hdrained
  · exact .postAll ..

/-- Ports that stand the same take the same notices. -/
theorem postAll_ports {s t : State} (hsupervisor : t.supervisor = s.supervisor) (hmedia : t.media = s.media)
    (henabled : t.mediaEnabled = s.mediaEnabled) (told : List (Port × Notice)) :
    (postAll told t).supervisor = (postAll told s).supervisor ∧ (postAll told t).media = (postAll told s).media := by
  rw [postAll_eq, postAll_eq, hsupervisor, hmedia, henabled]
  exact ⟨rfl, rfl⟩

/-- The notices of the end of a scan after the frame-end work, in order (R137, R145, R147, R148). -/
def State.endTold (s : State) (p : Panel) (gone : List Grant) : List (Port × Notice) :=
  toOwn p (s.noticeOf p (.panelState .scanning .ready .stopDone (s.panel p).power.logicEn (s.panel p).power.gateEn
    (s.panel p).power.powerGood)) ++
    if (s.panel p).power.offPending = true then
      s.revocations .drain gone ++ toOwn p (s.noticeOf p (.panelState .ready .drain .request (s.panel p).power.logicEn false
        (s.panel p).power.powerGood))
    else []

theorem State.beforeJudging_ports (s : State) (p : Panel) :
    (s.beforeJudging p).supervisor = s.supervisor ∧ (s.beforeJudging p).media = s.media ∧
      (s.beforeJudging p).mediaEnabled = s.mediaEnabled := by
  cases p <;> exact ⟨rfl, rfl, rfl⟩

theorem State.worked_ports (s : State) (p : Panel) :
    (s.worked p).supervisor = s.supervisor ∧ (s.worked p).media = s.media ∧ (s.worked p).mediaEnabled = s.mediaEnabled := by
  obtain ⟨hsupervisor, hmedia, henabled⟩ := s.beforeJudging_ports p
  have hjudged := PostsThrough.judged p
  exact ⟨(hjudged.supervisor _).trans hsupervisor, (hjudged.media _).trans hmedia, (hjudged.mediaEnabled _).trans henabled⟩

theorem State.drainTold_postAll (told : List (Port × Notice)) (s : State) (p : Panel) (reason : PanelReason) :
    (postAll told s).drainTold p reason = s.drainTold p reason := by
  have hnumber : ∀ q, ((postAll told s).panel q).frame.number = (s.panel q).frame.number := fun q => by rw [postAll_panel]
  have hgone : (postAll told s).grantsOn p = s.grantsOn p := by rw [State.grantsOn, postAll_grants]; rfl
  rw [State.drainTold, State.drainTold, State.revocations_congr hnumber, noticeOf_congr (hnumber p), hgone, postAll_panel]

theorem scanEnded_number (s : State) (p q : Panel) (power : Power) :
    ((s.scanEnded p power).panel q).frame.number = (s.panel q).frame.number := by
  cases p <;> cases q <;> rfl

/-- The end of a scan after notices have been posted. -/
theorem finishScan_postAll (p : Panel) (told : List (Port × Notice)) (s : State) :
    finishScan p (postAll told s) =
      if (s.panel p).power.offPending = true then
        enterDrain p .request (postAll (told ++ s.stopTold p) (s.scanEnded p (s.panel p).power.stopped))
      else postAll (told ++ s.stopTold p) (s.scanEnded p (s.panel p).power.stopped) := by
  have hstop : (postAll told s).stopTold p = s.stopTold p := by
    have hnotice : ∀ b, (postAll told s).noticeOf p b = s.noticeOf p b := fun b => noticeOf_congr (by rw [postAll_panel]) b
    rw [State.stopTold, State.stopTold, postAll_panel, hnotice]
  rw [finishScan_eq, postAll_panel, hstop, (PostsThrough.scanEnded p _).postAll, ← postAll_append]

/-- What the end of a scan posts. -/
theorem finishScan_ports (p : Panel) (told : List (Port × Notice)) (s : State) :
    (finishScan p (postAll told s)).supervisor = (postAll (told ++ s.endTold p (s.grantsOn p)) s).supervisor ∧
      (finishScan p (postAll told s)).media = (postAll (told ++ s.endTold p (s.grantsOn p)) s).media := by
  rw [finishScan_postAll, State.endTold]
  obtain ⟨hsupervisor, hmedia, henabled⟩ : (s.scanEnded p (s.panel p).power.stopped).supervisor = s.supervisor ∧
      (s.scanEnded p (s.panel p).power.stopped).media = s.media ∧
      (s.scanEnded p (s.panel p).power.stopped).mediaEnabled = s.mediaEnabled := by cases p <;> exact ⟨rfl, rfl, rfl⟩
  split
  · have hdrain : (postAll (told ++ s.stopTold p) (s.scanEnded p (s.panel p).power.stopped)).drainTold p .request =
        s.revocations .drain (s.grantsOn p) ++ toOwn p (s.noticeOf p (.panelState .ready .drain .request
          (s.panel p).power.logicEn false (s.panel p).power.powerGood)) := by
      rw [State.drainTold_postAll, State.drainTold, State.revocations_congr fun q => scanEnded_number s p q _,
        noticeOf_congr (scanEnded_number s p p _), (scanEnded_panel s p _).1]
      cases p <;> rfl
    have hpost : ∀ (a : List (Port × Notice)) (u : State) (gone : List Grant) (f : Power → Power),
        ((postAll a u).endGrants gone).updPower p f = postAll a ((u.endGrants gone).updPower p f) := fun a u gone f => by
      rw [(PostsThrough.endGrants gone).postAll]
      exact postAll_updPanel a _ p _
    rw [enterDrain_eq, hdrain, hpost, ← postAll_append, List.append_assoc]
    refine postAll_ports ?_ ?_ ?_ _
    · exact (updPanel_supervisor ..).trans hsupervisor
    · exact (updPanel_media ..).trans hmedia
    · exact (updPanel_mediaEnabled ..).trans henabled
  · rw [List.append_nil]
    exact postAll_ports hsupervisor hmedia henabled _

/-- Settles O27: the scan ends with the notices of the frame-end work before those of its end. -/
theorem frameEndAfterStopEndsScan : Obligations.FrameEndAfterStopEndsScan := by
  intro p s start length hreset x hscan hstop hstart hlength hnow
  refine ⟨frameEnd p s, exec_frameEnd hreset hscan hstart hlength hnow, ?_⟩
  have hstill := frameEndWork_still_of_stop hstop
  have hended := StillFrame.finishScan p (frameEndWork p s)
  have hp := hended.panel p
  have ho := hended.panel (otherPanel p)
  obtain ⟨hmine, hyours⟩ := scanEnded_panel (frameEndWork p s) p
    (if ((frameEndWork p s).panel p).power.offPending = true then
      ((frameEndWork p s).panel p).power.stopped.draining (frameEndWork p s).count
    else ((frameEndWork p s).panel p).power.stopped)
  rw [hmine] at hp
  rw [hyours] at ho
  have hx := hstill.panel p
  have hy := hstill.panel (otherPanel p)
  have hrun : (frameEnd p s).panel p = ((finishScan p (frameEndWork p s)).panel p).numbered := by
    rw [frameEnd_of_stop hstop, panel_updPanel]
  have hrunOther : (frameEnd p s).panel (otherPanel p) = (finishScan p (frameEndWork p s)).panel (otherPanel p) := by
    rw [frameEnd_of_stop hstop, panel_updPanel_other]
  have hpower := hp.power
  dsimp only at hpower
  rw [hx.power, hstill.count] at hpower
  rw [hrun, hrunOther]
  refine ⟨?_, ?_, ?_, ?_, ?_, ?_, fun hoff => ?_, fun hoff => ⟨?_, ?_⟩, fun e hseq hlegal hapart => ?_⟩
  · show ({ number := _ + 1, start := _, length := _, next := _ } : FrameTimer) = _
    rw [hp.frame]
    dsimp only
    rw [hx.frame]
  · exact hp.builder.trans (by rw [hx.builder])
  · exact hp.seq
  · exact hp.lock.trans (by rw [hx.lock]; rfl)
  · rw [ho.lock, hy.lock]
  · exact hp.dimmer.trans hx.dimmer
  · refine hpower.trans ?_
    rw [if_neg (Bool.eq_false_iff.mp hoff), Power.stopped, ← hoff]
  · refine hpower.trans ?_
    rw [if_pos hoff]
    rfl
  · have hdrain : ∀ g ∈ (finishScan p (frameEndWork p s)).grants.records, g.panel ≠ p := by
      rw [finishScan_eq, hx.power, if_pos hoff]
      exact enterDrain_grants _ _ _
    rw [frameEnd_of_stop hstop, updPanel_grants]
    exact hdrain
  · obtain ⟨-, -, hids, -⟩ := hlegal
    have hwork := frameEndWork_eq hids hapart p
    rw [workedDimmer_of_stop hstop] at hwork
    refine ⟨s.worked p, s.workTold p, (s.worked p).grantsOn p, State.worked_endsFrame hapart hseq hlength,
      (s.worked p).selects_filter fun g _ => decide_eq_true_iff, ?_⟩
    have hnumbers : ∀ q, ((s.worked p).panel q).frame.number = (s.panel q).frame.number := fun q => by
      have := congrArg FrameTimer.number (hstill.panel q).frame
      rwa [hwork, postAll_panel] at this
    have hpowers : ((s.worked p).panel p).power = (s.panel p).power := by
      have := hx.power
      rwa [hwork, postAll_panel] at this
    have htold : (s.worked p).endTold p ((s.worked p).grantsOn p) = s.endTold p ((s.worked p).grantsOn p) := by
      have hnotice : ∀ b, (s.worked p).noticeOf p b = s.noticeOf p b := fun b => noticeOf_congr (hnumbers p) b
      rw [State.endTold, State.endTold, hpowers, hnotice, hnotice,
        State.revocations_congr (s := s) (t := s.worked p) hnumbers]
    obtain ⟨hsupervisor, hmedia⟩ := finishScan_ports p (s.workTold p) (s.worked p)
    obtain ⟨hsame, hsame', hsame''⟩ := s.worked_ports p
    obtain ⟨hposts, hposts'⟩ := postAll_ports hsame hsame' hsame'' (s.workTold p ++ s.endTold p ((s.worked p).grantsOn p))
    rw [frameEnd_of_stop hstop, updPanel_supervisor, updPanel_media, hwork, hsupervisor, hmedia, htold]
    intro w all
    have hall : all = s.workTold p ++ s.endTold p ((s.worked p).grantsOn p) := by
      rw [State.endTold, ← State.revocations_congr (s := s) (t := s.worked p) hnumbers, ← List.append_assoc]
    rw [hall]
    exact ⟨hposts, hposts'⟩

end Sys2Proof.Machine

/-!
PROOF. FRAME_END as a whole (O26).
-/

namespace Sys2Proof.Machine

open Sys2Proof

/-! ### The panels after the frame-end work -/

theorem eq_otherPanel_of_ne {p q : Panel} : q ≠ p → q = otherPanel p := by
  cases p <;> cases q <;> decide

/-- The frame-end work leaves the running of the panels; the dimmer's part apart. -/
theorem State.worked_still {s : State} (hids : s.grants.records.Pairwise idsApart) (hapart : s.expectationsApart) (p : Panel) :
    StillFrame s (s.worked p) := by
  have hstill := StillFrame.frameEndWork p s
  rw [frameEndWork_eq hids hapart] at hstill
  have hown : ∀ (u : State) (d : Dimmer), (u.updDimmer p fun _ => d).panel p = { u.panel p with dimmer := d } := fun u d => by
    cases p <;> rfl
  have hother : ∀ (u : State) (d : Dimmer), (u.updDimmer p fun _ => d).panel (otherPanel p) = u.panel (otherPanel p) :=
    fun u d => by cases p <;> rfl
  have hp := hstill.panel p
  have ho := hstill.panel (otherPanel p)
  rw [postAll_panel, hown, hown] at hp
  rw [postAll_panel, hother, hother] at ho
  have hmine : PanelStill (s.panel p) ((s.worked p).panel p) :=
    ⟨hp.timing, hp.frame, hp.lock, hp.builder, hp.seq, s.worked_dimmer p, hp.power, hp.bMax, hp.carried⟩
  refine ⟨?_, ?_, fun q => ?_⟩
  · have := hstill.count
    rwa [postAll_count, State.updDimmer, State.updDimmer, updPanel_count, updPanel_count] at this
  · have := hstill.resetLogic
    rwa [postAll_eq, State.updDimmer, State.updDimmer, updPanel_resetLogic, updPanel_resetLogic] at this
  · by_cases hq : q = p
    · exact hq ▸ hmine
    · exact eq_otherPanel_of_ne hq ▸ ho

theorem State.judged_grants (s : State) (p : Panel) : (s.judged p).grants = s.grants := by cases p <;> rfl

theorem State.worked_ids (s : State) (hids : s.grants.records.Pairwise idsApart) (p : Panel) :
    (s.worked p).grants.records.Pairwise idsApart := by
  have hgrants : (s.worked p).grants.records =
      (s.grants.records.filter fun g => decide (g ∉ s.expiring p)).map (Grant.heldOn p) := by
    rw [State.worked, State.judged_grants]
    cases p <;> rfl
  rw [hgrants, List.pairwise_map]
  refine (hids.filter _).imp fun hne => ?_
  rwa [idsApart, Grant.heldOn_id, Grant.heldOn_id]

/-! ### The frame that starts -/

/-- A panel after its next frame has started, its dimmer apart. -/
def PanelState.goneOn (now : Tick) (h : Handed) (d : Dimmer) (x : PanelState) : PanelState :=
  { x with
    frame := { number := x.frame.number + 1, start := some now, length := some h.length, next := none }
    builder := x.builder.handOver h
    seq := some (h.executing x.timing)
    link := { x.link with
      lastCommand := some (.frame (x.frame.number + 1) (polarityOf (x.frame.number + 1)) h.length) }
    dimmer := d.formEdges h.length }

/-- The state after the frame that starts, written out. -/
theorem frameStarted_numbered (u : State) (p : Panel) (h : Handed) (d : Dimmer) :
    ((u.updDimmer p fun _ => d).updPanel p PanelState.numbered).frameStarted p h =
      { (u.setPanel p ((u.panel p).goneOn u.count h d)).setPanel (otherPanel p)
          (PanelState.partnerMarked u.count (u.panel (otherPanel p))) with
        touch := u.touch.countDeferred p h.deferred } := by
  cases p <;> rfl

theorem Builder.handOver_eq (h : Handed) (b : Builder) :
    b.handOver h = { b with
      build := b.build.map fun y => { y with frameLate := true }
      ready := none
      stretched := b.stretched + (if h.stretched = true then 1 else 0)
      late := b.late + (if h.late = true then 1 else 0) } := by
  unfold Builder.handOver
  cases h.stretched <;> cases h.late <;> simp

/-- The dimmer of a frame that starts after another (R107, R108, R110, R112). -/
theorem Dimmer.formEdges_takeDuty (d : Dimmer) (enable : Bool) (T : Nat) :
    Dimmer.formEdges T { d.takeDuty with enable := enable } = { d with
      applied := if d.darkNext = true then min (d.frameDuty.getD d.applied) d.settings.cap else d.frameDuty.getD d.applied
      frameDuty := none, darkNow := d.darkNext, darkNext := false, enable := enable
      edges := edgeList T (if d.darkNext = true then min (d.frameDuty.getD d.applied) d.settings.cap
        else d.frameDuty.getD d.applied) d.settings.periods
      active := d.active && !d.darkNext && decide ((if d.darkNext = true then
        min (d.frameDuty.getD d.applied) d.settings.cap else d.frameDuty.getD d.applied) ≠ 0) } := by
  have hne : ∀ n : Nat, (n != 0) = decide (n ≠ 0) := fun n => by
    rw [Bool.eq_iff_iff, bne_iff_ne, decide_eq_true_eq]
  unfold Dimmer.formEdges Dimmer.takeDuty
  simp only [hne]

/-! ### The obligation -/

/-- Settles O26: the frame-end work, then the next frame's start or the end of the scan. -/
theorem frameEndWorkOfEveryBlock : Obligations.FrameEndWorkOfEveryBlock := by
  intro p s e start length hreset hlegal hapart x w d number run hscan hstart hlength hseq hnow
  obtain ⟨-, -, hids, -⟩ := hlegal
  have hrun : run = .next (frameEnd p s) := exec_frameEnd hreset hscan hstart hlength hnow
  have hstill := State.worked_still hids hapart p
  have hp := hstill.panel p
  have ho := hstill.panel (otherPanel p)
  have hwork := frameEndWork_eq hids hapart p
  refine ⟨s.worked p, s.workTold p, State.worked_endsFrame hapart hseq hlength, ?_⟩
  have hidsu := s.worked_ids hids p
  generalize s.worked p = u at hidsu hp ho hstill hwork
  intro y o
  refine ⟨fun hstop plan T fixed stretched late deferred lent buildTime hplan => ?_, fun hstop => ?_⟩
  · intro duty applied notice paired
    have hbuilder : ((frameEndWork p s).panel p).builder = x.builder := by
      rw [hwork, postAll_panel, ← hp.builder]
      cases p <;> rfl
    obtain ⟨time, htime, hhanded⟩ := State.handed_eq (s := frameEndWork p s) (p := p) (by rw [hbuilder]; exact hplan)
    obtain ⟨htiming, hnumber⟩ : (((u.updDimmer p fun _ => (s.panel p).dimmed.dimmer).updPanel p PanelState.numbered).panel p).timing =
        x.timing ∧ (((u.updDimmer p fun _ => (s.panel p).dimmed.dimmer).updPanel p PanelState.numbered).panel p).frame.number =
        number := by
      rw [← hp.timing, show number = (u.panel p).frame.number + 1 by rw [hp.frame]]
      cases p <;> exact ⟨rfl, rfl⟩
    have htold : Handed.told ⟨plan, T, fixed, stretched, late, deferred, lent, time⟩ p x.timing number =
        (if stretched = true then toPlan p lent (notice (.frameStretched fixed T late)) else []) ++
          (if late = true then
            toPlan p lent (notice (.planLate buildTime (x.timing.planLead * x.timing.tLine) T)) else []) := by
      cases late with
      | false => rfl
      | true => rw [← htime rfl]; rfl
    have hpanel : PanelState.goneOn u.count ⟨plan, T, fixed, stretched, late, deferred, lent, time⟩ x.dimmed.dimmer y = { y with
        frame := { number := number, start := some s.count, length := some T, next := none }
        builder := { x.builder with
          build := x.builder.build.map fun b => { b with frameLate := true }
          ready := none
          stretched := x.builder.stretched + (if stretched = true then 1 else 0)
          late := x.builder.late + (if late = true then 1 else 0) }
        seq := some
          { plan := plan, position := 0, blankAt := T - x.timing.nVb * x.timing.tLine, blankBegun := false, driving := [],
            refreshed := 0, touches := 0, deferred := deferred, stretched := stretched, late := late }
        link := { y.link with
          lastCommand := some (.frame number (if number.toNat % 2 = 0 then .pos else .neg) T) }
        dimmer := { d with
          applied := applied, frameDuty := none, darkNow := d.darkNext, darkNext := false
          enable := d.enable || decide (x.frame.number = 0)
          edges := edgeList T applied d.settings.periods
          active := d.active && !d.darkNext && decide (applied ≠ 0) } } := by
      rw [PanelState.goneOn, PanelState.dimmed_of_goes_on hstop, Dimmer.formEdges_takeDuty, Builder.handOver_eq, hp.builder,
        hp.timing, hp.frame, hstill.count]
      rfl
    rw [hrun, frameEnd_of_goes_on hstop, hhanded, hwork, postAll_updPanel, frameStart_postAll, frameStarted_numbered,
      htiming, hnumber, htold, hpanel, PanelState.partnerMarked, hstill.count, List.append_assoc]
    rfl
  · intro stopped ended
    have hended : ∀ n power, ended n power = postAll (s.workTold p ++ u.stopTold p)
        ((u.scanEnded p power).updPanel p fun z => { z with frame := { z.frame with number := n } }) := fun n power => by
      have hnotice : ∀ b, u.noticeOf p b = s.noticeOf p b := fun b => noticeOf_congr (by rw [hp.frame]) b
      have hlock : (u.panel p).lock.ended = x.lock.ended := by rw [hp.lock]
      have hpanel : (u.scanEnded p power).updPanel p (fun z => { z with frame := { z.frame with number := n } }) =
          (u.setPanel p { y with
            frame := { number := n, start := none, length := none, next := none }
            lock := y.lock.ended
            builder := { y.builder with build := none, ready := none }
            seq := none
            power := power }).setPanel (otherPanel p) { o with lock := { o.lock with inFlight := [] } } := by
        cases p <;> rfl
      rw [hpanel, State.stopTold, hnotice, hp.power, hp.lock, hp.builder]
    have hsame : frameEndWork p s = postAll (s.workTold p) u := by
      rw [hwork, updDimmer_same (hp.dimmer.trans (by rw [PanelState.dimmed_of_stop hstop]))]
    have hpower : (u.panel p).power = w := hp.power
    have hnumber : ((u.scanEnded p stopped).panel p).frame.number = x.frame.number := by
      rw [scanEnded_number, hp.frame]
    have hnumbered : ∀ (v : State), (v.panel p).frame.number = x.frame.number → v.updPanel p PanelState.numbered =
        v.updPanel p fun z => { z with frame := { z.frame with number := number } } := fun v hv => by
      rw [updPanel_eq_setPanel, updPanel_eq_setPanel, PanelState.numbered, hv]
    rw [hrun, frameEnd_of_stop hstop, hsame, finishScan_postAll, hpower]
    refine ⟨fun hoff => ?_, fun hoff => ?_⟩
    · rw [if_neg (Bool.eq_false_iff.mp hoff), postAll_updPanel, hended, ← hnumbered _ hnumber]
      rfl
    · have hv : ended x.frame.number stopped = postAll (s.workTold p ++ u.stopTold p) (u.scanEnded p stopped) := by
        rw [hended]
        refine congrArg (postAll _) ?_
        rw [updPanel_eq_setPanel, ← hnumber]
        exact setPanel_panel_self _ p
      have hidsEnded : (ended x.frame.number stopped).grants.records.Pairwise idsApart := by
        rw [hv, postAll_grants]
        cases p <;> exact hidsu
      refine ⟨enterDrain p .request (ended x.frame.number stopped), enterDrain_drains hidsEnded p .request, ?_⟩
      rw [if_pos hoff, hv]
      refine congrArg Host.Outcome.next (hnumbered _ ?_)
      have hframe := ((StillFrame.enterDrain p .request
        (postAll (s.workTold p ++ u.stopTold p) (u.scanEnded p stopped))).panel p).frame
      rw [State.updPower, panel_updPanel, postAll_panel] at hframe
      exact (congrArg FrameTimer.number hframe).trans hnumber

end Sys2Proof.Machine

/-!
PROOF. The frame lock: markers and their capture (O14), and the plan point's decision (O15).
-/

namespace Sys2Proof.Machine

open Sys2Proof

/-! ### Markers -/

theorem useMarker_of_captured {l : FrameLock} (h : l.capture ≠ none) (x : PanelState) (now : Tick)
    (other : FrameLock → FrameLock) : useMarker now other { x with lock := l } = { x with lock := other l } := by
  obtain ⟨c, hc⟩ := Option.ne_none_iff_exists'.mp h
  unfold useMarker
  simp only [hc]

theorem useMarker_of_free {l : FrameLock} {x : PanelState} {start : Tick} {length : Nat} (h : l.capture = none)
    (hstart : x.frame.start = some start) (hlength : x.frame.length = some length) (now : Tick)
    (other : FrameLock → FrameLock) :
    useMarker now other { x with lock := l } = { x with lock := l.takeCapture x.timing now start length } := by
  unfold useMarker
  simp only [h, hstart, hlength]

theorem gapPassed_iff {t : Timing} {now : Tick} {l : FrameLock} :
    gapPassed t now l = true ↔ ∀ g, l.gapRef = some g → t.tMin / 2 ≤ now.since g := by
  unfold gapPassed
  cases l.gapRef with
  | none => simp
  | some g => simp

/-- Settles O14: the glitch filter, the list of partner markers, and the capture. -/
theorem markersAreCaptured : Obligations.MarkersAreCaptured := by
  intro p s hreset x l withLock captured edge listened accepted
  have hedge : edge = .next (if listened then s.setPanel p (takeEdge s.count x) else s) := by
    have hscanning : (s.scanning p = true ∧ (s.panel p).lock.settings.source = .external) ↔ listened := by
      rw [State.scanning, beq_iff_eq]
    refine congrArg Host.Outcome.next ((unlessReset_run hreset).trans ?_)
    by_cases h : listened
    · rw [if_pos (hscanning.mpr h), if_pos h]; rfl
    · rw [if_neg (mt hscanning.mp h), if_neg h]
  have haccepted : gapPassed x.timing s.count x.lock = true ↔ accepted := gapPassed_iff
  refine ⟨fun h => ?_, fun h hgap => ?_, fun h hgap hcapture => ?_, fun h hgap hcapture start length hstart hlength => ?_,
    fun rest hflight => ?_⟩
  · rw [hedge, if_neg h]
  · rw [hedge, if_pos h, takeEdge, if_neg (mt haccepted.mp hgap)]
    rfl
  · rw [hedge, if_pos h, takeEdge, if_pos (haccepted.mpr hgap), useMarker_of_captured (l := { l with gapRef := some s.count }) hcapture]
    rfl
  · rw [hedge, if_pos h, takeEdge, if_pos (haccepted.mpr hgap), useMarker_of_free (l := { l with gapRef := some s.count }) hcapture hstart hlength]
    rfl
  · have hdue : s.partnerDue p = true := by
      rw [State.partnerDue, hflight]
      exact beq_self_eq_true _
    have hrun : exec (.partnerMarker p) s = .next (s.setPanel p
        (useMarker s.count id { x with lock := { l with inFlight := rest } })) := by
      refine congrArg Host.Outcome.next ((unlessReset_run hreset).trans ?_)
      rw [if_pos hdue, updPanel_eq_setPanel, hflight]
      rfl
    refine ⟨fun hcapture => ?_, fun hcapture start length hstart hlength => ?_⟩
    · rw [hrun, useMarker_of_captured (l := { l with inFlight := rest }) hcapture]; rfl
    · rw [hrun, useMarker_of_free (l := { l with inFlight := rest }) hcapture hstart hlength]; rfl

end Sys2Proof.Machine

/-!
PROOF. The plan point: what it makes of the state, and the notices it posts (R8, R46); the lock's decision (O15).
-/

namespace Sys2Proof.Machine

open Sys2Proof

/-! ### The plan point as one state and its notices -/

/-- The LOCK_STATE of a plan point, when one is due (R20). -/
def State.lockTold (s : State) (p : Panel) : List (Port × Notice) :=
  let l := (s.panel p).lock
  if lockNoticeDue l.state l.decision.state then
    toOwn p (s.noticeOf p (.lockState l.state l.decision.state l.tBase))
  else []

/-- A panel after the lock's part of its plan point (R18, R19). -/
def PanelState.lockPlanned (x : PanelState) : PanelState :=
  { x with lock := x.lock.planPoint, frame := { x.frame with next := some (x.lock.decision.nextLength x.timing) } }

/-- The decision changes the state and its two counts only (R18). -/
theorem FrameLock.decision_eq (l : FrameLock) :
    l.decision = { l with state := l.decision.state, good := l.decision.good, miss := l.decision.miss } := by
  unfold FrameLock.decision
  repeat' split
  all_goals rfl

theorem FrameLock.decision_tBase (l : FrameLock) : l.decision.tBase = l.tBase := by rw [FrameLock.decision_eq]

theorem lockPlanPoint_eq (p : Panel) (s : State) :
    lockPlanPoint p s = postAll (s.lockTold p) (s.updPanel p PanelState.lockPlanned) := by
  have hpanel : (s.updPanel p PanelState.lockPlanned).panel p = (s.panel p).lockPlanned := panel_updPanel ..
  have hnotice : (s.updPanel p PanelState.lockPlanned).panelNotice p (.lockState (s.panel p).lock.state
      ((s.updPanel p PanelState.lockPlanned).panel p).lock.state ((s.updPanel p PanelState.lockPlanned).panel p).lock.tBase) =
      s.noticeOf p (.lockState (s.panel p).lock.state (s.panel p).lock.decision.state (s.panel p).lock.tBase) := by
    rw [hpanel, panelNotice_eq_noticeOf, noticeOf_congr (s := s) (by rw [hpanel]; rfl),
      ← FrameLock.decision_tBase (s.panel p).lock]
    rfl
  show (if lockNoticeDue _ _ = true then postLockState p _ (s.updPanel p PanelState.lockPlanned)
    else s.updPanel p PanelState.lockPlanned) = _
  by_cases h : lockNoticeDue (s.panel p).lock.state (s.panel p).lock.decision.state = true
  · simp only [State.lockTold, if_pos h]
    rw [postLockState, hnotice, postOwn_eq_postAll]
  · simp only [State.lockTold, if_neg h]
    rfl

/-- The touch scheduler after a frequency decision (R99, R100). -/
def Touch.hopped (t : Touch) : Touch := t.hop.elim t fun x => { t with active := x.2.1, sinceHop := 0 }

/-- The TOUCH_HOP of a plan point, when one is due (R100). -/
def State.hopTold (s : State) : Panel → List (Port × Notice)
  | .cluster => []
  | .centre => s.touch.hop.elim [] fun x =>
      [(.media, s.noticeOf .centre
        (.touchHop x.1 s.touch.active s.touch.activeAverage x.2.1 x.2.2.average s.touch.sinceHop))]

/-- The state after a plan point's frequency decision (R46). -/
def State.hopped (s : State) : Panel → State
  | .cluster => s
  | .centre => { s with touch := s.touch.hopped }

theorem hopDecision_eq (p : Panel) (s : State) : hopDecision p s = postAll (s.hopTold p) (s.hopped p) := by
  cases p with
  | cluster => rfl
  | centre =>
    rcases Option.eq_none_or_eq_some s.touch.hop with h | ⟨⟨reason, i, c⟩, h⟩ <;>
      simp only [hopDecision, decideFrequency, State.hopTold, State.hopped, Touch.hopped, h, Option.elim] <;> rfl

/-- A panel after its plan point, but for the build (R18, R19, R107). -/
def PanelState.planned (hold : Bool) (x : PanelState) : PanelState :=
  { x.lockPlanned with dimmer := x.dimmer.fixDuty hold }

/-- The state a plan point's snapshot is taken of (R44). -/
def State.planned (s : State) (p : Panel) : State :=
  (s.updPanel p (PanelState.planned s.supply.hold)).hopped p

/-- A panel that begins this build (R60). -/
def PanelState.building (b : Build) (x : PanelState) : PanelState := { x with builder := { x.builder with build := some b } }

theorem PostsThrough.hopped (p : Panel) : PostsThrough fun s => s.hopped p := by
  cases p <;> exact ⟨fun _ => rfl, fun _ => rfl, fun _ => rfl, fun _ _ _ => rfl⟩

theorem postAll_newBuild (told : List (Port × Notice)) (s : State) (p : Panel) :
    (postAll told s).newBuild p = s.newBuild p := by
  rw [postAll_eq]; cases p <;> rfl

theorem planPoint_eq (p : Panel) (s : State) :
    planPoint p s = postAll (s.lockTold p ++ s.hopTold p)
      ((s.planned p).updPanel p (PanelState.building ((s.planned p).newBuild p))) := by
  have hsupply : (lockPlanPoint p s).updDimmer p (Dimmer.fixDuty s.supply.hold) =
      postAll (s.lockTold p) (s.updPanel p (PanelState.planned s.supply.hold)) := by
    rw [lockPlanPoint_eq, State.updDimmer, postAll_updPanel, updPanel_updPanel]
    rfl
  have hhop : (postAll (s.lockTold p) (s.updPanel p (PanelState.planned s.supply.hold))).hopTold p = s.hopTold p := by
    rw [postAll_eq]; cases p <;> rfl
  show beginBuild p (hopDecision p ((lockPlanPoint p s).updDimmer p (Dimmer.fixDuty s.supply.hold))) = _
  rw [hsupply, hopDecision_eq, hhop, (PostsThrough.hopped p).postAll, ← postAll_append]
  show (postAll _ (s.planned p)).updPanel p (PanelState.building ((postAll _ (s.planned p)).newBuild p)) = _
  rw [postAll_newBuild, postAll_updPanel]

theorem hopped_panel (s : State) (p q : Panel) : (s.hopped p).panel q = s.panel q := by cases p <;> cases q <;> rfl

theorem State.planned_panel (s : State) (p : Panel) : (s.planned p).panel p = (s.panel p).planned s.supply.hold := by
  rw [State.planned, hopped_panel, panel_updPanel]

theorem planPoint_panel (p : Panel) (s : State) :
    (planPoint p s).panel p = ((s.panel p).planned s.supply.hold).building ((s.planned p).newBuild p) := by
  rw [planPoint_eq, postAll_panel, panel_updPanel, State.planned_panel]

theorem exec_planPoint {p : Panel} {s : State} (hreset : s.inReset = false) (hdue : s.planPointDue p = true) :
    exec (.planPoint p) s = .next (planPoint p s) :=
  congrArg Host.Outcome.next ((unlessReset_run hreset).trans (if_pos hdue))

/-! ### The lock's decision -/

theorem FrameLock.shows_of_within {l : FrameLock} (h : ∃ c, l.capture = some c ∧ |c.error| ≤ (l.settings.lockWindow : Int)) :
    l.shows = .within := by
  obtain ⟨c, hc, hin⟩ := h
  simp only [FrameLock.shows, hc, if_pos hin]

theorem FrameLock.shows_of_outside {l : FrameLock}
    (h : ∃ c, l.capture = some c ∧ (l.settings.lockWindow : Int) < |c.error|) : l.shows = .outside := by
  obtain ⟨c, hc, hout⟩ := h
  simp only [FrameLock.shows, hc, if_neg (Int.not_le.mpr hout)]

theorem FrameLock.shows_of_nothing {l : FrameLock} (h : l.capture = none) : l.shows = .nothing := by
  simp only [FrameLock.shows, h]

theorem FrameLock.decision_of_free {l : FrameLock} (h : l.state = .free) : l.decision = l := by
  simp only [FrameLock.decision, h]

theorem FrameLock.decision_ne_free {l : FrameLock} (h : l.state ≠ .free) : l.decision.state ≠ .free := by
  unfold FrameLock.decision
  split
  · exact absurd ‹_› h
  all_goals repeat' split
  all_goals simp_all

/-- LOCK_STATE is due on entering LOCKED from SEEK and on leaving LOCKED or HOLD for SEEK (R20). -/
theorem FrameLock.noticeDue_iff (l : FrameLock) :
    lockNoticeDue l.state l.decision.state = true ↔
      (l.state = .seek ∧ l.decision.state = .locked) ∨
        ((l.state = .locked ∨ l.state = .hold) ∧ l.decision.state = .seek) := by
  by_cases hfree : l.state = .free
  · rw [FrameLock.decision_of_free hfree, hfree]; decide
  · have hafter := FrameLock.decision_ne_free hfree
    generalize l.decision.state = entered at hafter ⊢
    generalize l.state = left at hfree ⊢
    revert hafter hfree
    cases left <;> cases entered <;> decide

theorem State.lockTold_eq (s : State) (p : Panel) :
    s.lockTold p =
      if ((s.panel p).lock.state = .seek ∧ (s.panel p).lock.decision.state = .locked) ∨
          (((s.panel p).lock.state = .locked ∨ (s.panel p).lock.state = .hold) ∧ (s.panel p).lock.decision.state = .seek) then
        toOwn p (s.noticeOf p (.lockState (s.panel p).lock.state (s.panel p).lock.decision.state (s.panel p).lock.tBase))
      else [] :=
  ite_congr (propext (s.panel p).lock.noticeDue_iff) (fun _ => rfl) fun _ => rfl

/-- The states a plan point leaves in the ports are those of its notices (R8). -/
theorem planPoint_ports (p : Panel) (s : State) :
    (planPoint p s).supervisor = (postAll (s.lockTold p ++ s.hopTold p) s).supervisor ∧
      (planPoint p s).media = (postAll (s.lockTold p ++ s.hopTold p) s).media := by
  rw [planPoint_eq]
  refine postAll_ports ?_ ?_ ?_ _ <;> cases p <;> rfl

theorem State.planPointDue_of {s : State} {p : Panel} {start : Tick} {length : Nat}
    (hscanning : (s.panel p).power.state = .scanning) (hstop : (s.panel p).power.stopPending = false)
    (hnext : (s.panel p).frame.next = none) (hstart : (s.panel p).frame.start = some start)
    (hlength : (s.panel p).frame.length = some length)
    (hcount : s.count = start.after (length - (s.panel p).timing.planLead * (s.panel p).timing.tLine)) :
    s.planPointDue p = true := by
  simp only [State.planPointDue, hscanning, hstop, hnext, hlength, PanelState.frameTick, hstart, Option.map_some, leadTime,
    ← hcount]
  simp

theorem State.hopTold_forms (s : State) :
    s.hopTold .centre = [] ∨ ∃ reason left leftAverage taken takenAverage sinceHop, s.hopTold .centre =
      [(.media, s.noticeOf .centre (.touchHop reason left leftAverage taken takenAverage sinceHop))] := by
  rcases Option.eq_none_or_eq_some s.touch.hop with h | ⟨⟨reason, i, c⟩, h⟩
  · exact .inl (by simp only [State.hopTold, h, Option.elim])
  · exact .inr ⟨reason, s.touch.active, s.touch.activeAverage, i, c.average, s.touch.sinceHop, by
      simp only [State.hopTold, h, Option.elim]⟩

theorem State.hopTold_media (s : State) : ∀ y ∈ s.hopTold .centre, y.1 = .media := by
  rcases s.hopTold_forms with h | ⟨_, _, _, _, _, _, h⟩ <;> rw [h] <;> simp

theorem supervisor_postAll_of_media {told : List (Port × Notice)} (h : ∀ y ∈ told, y.1 = .media) (s : State) :
    (postAll told s).supervisor = s.supervisor := by
  rw [postAll_eq]
  exact congrArg s.supervisor.offers (toldTo_supervisor_of_media h)

/-- Settles O15: the decision table, the next frame length, and the notices. -/
theorem planPointTakesLockDecision : Obligations.PlanPointTakesLockDecision := by
  intro p s start length hreset x l lead hscanning hstop hnext hstart hlength hcount within outside nothing
  have hdue := State.planPointDue_of hscanning hstop hnext hstart hlength hcount
  have hpanel := planPoint_panel p s
  obtain ⟨hsupervisor, hmedia⟩ := planPoint_ports p s
  refine ⟨planPoint p s, l.decision.state, l.decision.good, l.decision.miss, exec_planPoint hreset hdue, ?_, fun h => ?_,
    fun h => ?_, fun h => ?_, fun h => ?_, ?_, ?_, ?_⟩
  · rw [hpanel]
    show { l.decision.closeInterval with correction := none } = _
    rw [FrameLock.closeInterval, FrameLock.decision_eq l]
  · rw [FrameLock.decision_of_free h]
    exact ⟨h, rfl, rfl⟩
  · refine ⟨?_, fun hin hgood => ?_, fun hin hgood => ?_, ?_⟩
    · unfold FrameLock.decision
      rw [h]
      cases l.shows with
      | within => simp only; split <;> rfl
      | outside => rfl
      | nothing => rfl
    · simp only [FrameLock.decision, h, FrameLock.shows_of_within hin, if_pos hgood, and_self]
    · simp only [FrameLock.decision, h, FrameLock.shows_of_within hin, if_neg (Nat.not_lt.mpr hgood), and_self]
    · rintro (hout | hnone)
      · simp only [FrameLock.decision, h, FrameLock.shows_of_outside hout, and_self]
      · simp only [FrameLock.decision, h, FrameLock.shows_of_nothing hnone, and_self]
  · refine ⟨fun hin => ?_, fun hout => ?_, fun hnone hlimit => ?_, fun hnone hlimit => ?_⟩
    · simp only [FrameLock.decision, h, FrameLock.shows_of_within hin, and_self]
    · simp only [FrameLock.decision, h, FrameLock.shows_of_outside hout, and_self]
    · simp only [FrameLock.decision, h, FrameLock.shows_of_nothing hnone, if_neg (Nat.not_le.mpr hlimit), and_self]
    · simp only [FrameLock.decision, h, FrameLock.shows_of_nothing hnone, if_pos hlimit, and_self]
  · refine ⟨fun hin => ?_, fun hout => ?_, fun hnone hlimit => ?_, fun hnone hlimit => ?_⟩
    · simp only [FrameLock.decision, h, FrameLock.shows_of_within hin, and_self]
    · simp only [FrameLock.decision, h, FrameLock.shows_of_outside hout, and_self]
    · simp only [FrameLock.decision, h, FrameLock.shows_of_nothing hnone, if_neg (Nat.not_le.mpr hlimit), and_self]
    · simp only [FrameLock.decision, h, FrameLock.shows_of_nothing hnone, if_pos hlimit, and_self]
  · rw [hpanel]
    show { x.frame with next := some (l.decision.nextLength x.timing) } = _
    rw [FrameLock.nextLength, FrameLock.decision_eq l]
    rfl
  · rintro rfl
    have htold : s.lockTold .cluster ++ s.hopTold .cluster = s.lockTold .cluster := List.append_nil _
    rw [htold] at hsupervisor hmedia
    rw [hsupervisor, hmedia, State.lockTold_eq]
    refine ⟨?_, ?_⟩ <;> split <;> rfl
  · rintro rfl
    refine ⟨s.hopTold .centre, s.hopTold_forms, ?_, ?_⟩
    · rw [hsupervisor, postAll_append, supervisor_postAll_of_media s.hopTold_media, State.lockTold_eq]
      rfl
    · rw [hmedia, State.lockTold_eq]; rfl

end Sys2Proof.Machine

/-!
PROOF. The frequency decision of a centre plan point and the listen candidate (O36).
-/

namespace Sys2Proof.Machine

open Sys2Proof

/-! ### The lowest average -/

theorem mem_allowedFrom_iff {x : Nat × Candidate} {i : Nat} {cs : List Candidate} :
    x ∈ allowedFrom i cs ↔ i ≤ x.1 ∧ cs[x.1 - i]? = some x.2 ∧ x.2.permission = .allowed := by
  refine ⟨mem_allowedFrom, ?_⟩
  induction cs generalizing i with
  | nil => rintro ⟨-, hget, -⟩; cases hget
  | cons c cs ih =>
    rintro ⟨hle, hget, hallowed⟩
    rcases Nat.eq_or_lt_of_le hle with heq | hlt
    · rw [← heq, Nat.sub_self, List.getElem?_cons_zero, Option.some.injEq] at hget
      rw [allowedFrom, if_pos (hget ▸ hallowed)]
      exact List.mem_cons.mpr (.inl (Prod.ext heq.symm hget.symm))
    · have hlater : x ∈ allowedFrom (i + 1) cs := ih ⟨hlt, by
        rwa [show x.1 - i = (x.1 - (i + 1)) + 1 by omega, List.getElem?_cons_succ] at hget, hallowed⟩
      rw [allowedFrom]
      split
      · exact List.mem_cons_of_mem _ hlater
      · exact hlater

theorem allowedFrom_pairwise (i : Nat) (cs : List Candidate) : (allowedFrom i cs).Pairwise fun x y => x.1 < y.1 := by
  induction cs generalizing i with
  | nil => exact .nil
  | cons c cs ih =>
    rw [allowedFrom]
    split
    · exact .cons (fun y hy => (mem_allowedFrom hy).1) (ih (i + 1))
    · exact ih (i + 1)

/-- An entry comes before another by its average, and at equal averages by its index (R99). -/
def quieter (x y : Nat × Candidate) : Prop := x.2.average < y.2.average ∨ (x.2.average = y.2.average ∧ x.1 ≤ y.1)

theorem lowestOf_eq_none_iff {xs : List (Nat × Candidate)} : lowestOf xs = none ↔ xs = [] := by
  cases xs with
  | nil => exact iff_of_true rfl rfl
  | cons x xs =>
    refine iff_of_false ?_ (List.cons_ne_nil x xs)
    rw [lowestOf]
    split
    · exact Option.some_ne_none _
    · split <;> exact Option.some_ne_none _

theorem lowestOf_quieter {xs : List (Nat × Candidate)} (horder : xs.Pairwise fun x y => x.1 < y.1) {x : Nat × Candidate}
    (h : lowestOf xs = some x) : ∀ y ∈ xs, quieter x y := by
  induction xs generalizing x with
  | nil => cases h
  | cons z zs ih =>
    obtain ⟨hfirst, hrest⟩ := List.pairwise_cons.mp horder
    rw [lowestOf] at h
    split at h
    · rename_i hnone
      cases h
      rw [lowestOf_eq_none_iff.mp hnone]
      simp [quieter]
    · rename_i w hw
      have hlow := ih hrest hw
      split at h <;> cases h <;> intro y hy <;> rcases List.mem_cons.mp hy with rfl | hy
      · exact .inr ⟨rfl, Nat.le_refl _⟩
      · have hyz := hfirst y hy
        rcases hlow y hy with hless | ⟨heq, -⟩
        · exact .inl (by omega)
        · unfold quieter
          omega
      · exact .inl (Nat.lt_of_not_le ‹_›)
      · exact hlow y hy

theorem lowestOf_eq_some_iff {xs : List (Nat × Candidate)} (horder : xs.Pairwise fun x y => x.1 < y.1)
    {x : Nat × Candidate} : lowestOf xs = some x ↔ x ∈ xs ∧ ∀ y ∈ xs, quieter x y := by
  refine ⟨fun h => ⟨mem_of_lowestOf h, lowestOf_quieter horder h⟩, fun ⟨hmem, hlow⟩ => ?_⟩
  obtain ⟨y, hy⟩ := Option.ne_none_iff_exists'.mp (mt lowestOf_eq_none_iff.mp (List.ne_nil_of_mem hmem))
  have hymem := mem_of_lowestOf hy
  have hindex : y.1 = x.1 := by
    have hxy := hlow y hymem
    have hyx := lowestOf_quieter horder hy x hmem
    unfold quieter at hxy hyx
    omega
  have hnodup : (xs.map Prod.fst).Nodup := List.pairwise_map.mpr (horder.imp Nat.ne_of_lt)
  rw [hy, List.inj_on_of_nodup_map hnodup hymem hmem hindex]

theorem mem_lowest_iff {t : Touch} {x : Nat × Candidate} : x ∈ allowedFrom 0 t.candidates ↔ t.allows x.1 x.2 := by
  rw [mem_allowedFrom_iff, Nat.sub_zero, Touch.allows, and_iff_right (Nat.zero_le _)]

theorem lowestAllowed_eq_some_iff {t : Touch} {i : Nat} {c : Candidate} :
    lowestAllowed t.candidates = some (i, c) ↔ t.quietest (fun _ => True) i c := by
  rw [lowestAllowed, lowestOf_eq_some_iff (allowedFrom_pairwise 0 _), mem_lowest_iff, Touch.quietest, true_and]
  exact and_congr_right fun _ => ⟨fun h j d hd _ => h (j, d) (mem_lowest_iff.mpr hd),
    fun h y hy => h y.1 y.2 (mem_lowest_iff.mp hy) trivial⟩

theorem lowestOf_others_eq_some_iff {t : Touch} {j : Nat} {d : Candidate} :
    lowestOf t.others = some (j, d) ↔ t.quietest (· ≠ t.active) j d := by
  have hmem : ∀ x : Nat × Candidate, x ∈ t.others ↔ t.allows x.1 x.2 ∧ x.1 ≠ t.active := fun x => by
    rw [Touch.others, List.mem_filter, mem_lowest_iff, bne_iff_ne]
  have horder : t.others.Pairwise fun x y => x.1 < y.1 := (allowedFrom_pairwise 0 _).filter _
  rw [lowestOf_eq_some_iff horder, hmem, Touch.quietest, and_assoc]
  exact and_congr_right fun _ => and_congr_right fun _ => ⟨fun h k e he hk => h (k, e) ((hmem _).mpr ⟨he, hk⟩),
    fun h y hy => h y.1 y.2 ((hmem y).mp hy).1 ((hmem y).mp hy).2⟩

/-! ### The hop -/

/-- The active candidate is noisy: a rival among the other ALLOWED candidates lies past the hysteresis below it (R99). -/
def Touch.noisy (t : Touch) (a : Candidate) : Prop :=
  t.state = .enabled ∧ t.hopHold ≤ t.sinceHop ∧
    ∃ j d, t.quietest (· ≠ t.active) j d ∧ d.average + t.hysteresis < a.average

theorem Touch.hop_of_banned {t : Touch} {a c : Candidate} {i : Nat} (ha : t.candidates[t.active]? = some a)
    (hbanned : a.permission = .banned) (hi : t.quietest (fun _ => True) i c) : t.hop = some (.ban, i, c) := by
  simp only [Touch.hop, Touch.activeCandidate, ha, if_pos hbanned, lowestAllowed_eq_some_iff.mpr hi, Option.map_some]

theorem Touch.hop_of_noisy {t : Touch} {a c : Candidate} {i : Nat} (ha : t.candidates[t.active]? = some a)
    (hallowed : a.permission ≠ .banned) (hnoisy : t.noisy a) (hi : t.quietest (fun _ => True) i c) :
    t.hop = some (.noise, i, c) := by
  obtain ⟨henabled, hhold, j, d, hd, hless⟩ := hnoisy
  simp only [Touch.hop, Touch.activeCandidate, ha, if_neg hallowed, if_pos henabled, lowestAllowed_eq_some_iff.mpr hi,
    lowestOf_others_eq_some_iff.mpr hd, if_pos (And.intro hhold hless)]

theorem Touch.hop_of_quiet {t : Touch} {a : Candidate} (ha : t.candidates[t.active]? = some a)
    (hallowed : a.permission ≠ .banned) (hquiet : ¬t.noisy a) : t.hop = none := by
  simp only [Touch.hop, Touch.activeCandidate, ha, if_neg hallowed]
  split
  · split
    · rename_i henabled _ _ o x ho hx
      refine if_neg fun ⟨hhold, hless⟩ => hquiet ⟨henabled, hhold, o.1, o.2, lowestOf_others_eq_some_iff.mp ho, hless⟩
    · rfl
  · rfl

/-! ### The listen candidate -/

/-- What the search for the listen candidate takes at an index (R101). -/
def Touch.listenAt (t : Touch) (i : Nat) : Option ListenItem :=
  t.candidates[i]?.bind fun c =>
    if c.permission = .allowed ∧ i ≠ t.active then some { candidate := i, period := c.period } else none

theorem firstListen_eq (t : Touch) (is : List Nat) : firstListen t is = is.findSome? t.listenAt := by
  induction is with
  | nil => rfl
  | cons i is ih =>
    rw [firstListen, List.findSome?_cons, Touch.listenAt]
    cases t.candidates[i]? with
    | none => exact ih
    | some c =>
      simp only [Option.bind_some]
      split
      · rfl
      · exact ih

theorem Touch.listenAt_eq_some {t : Touch} {i : Nat} {c : Candidate} (h : t.allows i c) (hother : i ≠ t.active) :
    t.listenAt i = some { candidate := i, period := c.period } := by
  rw [Touch.listenAt, h.1, Option.bind_some, if_pos ⟨h.2, hother⟩]

theorem Touch.listenAt_eq_none {t : Touch} {i : Nat} (h : ∀ c, ¬(t.allows i c ∧ i ≠ t.active)) : t.listenAt i = none := by
  rw [Touch.listenAt, Option.bind_eq_none_iff]
  exact fun c hc => if_neg fun hok => h c ⟨⟨hc, hok.1⟩, hok.2⟩

/-- The first index of a range at which a search finds something. -/
theorem findSome?_range {α : Type} {f : Nat → Option α} {a : α} {n k : Nat} (hk : k < n) (hfound : f k = some a)
    (hbefore : ∀ j < k, f j = none) : (List.range n).findSome? f = some a := by
  have hsplit : List.range n = List.range k ++ (List.range n).drop k := by
    conv_lhs => rw [← List.take_append_drop k (List.range n), List.take_range, Nat.min_eq_left hk.le]
  rw [hsplit, List.findSome?_append, List.findSome?_eq_none_iff.mpr fun j hj => hbefore j (List.mem_range.mp hj),
    List.drop_eq_getElem_cons (by rwa [List.length_range]), List.getElem_range, List.findSome?_cons, hfound]
  rfl

theorem Touch.listenCandidate_eq (t : Touch) :
    t.listenCandidate = (List.range 6).findSome? fun k => t.listenAt ((t.listenPtr + k) % 6) := by
  rw [Touch.listenCandidate, firstListen_eq, List.findSome?_map]
  rfl

theorem Touch.hopped_listenPtr (t : Touch) : t.hopped.listenPtr = t.listenPtr := by
  unfold Touch.hopped; cases t.hop <;> rfl

theorem Touch.hopped_candidates (t : Touch) : t.hopped.candidates = t.candidates := by
  unfold Touch.hopped; cases t.hop <;> rfl

theorem Touch.hopped_eq (t : Touch) : t.hopped = { t with active := t.hopped.active, sinceHop := t.hopped.sinceHop } := by
  unfold Touch.hopped; cases t.hop <;> rfl

/-! ### The plan point of the centre panel -/

theorem State.planned_touch (s : State) : (s.planned .centre).touch = s.touch.hopped := rfl

theorem planPoint_touch (s : State) : (planPoint .centre s).touch = s.touch.hopped := by
  rw [planPoint_eq, postAll_touch]
  rfl

/-- Settles O36: the hop of the centre's plan point, its notice, and the listen candidate. -/
theorem frequencyDecision : Obligations.FrequencyDecision := by
  intro s a hreset hdue x ha rival noisy left told
  obtain ⟨-, hmedia⟩ := planPoint_ports .centre s
  have htouch := planPoint_touch s
  have hlock : told (planPoint .centre s).centre.lock.state = s.lockTold .centre := by
    have hstate : (planPoint .centre s).centre.lock.state = s.centre.lock.decision.state :=
      congrArg (fun y => y.lock.state) (planPoint_panel .centre s)
    rw [hstate, State.lockTold_eq]
    rfl
  have hhopped : ∀ reason i c, x.hop = some (reason, i, c) →
      (planPoint .centre s).touch.active = i ∧ (planPoint .centre s).touch.sinceHop = 0 ∧
        (planPoint .centre s).media = (postAll (told (planPoint .centre s).centre.lock.state ++ [(.media,
          s.noticeOf .centre (.touchHop reason x.active a.average i c.average x.sinceHop))]) s).media := by
    intro reason i c hhop
    have haverage : x.activeAverage = a.average := by rw [Touch.activeAverage, Touch.activeCandidate, ha]; rfl
    have hafter : x.hopped = { x with active := i, sinceHop := 0 } := by rw [Touch.hopped, hhop]; rfl
    have htold : s.hopTold .centre =
        [(.media, s.noticeOf .centre (.touchHop reason x.active a.average i c.average x.sinceHop))] := by
      rw [← haverage, State.hopTold, hhop]; rfl
    rw [hmedia, hlock, htouch, hafter, htold]
    exact ⟨rfl, rfl, rfl⟩
  refine ⟨planPoint .centre s, exec_planPoint hreset hdue, ?_, fun i c hi hreason => ?_, fun hallowed hquiet => ?_,
    (s.planned .centre).newBuild .centre, _, congrArg (fun y => y.builder.build) (planPoint_panel .centre s), rfl, ?_, ?_⟩
  · rw [htouch]; exact x.hopped_eq
  · by_cases hbanned : a.permission = .banned
    · rw [if_pos hbanned]
      exact hhopped .ban i c (Touch.hop_of_banned ha hbanned hi)
    · rw [if_neg hbanned]
      exact hhopped .noise i c (Touch.hop_of_noisy ha hbanned (hreason.resolve_left hbanned) hi)
  · have hhop := Touch.hop_of_quiet ha (by rw [hallowed]; decide) hquiet
    have htold : s.hopTold .centre = [] := by rw [State.hopTold, hhop]; rfl
    rw [htouch, hmedia, hlock, htold, List.append_nil, Touch.hopped, hhop]
    exact ⟨rfl, rfl⟩
  · intro k c hk hallows hother hbefore
    rw [htouch] at hother hbefore
    show (s.planned .centre).touch.listenCandidate = _
    rw [State.planned_touch, Touch.listenCandidate_eq, Touch.hopped_listenPtr]
    refine findSome?_range hk (Touch.listenAt_eq_some ⟨by rw [Touch.hopped_candidates]; exact hallows.1, hallows.2⟩ hother)
      fun j hj => Touch.listenAt_eq_none fun d hd => hbefore j d hj ?_
    rwa [Touch.allows, Touch.hopped_candidates] at hd
  · intro hnone
    rw [htouch] at hnone
    show (s.planned .centre).touch.listenCandidate = _
    rw [State.planned_touch, Touch.listenCandidate_eq, Touch.hopped_listenPtr, List.findSome?_eq_none_iff]
    intro k hk
    refine Touch.listenAt_eq_none fun c ⟨hallows, hother⟩ => hother (hnone k c (List.mem_range.mp hk) ?_)
    rwa [Touch.allows, Touch.hopped_candidates] at hallows

end Sys2Proof.Machine

/-!
PROOF. The build of a plan point and its completion (O16).
-/

namespace Sys2Proof.Machine

open Sys2Proof

/-! ### The projection of bands and groups -/

theorem signOf_polarityOf (n : FrameNo) : signOf (polarityOf n) = if n.toNat % 2 = 0 then 1 else -1 := by
  unfold polarityOf
  split <;> rfl

theorem refreshesBand_append (a b : List Slot) (i : Nat) :
    refreshesBand (a ++ b) i = (refreshesBand a i || refreshesBand b i) := List.any_append ..

/-- A projection copies what a frame does not change. -/
theorem projectBand_copies (running : Option Executing) (sign : Int) (covered mediaOwned : Bool) (x : Placed) :
    let z := projectBand running sign covered mediaOwned x
    z.lines = x.band.lines ∧ z.cls = x.band.cls ∧ z.holdLimit = x.band.holdLimit ∧ z.covered = covered ∧
      z.mediaOwned = mediaOwned := by
  intro z
  simp only [z, projectBand]
  cases running with
  | none => exact ⟨rfl, rfl, rfl, rfl, rfl⟩
  | some e => dsimp only; repeat' split
              all_goals exact ⟨rfl, rfl, rfl, rfl, rfl⟩

theorem projectBand_still_due {e : Executing} {sign : Int} {covered mediaOwned : Bool} {x : Placed}
    (h : refreshesBand (e.plan.slots.drop e.position) x.index = true) :
    let z := projectBand (some e) sign covered mediaOwned x
    z.dirty = false ∧ z.hold = 0 ∧ z.balance = x.band.balance + sign := by
  intro z
  simp only [z, projectBand, if_pos h, and_self]

theorem projectBand_done {e : Executing} {sign : Int} {covered mediaOwned : Bool} {x : Placed}
    (hdrop : refreshesBand (e.plan.slots.drop e.position) x.index = false)
    (htake : refreshesBand (e.plan.slots.take e.position) x.index = true) :
    let z := projectBand (some e) sign covered mediaOwned x
    z.dirty = x.band.dirty ∧ z.hold = x.band.hold ∧ z.balance = x.band.balance := by
  intro z
  simp only [z, projectBand, hdrop, if_pos htake, Bool.false_eq_true, if_false, and_self]

theorem projectBand_skipped {e : Executing} {sign : Int} {covered mediaOwned : Bool} {x : Placed}
    (h : refreshesBand e.plan.slots x.index = false) :
    let z := projectBand (some e) sign covered mediaOwned x
    z.dirty = x.band.dirty ∧ z.hold = min (x.band.hold + 1) x.band.holdLimit ∧ z.balance = x.band.balance := by
  rw [← List.take_append_drop e.position e.plan.slots, refreshesBand_append, Bool.or_eq_false_iff] at h
  intro z
  simp only [z, projectBand, h.1, h.2, Bool.false_eq_true, if_false, and_self]

theorem snapshot_getElem?_bands (s : State) (p : Panel) (T : Nat) (listen : Option ListenItem) (i : Nat) :
    (s.snapshot p T listen).bands[i]? = (s.panel p).bands.records[i]?.map fun b =>
      projectBand (s.panel p).seq (signOf (polarityOf (s.panel p).frame.number))
        (s.grants.records.any fun g => g.covers p i) (s.owner p ((s.panel p).bands.placedAt i b) == .media)
        ((s.panel p).bands.placedAt i b) := by
  show ((s.panel p).bands.placed.map _)[i]? = _
  rw [List.getElem?_map, BandTable.getElem?_placed, Option.map_map]
  rfl

theorem any_covers_iff {s : State} {p : Panel} {i : Nat} :
    (s.grants.records.any fun g => g.covers p i) = true ↔ s.granted p i := by
  simp only [List.any_eq_true, Grant.covers, State.granted, Bool.and_eq_true, decide_eq_true_eq, and_assoc]

theorem snapshot_owner_iff {s : State} {p : Panel} {i : Nat} {b : Band} :
    (s.owner p ((s.panel p).bands.placedAt i b) == .media) = true ↔ s.mediaBand p i b := by
  rw [beq_iff_eq, State.owner_eq_media_iff]

/-! ### The instants predicted from the cluster (R57) -/

theorem mem_predictFrames {T tC back : Nat} {edges : List Edge} {v : Int} (n j : Nat) :
    v ∈ predictFrames T tC back edges n j ↔ ∃ k, j ≤ k ∧ k < j + n ∧
      ((0 < k ∧ v = ((k * tC : Nat) : Int) - back ∧ 0 ≤ v ∧ v < T) ∨
        ∃ e ∈ edges, (k = 0 ∨ (((k * tC : Nat) : Int) - back < T ∧ 0 < ((k * tC : Nat) : Int) - back + tC)) ∧
          v = ((k * tC : Nat) : Int) - back + (e.time : Int)) := by
  induction n generalizing j with
  | zero =>
    refine iff_of_false List.not_mem_nil ?_
    rintro ⟨k, hlow, hhigh, -⟩
    omega
  | succ n ih =>
    have hfirst : (v ∈ if 0 < j ∧ 0 ≤ ((j * tC : Nat) : Int) - back ∧ ((j * tC : Nat) : Int) - back < T
        then [((j * tC : Nat) : Int) - back] else []) ↔
        (0 < j ∧ v = ((j * tC : Nat) : Int) - back ∧ 0 ≤ v ∧ v < T) := by
      split
      · rename_i hstart
        rw [List.mem_singleton]
        exact ⟨fun h => ⟨hstart.1, h, h ▸ hstart.2⟩, fun h => h.2.1⟩
      · rename_i hout
        exact iff_of_false List.not_mem_nil fun h => hout ⟨h.1, h.2.1 ▸ h.2.2⟩
    have hedges : (v ∈ if j = 0 ∨ (((j * tC : Nat) : Int) - back < T ∧ 0 < ((j * tC : Nat) : Int) - back + tC) then
        edges.map (fun e => ((j * tC : Nat) : Int) - back + (e.time : Int)) else []) ↔
        ∃ e ∈ edges, (j = 0 ∨ (((j * tC : Nat) : Int) - back < T ∧ 0 < ((j * tC : Nat) : Int) - back + tC)) ∧
          v = ((j * tC : Nat) : Int) - back + (e.time : Int) := by
      split
      · rw [List.mem_map]
        exact ⟨fun ⟨e, he, hv⟩ => ⟨e, he, ‹_›, hv.symm⟩, fun ⟨e, he, _, hv⟩ => ⟨e, he, hv.symm⟩⟩
      · exact iff_of_false List.not_mem_nil fun ⟨_, _, hin, _⟩ => ‹¬_› hin
    simp only [predictFrames, List.mem_append, hfirst, hedges, ih]
    constructor
    · rintro (h | ⟨k, hlow, hhigh, hk⟩)
      · exact ⟨j, Nat.le_refl j, by omega, h⟩
      · exact ⟨k, by omega, by omega, hk⟩
    · rintro ⟨k, hlow, hhigh, hk⟩
      rcases Nat.eq_or_lt_of_le hlow with rfl | hlt
      · exact .inl hk
      · exact .inr ⟨k, hlt, by omega, hk⟩

/-- The frames tried are all that can meet the planned frame. -/
theorem mem_predictions_iff {T tC back : Nat} {edges : List Edge} {v : Int} (htC : 0 < tC) :
    v ∈ predictFrames T tC back edges ((T + back) / tC + 1) 0 ↔
      (∃ j, 1 ≤ j ∧ v = ((j * tC : Nat) : Int) - back ∧ 0 ≤ v ∧ v < T) ∨
        ∃ j, ∃ e ∈ edges, (j = 0 ∨ (((j * tC : Nat) : Int) - back < T ∧ 0 < ((j * tC : Nat) : Int) - back + tC)) ∧
          v = ((j * tC : Nat) : Int) - back + (e.time : Int) := by
  have htried : ∀ j : Nat, j = 0 ∨ ((j * tC : Nat) : Int) - back < T → j < 0 + ((T + back) / tC + 1) := by
    intro j h
    rw [Nat.zero_add, Nat.lt_succ_iff]
    rcases h with rfl | h
    · exact Nat.zero_le _
    · exact (Nat.le_div_iff_mul_le htC).mpr (by omega)
  rw [mem_predictFrames]
  constructor
  · rintro ⟨k, -, -, hstart | hedge⟩
    · exact .inl ⟨k, hstart⟩
    · exact .inr ⟨k, hedge⟩
  · rintro (⟨j, hj, hv, hin⟩ | ⟨j, e, he, hmeets, hv⟩)
    · exact ⟨j, Nat.zero_le j, htried j (.inr (hv ▸ hin.2)), .inl ⟨hj, hv, hin⟩⟩
    · exact ⟨j, Nat.zero_le j, htried j (hmeets.imp_right And.left), .inr ⟨e, he, hmeets, hv⟩⟩

/-! ### The ramp step and the groups deferred -/

theorem rampToward_eq (d target step : Nat) :
    rampToward d target step = if d ≤ target then min target (d + step) else max target (d - step) := by
  unfold rampToward
  repeat' split
  all_goals omega

theorem Snapshot.deferredIn_of_enabled {sn : Snapshot} {y : SnapTouch} (htouch : sn.touch = some y)
    (henabled : y.state = .enabled) (plan : Plan) :
    sn.deferredIn plan = y.groups.countP fun g => g.due && !plan.touchesGroup g.id := by
  simp only [Snapshot.deferredIn, htouch, henabled, beq_self_eq_true, if_true, List.countP_eq_length_filter]

theorem Snapshot.deferredIn_of_not_enabled {sn : Snapshot} {y : SnapTouch} (htouch : sn.touch = some y)
    (henabled : y.state ≠ .enabled) (plan : Plan) : sn.deferredIn plan = 0 := by
  simp only [Snapshot.deferredIn, htouch, beq_eq_false_iff_ne.mpr henabled, Bool.false_eq_true, if_false]

theorem execBuildComplete_eq {p : Panel} {s : State} {b : Build} (hreset : s.inReset = false)
    (hbuild : (s.panel p).builder.build = some b) (hdone : b.done = s.count) :
    exec (.buildComplete p) s =
      .next (s.setPanel p { s.panel p with builder := { (s.panel p).builder with
        build := none
        ready := if b.frameLate then (s.panel p).builder.ready else some b.snapshot.readyPlan } }) := by
  have hdue : s.buildDue p = true := by simp only [State.buildDue, hbuild, hdone, beq_self_eq_true]
  refine congrArg Host.Outcome.next ((unlessReset_run hreset).trans ((if_pos hdue).trans ?_))
  rw [updPanel_eq_setPanel, Builder.complete, hbuild]

/-! ### The snapshot of a plan point -/

/-- The state a plan point leaves: its notices in the ports, and the rest as planned (R8). -/
theorem planPoint_state (p : Panel) (s : State) :
    planPoint p s = { (s.planned p).setPanel p (((s.panel p).planned s.supply.hold).building ((s.planned p).newBuild p)) with
      supervisor := (planPoint p s).supervisor, media := (planPoint p s).media } := by
  rw [planPoint_eq, updPanel_eq_setPanel, State.planned_panel, postAll_eq]

theorem State.planned_owner (s : State) (p : Panel) (x : Placed) : (s.planned p).owner p x = s.owner p x := by
  cases p <;> rfl

theorem State.planned_grants (s : State) (p : Panel) : (s.planned p).grants = s.grants := by cases p <;> rfl

/-- The frame length the plan point fixes (R19). -/
def PanelState.plannedLength (x : PanelState) : Nat := x.lock.decision.nextLength x.timing

theorem planned_newBuild (s : State) (p : Panel) :
    (s.planned p).newBuild p =
      let sn := (s.planned p).snapshot p (s.panel p).plannedLength (s.planned p).touch.listenCandidate
      { snapshot := sn, done := s.count.after sn.buildTime, buildTime := sn.buildTime, frameLate := false } := by
  cases p <;> rfl

theorem planned_snapshot_band {s : State} {p : Panel} {T i : Nat} {listen : Option ListenItem} {y : Band}
    (hy : (s.panel p).bands.records[i]? = some y) :
    ∃ covered mediaOwned, ((s.planned p).snapshot p T listen).bands[i]? =
        some (projectBand (s.panel p).seq (signOf (polarityOf (s.panel p).frame.number)) covered mediaOwned
          ((s.panel p).bands.placedAt i y)) ∧
      (covered = true ↔ s.granted p i) ∧ (mediaOwned = true ↔ s.mediaBand p i y) := by
  refine ⟨_, _, ?_, any_covers_iff, snapshot_owner_iff⟩
  rw [snapshot_getElem?_bands, State.planned_panel, State.planned_grants]
  simp only [State.planned_owner]
  show Option.map _ (s.panel p).bands.records[i]? = _
  rw [hy]
  rfl

theorem snapshot_bands_length (s : State) (p : Panel) (T : Nat) (listen : Option ListenItem) :
    (s.snapshot p T listen).bands.length = (s.panel p).bands.records.length :=
  List.length_map .. |>.trans (placeBands_length ..)

theorem Snapshot.builtLength_eq (sn : Snapshot) : sn.builtLength = max sn.length sn.baseCost := by
  rw [Snapshot.builtLength, Snapshot.stretches]
  split
  · have hlt := of_decide_eq_true ‹_›
    omega
  · have hle := of_decide_eq_false (Bool.eq_false_iff.mpr ‹_›)
    omega

/-- The cluster's plan point posts nothing to the media port (R20). -/
theorem planPoint_cluster_media (s : State) : (planPoint .cluster s).media = s.media := by
  rw [(planPoint_ports .cluster s).2, State.lockTold_eq]
  split <;> rfl

theorem countP_projected_groups (running : Option Executing) (gs : List Group) :
    ((gs.map (projectGroup running)).filter SnapGroup.enabled).length = gs.countP fun g => g.enabled := by
  rw [← List.countP_eq_length_filter, List.countP_map]
  rfl

/-- What a plan point projects of a band by its slots in the plan in execution (R45). -/
theorem projectBand_by_slots (running : Option Executing) (sign : Int) (covered mediaOwned : Bool) (x : Placed) :
    let z := projectBand running sign covered mediaOwned x
    ∀ e, running = some e →
      (refreshesBand (e.plan.slots.drop e.position) x.index = true →
        z.dirty = false ∧ z.hold = 0 ∧ z.balance = x.band.balance + sign) ∧
      (refreshesBand (e.plan.slots.drop e.position) x.index = false →
        refreshesBand (e.plan.slots.take e.position) x.index = true →
        z.dirty = x.band.dirty ∧ z.hold = x.band.hold ∧ z.balance = x.band.balance) ∧
      (refreshesBand e.plan.slots x.index = false →
        z.dirty = x.band.dirty ∧ z.hold = min (x.band.hold + 1) x.band.holdLimit ∧ z.balance = x.band.balance) := by
  intro z e hrunning
  subst hrunning
  exact ⟨projectBand_still_due, projectBand_done, projectBand_skipped⟩

/-- The predictions of the centre's plan point: none uncoupled, else those of the cluster's frames (R57). -/
theorem predictions_iff (s : State) (T : Nat) :
    let coupled := s.touch.scan.crossCoupling = true ∧ s.cluster.power.state = .scanning
    (¬coupled → s.predictions T = []) ∧
      (coupled → ∀ sc tC st len, s.cluster.frame.start = some sc → s.cluster.frame.length = some tC → 0 < tC →
        s.centre.frame.start = some st → s.centre.frame.length = some len →
        let begins := fun (j : Nat) => ((j * tC : Nat) : Int) - ((st.after len).since sc : Int)
        ∀ v : Int, v ∈ s.predictions T ↔
          (∃ j, 1 ≤ j ∧ v = begins j ∧ 0 ≤ v ∧ v < T) ∨
          ∃ j, ∃ edge ∈ edgeList tC s.cluster.dimmer.applied s.cluster.dimmer.settings.periods,
            (j = 0 ∨ (begins j < T ∧ 0 < begins j + tC)) ∧ v = begins j + (edge.time : Int)) := by
  intro coupled
  have htest : (s.touch.scan.crossCoupling && s.scanning .cluster) = true ↔ coupled := by
    rw [Bool.and_eq_true, State.scanning, beq_iff_eq]
    rfl
  refine ⟨fun h => if_neg (mt htest.mp h), ?_⟩
  intro h sc tC st len hsc htC hpos hst hlen begins v
  have hpredicted : s.predictions T = predictFrames T tC ((st.after len).since sc)
      (edgeList tC s.cluster.dimmer.applied s.cluster.dimmer.settings.periods)
      ((T + (st.after len).since sc) / tC + 1) 0 := by
    simp only [State.predictions, if_pos (htest.mpr h), hsc, htC, hst, hlen]
  rw [hpredicted, mem_predictions_iff hpos]

theorem State.planned_predictions (s : State) (T : Nat) : (s.planned .centre).predictions T = s.predictions T := by
  have htouch : (s.planned .centre).touch.scan = s.touch.scan :=
    (congrArg Touch.scan s.planned_touch).trans (by rw [Touch.hopped_eq])
  have hscanning : (s.planned .centre).scanning .cluster = s.scanning .cluster := rfl
  rw [State.predictions, htouch, hscanning]
  rfl

/-- Settles O16: the build of a plan point, its completion, and the groups deferred. -/
theorem plansAreBuiltFromSnapshots : Obligations.PlansAreBuiltFromSnapshots := by
  refine ⟨?_, fun p s b hreset hbuild hdone => ?_, fun sn plan => ⟨fun h => ?_,
    fun y htouch => ⟨fun h => Snapshot.deferredIn_of_not_enabled htouch h plan, fun h => ?_⟩⟩⟩
  · intro p s hreset hdue x n d goal duty
    have hpanel := planPoint_panel p s
    have hduty : d.nextDuty s.supply.hold = duty := rampToward_eq ..
    have hbuild : (s.planned p).newBuild p = _ := planned_newBuild s p
    have hsigned : signOf (polarityOf x.frame.number) = n := signOf_polarityOf _
    have hlength : ((s.planned p).newBuild p).snapshot.bands.length = x.bands.records.length := by
      rw [hbuild]
      exact (snapshot_bands_length ..).trans (by rw [State.planned_panel]; rfl)
    refine ⟨planPoint p s, (s.planned p).newBuild p, x.plannedLength, exec_planPoint hreset hdue, ?_, ?_, ?_, rfl, ?_, ?_, ?_,
      ?_, hlength, ?_, ?_, ?_, ?_, fun i y hy => ?_, ?_, ?_⟩
    · rw [hpanel]; rfl
    · rw [hpanel, ← hduty]; rfl
    · rw [hpanel]; rfl
    · cases p <;> rfl
    · cases p <;> rfl
    · cases p <;> rfl
    · cases p <;> rfl
    · cases p <;> rfl
    · cases p <;> rfl
    · rw [← hlength, hbuild]
      cases p with
      | cluster => rfl
      | centre => exact congrArg (fun k => _ + 40 * k) ((countP_projected_groups ..).trans (by rw [State.planned_touch, Touch.hopped_eq]))
    · cases p <;> rfl
    · obtain ⟨covered, mediaOwned, hz, hcovered, hmedia⟩ := planned_snapshot_band (T := x.plannedLength)
        (listen := (s.planned p).touch.listenCandidate) hy
      rw [hsigned] at hz
      obtain ⟨hlines, hcls, hlimit, hcov, hown⟩ := projectBand_copies x.seq n covered mediaOwned (x.bands.placedAt i y)
      exact ⟨_, by rw [hbuild]; exact hz, hlines, hcls, hlimit, by rwa [hcov], by rwa [hown], 
        projectBand_by_slots x.seq n covered mediaOwned (x.bands.placedAt i y)⟩
    · rintro rfl
      refine ⟨rfl, ?_⟩
      have hmedia : (planPoint .cluster s).media = s.media :=
        planPoint_cluster_media s
      have hstate := planPoint_state .cluster s
      rw [hmedia] at hstate
      rw [show (planPoint .cluster s).cluster = _ from hpanel]
      exact hstate
    · rintro rfl
      have htouch := planPoint_touch s
      have hscan : s.touch.hopped.scan = s.touch.scan := by rw [Touch.hopped_eq]
      have hgroups : s.touch.hopped.groups = s.touch.groups := by rw [Touch.hopped_eq]
      have hcandidates : s.touch.hopped.candidates = s.touch.candidates := by rw [Touch.hopped_eq]
      refine ⟨_, rfl, ?_, ?_, ?_, fun i g hg => ?_, fun c hc => ?_, ?_, ?_, ?_, ?_, ?_, ?_⟩
      · have hstate : s.touch.hopped.state = s.touch.state := by rw [Touch.hopped_eq]
        exact hstate
      · rw [htouch]; rfl
      · show (s.touch.hopped.groups.map _).length = _
        rw [List.length_map, hgroups]
      · refine ⟨projectGroup x.seq g, ?_, rfl, rfl, rfl, rfl, rfl, rfl⟩
        show (s.touch.hopped.groups.map (projectGroup x.seq))[i]? = _
        rw [List.getElem?_map, hgroups, hg]
        rfl
      · show (s.touch.hopped.candidates[s.touch.hopped.active]?.map Candidate.period).getD 0 = _
        rw [htouch] at hc
        rw [hcandidates, hc]
        rfl
      · exact congrArg ScanSettings.tGuard hscan
      · exact congrArg ScanSettings.edgeGuard hscan
      · exact congrArg ScanSettings.listenBursts hscan
      · rw [← hduty]; rfl
      · have hpredicted : (s.planned .centre).predictions x.plannedLength = s.predictions x.plannedLength :=
          s.planned_predictions _
        obtain ⟨hnone, hsome⟩ := predictions_iff s x.plannedLength
        exact ⟨fun h => hpredicted.trans (hnone h), fun h sc tC st len hsc htC hpos hst hlen v => by
          refine Iff.trans ?_ (hsome h sc tC st len hsc htC hpos hst hlen v)
          rw [← hpredicted]
          rfl⟩
      · have hstate := planPoint_state .centre s
        rw [htouch, show (planPoint .centre s).centre = _ from hpanel, ← Touch.hopped_eq]
        exact hstate
  · have hrun := execBuildComplete_eq hreset hbuild hdone
    refine ⟨_, hrun, ?_, ?_, fun h => ?_, fun h => ⟨b.snapshot.readyPlan, ?_, rfl, rfl, rfl, ?_, rfl, ?_⟩⟩
    · rw [panel_setPanel]
    · rw [panel_setPanel]
    · rw [panel_setPanel]
      exact if_pos h
    · rw [panel_setPanel]
      exact if_neg (Bool.not_eq_true _ ▸ h)
    · show b.snapshot.builtLength = _
      exact Snapshot.builtLength_eq _
    · exact List.any_eq_true
  · simp only [Snapshot.deferredIn, h]
  · rw [Snapshot.deferredIn_of_enabled htouch h]
    rfl

end Sys2Proof.Machine

/-!
PROOF. The edges of a frame and their driving (O38).
-/

namespace Sys2Proof.Machine

open Sys2Proof

/-- The edges of the periods from `k` on: each period's rise, and its fall below full duty (R108). -/
theorem mem_periodEdges {P f : Nat} {full : Bool} {x : Edge} (n k : Nat) :
    x ∈ periodEdges P f full n k ↔ ∃ j, k ≤ j ∧ j < k + n ∧
      (x = { time := j * P, rising := true } ∨ (full = false ∧ x = { time := j * P + f, rising := false })) := by
  induction n generalizing k with
  | zero =>
    refine iff_of_false List.not_mem_nil ?_
    rintro ⟨j, hlow, hhigh, -⟩
    omega
  | succ n ih =>
    have hfirst : x ∈ periodEdges P f full (n + 1) k ↔
        (x = { time := k * P, rising := true } ∨ (full = false ∧ x = { time := k * P + f, rising := false })) ∨
          x ∈ periodEdges P f full n (k + 1) := by
      rw [periodEdges]
      cases full <;> simp [or_assoc]
    rw [hfirst, ih]
    constructor
    · rintro (h | ⟨j, hlow, hhigh, hj⟩)
      · exact ⟨k, Nat.le_refl k, by omega, h⟩
      · exact ⟨j, by omega, by omega, hj⟩
    · rintro ⟨j, hlow, hhigh, hj⟩
      rcases Nat.eq_or_lt_of_le hlow with rfl | hlt
      · exact .inl hj
      · exact .inr ⟨j, hlt, by omega, hj⟩

/-- Edges follow one another when a fall lies within its period. -/
theorem periodEdges_pairwise {P f : Nat} {full : Bool} (hP : 0 < P) (hf : full = false → 0 < f ∧ f < P) (n k : Nat) :
    (periodEdges P f full n k).Pairwise fun x y => x.time < y.time := by
  induction n generalizing k with
  | zero => exact .nil
  | succ n ih =>
    have hnext : (k + 1) * P = k * P + P := Nat.succ_mul k P
    have hlater : ∀ y ∈ periodEdges P f full n (k + 1), k * P + P ≤ y.time := fun y hy => by
      obtain ⟨j, hlow, -, hj⟩ := (mem_periodEdges n (k + 1)).mp hy
      have hmul : (k + 1) * P ≤ j * P := Nat.mul_le_mul_right P hlow
      rcases hj with rfl | ⟨-, rfl⟩ <;> dsimp only <;> omega
    rw [periodEdges]
    cases full with
    | true => exact .cons (fun y hy => Nat.lt_of_lt_of_le (Nat.lt_add_of_pos_right hP) (hlater y hy)) (ih (k + 1))
    | false =>
      obtain ⟨hpos, hlt⟩ := hf rfl
      refine .cons (fun y hy => ?_) (.cons (fun y hy => ?_) (ih (k + 1)))
      · rcases List.mem_cons.mp hy with rfl | hy
        · exact Nat.lt_add_of_pos_right hpos
        · exact Nat.lt_of_lt_of_le (Nat.lt_add_of_pos_right hP) (hlater y hy)
      · exact Nat.lt_of_lt_of_le (Nat.add_lt_add_left hlt _) (hlater y hy)

/-- Below full duty the fall of a period lies within it. -/
theorem fallOffset_bounds {P d : Nat} (hP : 1024 ≤ P) (hd : 0 < d) (hfull : d < 1024) :
    0 < d * P / 1024 ∧ d * P / 1024 < P := by
  have hlow : 1 * P ≤ d * P := Nat.mul_le_mul_right P hd
  have hhigh : (d + 1) * P ≤ 1024 * P := Nat.mul_le_mul_right P hfull
  rw [Nat.succ_mul] at hhigh
  generalize d * P = product at *
  omega

/-- The edge list of a duty that is not 0 (R108). -/
theorem edgeList_facts {T d m : Nat} (hT : 100000 ≤ T) (hm : 1 ≤ m) (hm16 : m ≤ 16) (hd : 0 < d) :
    (∀ x, x ∈ edgeList T d m ↔ ∃ k, k < m ∧ (x = { time := k * (T / m), rising := true } ∨
        (d < 1024 ∧ x = { time := k * (T / m) + d * (T / m) / 1024, rising := false }))) ∧
      (edgeList T d m).Pairwise (fun x y => x.time < y.time) ∧ ∀ x ∈ edgeList T d m, x.time < T := by
  have hP : 1024 ≤ T / m := (Nat.le_div_iff_mul_le hm).mpr (by omega)
  have hperiods : m * (T / m) ≤ T := Nat.mul_div_le T m
  have hlist : edgeList T d m = periodEdges (T / m) (d * (T / m) / 1024) (decide (1024 ≤ d)) m 0 := if_neg (by omega)
  have hmem : ∀ x, x ∈ edgeList T d m ↔ ∃ k, k < m ∧ (x = { time := k * (T / m), rising := true } ∨
      (d < 1024 ∧ x = { time := k * (T / m) + d * (T / m) / 1024, rising := false })) := fun x => by
    rw [hlist, mem_periodEdges]
    simp only [Nat.zero_le, true_and, Nat.zero_add, decide_eq_false_iff_not, Nat.not_le]
  refine ⟨hmem, ?_, fun x hx => ?_⟩
  · rw [hlist]
    exact periodEdges_pairwise (by omega) (fun h => fallOffset_bounds hP hd (Nat.not_le.mp (of_decide_eq_false h))) m 0
  · obtain ⟨k, hk, hx⟩ := (hmem x).mp hx
    have hend : (k + 1) * (T / m) ≤ m * (T / m) := Nat.mul_le_mul_right _ hk
    rw [Nat.succ_mul] at hend
    rcases hx with rfl | ⟨hfull, rfl⟩
    · dsimp only
      omega
    · have hfall := (fallOffset_bounds hP hd hfull).2
      dsimp only
      omega

/-- Settles O38: the list of edges by R108, and the next edge driven at its time. -/
theorem edgesAreFormedAndDriven : Obligations.EdgesAreFormedAndDriven := by
  refine ⟨fun T d m hT hm hm16 _ => ?_, ?_⟩
  · rcases Nat.eq_zero_or_pos d with rfl | hd
    · have hnil : edgeList T 0 m = [] := if_pos rfl
      rw [hnil]
      exact ⟨fun _ => rfl, fun h => absurd h (Nat.lt_irrefl 0), .nil, fun _ hx => nomatch hx⟩
    · obtain ⟨hmem, hpairwise, hwithin⟩ := edgeList_facts hT hm hm16 hd
      exact ⟨fun h => absurd h hd.ne', fun _ => hmem, hpairwise, hwithin⟩
  · intro p s start e rest hreset x d hstart hedges hcount
    have hdue : s.edgeDue p = true := by
      simp only [State.edgeDue, show (s.panel p).dimmer.edges = e :: rest from hedges, PanelState.frameTick,
        show (s.panel p).frame.start = some start from hstart, Option.map_some, hcount, beq_self_eq_true]
    refine ⟨if e.rising then (if d.darkNow then d.active && Config.fullDutyTail p s.free else true) else false, ?_,
      fun h => by rw [h]; rfl, fun h hdark => by rw [h, hdark]; rfl, fun h hdark hactive => by
        rw [h, hdark, hactive]; rfl⟩
    refine congrArg Host.Outcome.next ((unlessReset_run hreset).trans ((if_pos hdue).trans ?_))
    have hdriven : d.drive (Config.fullDutyTail p s.free) = { d with
        edges := rest
        active := if e.rising then (if d.darkNow then d.active && Config.fullDutyTail p s.free else true) else false } := by
      rw [Dimmer.drive, hedges]
    rw [← hdriven]
    cases p <;> rfl

end Sys2Proof.Machine

/-!
PROOF. Results and deadlines of the sense link (O35).
-/

namespace Sys2Proof.Machine

open Sys2Proof

theorem modifyCandidate_eq_modify (i : Nat) (f : Candidate → Candidate) (cs : List Candidate) :
    modifyCandidate i f cs = cs.modify i f := by
  induction cs generalizing i with
  | nil => cases i <;> rfl
  | cons c cs ih =>
    cases i with
    | zero => rfl
    | succ i => rw [modifyCandidate, ih]; rfl

/-- The wait found by its tag is the first one with it. -/
theorem find?_first_wait {tag : Byte} {before after : List Wait} {w : Wait} (hw : w.tag = tag)
    (hbefore : ∀ v ∈ before, v.tag ≠ tag) : (before ++ w :: after).find? (fun w => w.tag == tag) = some w := by
  have hnone : before.find? (fun w => w.tag == tag) = none :=
    List.find?_eq_none.mpr fun v hv => by rw [beq_iff_eq]; exact hbefore v hv
  rw [List.find?_append, hnone, Option.none_or]
  exact List.find?_cons_of_pos (beq_iff_eq.mpr hw)

theorem removeWait_first {tag : Byte} {before after : List Wait} {w : Wait} (hw : w.tag = tag)
    (hbefore : ∀ v ∈ before, v.tag ≠ tag) : removeWait tag (before ++ w :: after) = before ++ after := by
  induction before with
  | nil => exact if_pos hw
  | cons v before ih =>
    obtain ⟨hv, hrest⟩ := List.forall_mem_cons.mp hbefore
    exact (if_neg hv).trans (congrArg (v :: ·) (ih hrest))

theorem removeExpired_first {tag : Byte} {now : Tick} {before after : List Wait} {w : Wait} (hw : w.tag = tag ∧ w.deadline = now)
    (hbefore : ∀ v ∈ before, ¬(v.tag = tag ∧ v.deadline = now)) :
    removeExpired tag now (before ++ w :: after) = before ++ after := by
  induction before with
  | nil => exact if_pos hw
  | cons v before ih =>
    obtain ⟨hv, hrest⟩ := List.forall_mem_cons.mp hbefore
    exact (if_neg hv).trans (congrArg (v :: ·) (ih hrest))

theorem State.deadlineDue_of_mem {s : State} {tag : Byte} {w : Wait} (hmem : w ∈ s.touch.waits) (hw : w.tag = tag)
    (hdeadline : w.deadline = s.count) : s.deadlineDue tag = true :=
  List.any_eq_true.mpr ⟨w, hmem, by rw [hw, hdeadline, beq_self_eq_true, beq_self_eq_true]; rfl⟩

/-- A candidate after a result of a wait (R93, R98). -/
def Candidate.learned (w : Wait) (n : Nat) (c : Candidate) : Candidate :=
  if c.period = w.period then { c with average := newAverage c.average (16 * n) } else c

theorem Touch.takeResult_of_wait {t : Touch} {tag : Byte} {n : Nat} {before after : List Wait} {w : Wait}
    (hwaits : t.waits = before ++ w :: after) (hw : w.tag = tag) (hbefore : ∀ v ∈ before, v.tag ≠ tag) :
    t.takeResult tag n = { t with
      waits := before ++ after, missing := 0, candidates := t.candidates.modify w.candidate (Candidate.learned w n) } := by
  have hfound : (t.waits.find? fun w => w.tag == tag) = some w := by rw [hwaits, find?_first_wait hw hbefore]
  rw [Touch.takeResult, hfound]
  show { t.learn w n with waits := removeWait tag t.waits, missing := 0 } = _
  rw [hwaits, removeWait_first hw hbefore, Touch.learn, modifyCandidate_eq_modify]
  rfl

theorem Candidate.learned_eq (w : Wait) (n : Nat) (c : Candidate) (i : Nat) :
    (if w.candidate = i then c.learned w n else c) = { c with
      average :=
        if i = w.candidate ∧ c.period = w.period then
          if c.average = 65520 then 16 * n else ((c.average : Int) + ((16 * n : Nat) - (c.average : Int)).tdiv 8).toNat
        else c.average } := by
  by_cases hi : w.candidate = i
  · by_cases hperiod : c.period = w.period
    · rw [if_pos hi, Candidate.learned, if_pos hperiod, if_pos ⟨hi.symm, hperiod⟩]
      rfl
    · rw [if_pos hi, Candidate.learned, if_neg hperiod, if_neg fun h => hperiod h.2]
  · rw [if_neg hi, if_neg fun h => hi h.1.symm]

theorem exec_senseResult {s : State} (hreset : s.inReset = false) (tag : Byte) (noise : Noise) (saturated : Bool) :
    exec (.senseResult tag noise saturated true) s =
      .next { s with touch := s.touch.takeResult tag (if saturated then 4095 else noise.toNat) } :=
  congrArg Host.Outcome.next ((unlessReset_run hreset).trans (if_pos rfl))

/-- A due deadline: the wait expires, and a suspension is told (R94). -/
theorem exec_resultDeadline {s : State} {tag : Byte} (hreset : s.inReset = false) (hdue : s.deadlineDue tag = true) :
    exec (.resultDeadline tag) s =
      .next (if s.touch.state = .enabled ∧ (s.touch.expire tag s.count).state = .suspended then
        post .media (s.noticeOf .centre (.touchFrontendFault tag (s.touch.expire tag s.count).waits.length))
          { s with touch := s.touch.expire tag s.count }
      else { s with touch := s.touch.expire tag s.count }) :=
  congrArg Host.Outcome.next ((unlessReset_run hreset).trans (if_pos hdue))

theorem Touch.expire_of_wait {t : Touch} {tag : Byte} {now : Tick} {before after : List Wait} {w : Wait}
    (hwaits : t.waits = before ++ w :: after) (hw : w.tag = tag ∧ w.deadline = now)
    (hbefore : ∀ v ∈ before, ¬(v.tag = tag ∧ v.deadline = now)) :
    t.expire tag now = { t with
      waits := before ++ after
      missingResults := t.missingResults + 1
      missing := min (t.missing + 1) 3
      state := if t.state = .enabled ∧ 3 ≤ t.missing + 1 then .suspended else t.state } := by
  have hthird : min (t.missing + 1) 3 = 3 ↔ 3 ≤ t.missing + 1 := by omega
  simp only [Touch.expire, hwaits, removeExpired_first hw hbefore, hthird]

/-- Settles O35: the first wait of the tag takes the result, and the one due now expires. -/
theorem resultsAndDeadlines : Obligations.ResultsAndDeadlines := by
  intro tag noise saturated s hreset x run n
  refine ⟨congrArg Host.Outcome.next (unlessReset_run hreset), fun hnone => ?_, fun before w after hwaits hw =>
    ⟨fun hbefore => ⟨x.candidates.modify w.candidate (Candidate.learned w n), ?_, List.length_modify .., fun i c hc => ?_⟩,
      fun hbefore hdeadline => ?_⟩⟩
  · have hfound : (x.waits.find? fun w => w.tag == tag) = none :=
      List.find?_eq_none.mpr fun w hw => by rw [beq_iff_eq]; exact hnone w hw
    show exec _ s = _
    rw [exec_senseResult hreset, Touch.takeResult, hfound]
  · show exec _ s = _
    rw [exec_senseResult hreset, Touch.takeResult_of_wait hwaits hw hbefore]
  · rw [List.getElem?_modify, hc, ← Candidate.learned_eq]
    rfl
  · intro suspends t
    have hexpire := Touch.expire_of_wait hwaits ⟨hw, hdeadline⟩ hbefore
    have hmem : w ∈ s.touch.waits := by
      rw [show s.touch.waits = _ from hwaits]
      exact List.mem_append_right _ List.mem_cons_self
    have hrun := exec_resultDeadline hreset (State.deadlineDue_of_mem hmem hw hdeadline)
    have hstate : { s with touch := s.touch.expire tag s.count } = t := by rw [hexpire]
    have hwaiting : (s.touch.expire tag s.count).waits = before ++ after := by rw [hexpire]
    have hsuspended : (s.touch.state = .enabled ∧ (s.touch.expire tag s.count).state = .suspended) ↔ suspends := by
      rw [hexpire]
      dsimp only
      split
      · exact iff_of_true ⟨‹_ ∧ _›.1, rfl⟩ ‹_›
      · exact iff_of_false (fun h => by rw [h.1] at h; exact absurd h.2 (by decide)) ‹_›
    rw [hstate, hwaiting] at hrun
    exact ⟨fun h => hrun.trans (by rw [if_neg (mt hsuspended.mp h)]), fun h => hrun.trans (by rw [if_pos (hsuspended.mpr h)])⟩

end Sys2Proof.Machine

/-!
PROOF. The slots of a frame: what a slot start tells and changes (O30, O31).
-/

namespace Sys2Proof.Machine

open Sys2Proof

/-! ### Line watches -/

/-- A panel whose watch at a position has seen a band's slot start (R85). -/
def PanelState.fired (lo hi : Nat) (q : Port) (position : Nat) (x : PanelState) : PanelState :=
  x.setWatches q ((x.watches q).put position (watchAfter lo hi ((x.watches q).get position)))

theorem WatchPair.put_get (w : WatchPair) (position : Nat) : w.put position (w.get position) = w := by
  unfold WatchPair.put WatchPair.get
  split <;> rfl

theorem PanelState.fired_of_same {lo hi : Nat} {q : Port} {position : Nat} {x : PanelState}
    (h : watchAfter lo hi ((x.watches q).get position) = (x.watches q).get position) : x.fired lo hi q position = x := by
  rw [PanelState.fired, h, WatchPair.put_get]
  cases q <;> rfl

theorem updPanel_of_same {s : State} {p : Panel} {f : PanelState → PanelState} (h : f (s.panel p) = s.panel p) :
    s.updPanel p f = s := by rw [updPanel_eq_setPanel, h, setPanel_panel_self]

theorem fireWatch_eq (p : Panel) (b : Placed) (refreshed : Bool) (q : Port) (position : Nat) (s : State) :
    fireWatch p b refreshed q position s =
      postAll (reachedAt p s b.first b.stop b.index refreshed q position (((s.panel p).watches q).get position))
        (s.updPanel p (PanelState.fired b.first b.stop q position)) := by
  unfold fireWatch
  rcases Option.eq_none_or_eq_some (((s.panel p).watches q).get position) with h | ⟨w, h⟩
  · have hsame := PanelState.fired_of_same (lo := b.first) (hi := b.stop) (x := s.panel p) (q := q) (position := position)
      (by rw [h]; rfl)
    simp only [h]
    exact (updPanel_of_same hsame).symm
  · simp only [h, reachedAt]
    by_cases hin : b.first ≤ w.line ∧ w.line < b.stop
    · rw [if_pos hin, if_pos hin]
      cases hmode : w.mode with
      | repeating =>
        have hsame := PanelState.fired_of_same (lo := b.first) (hi := b.stop) (x := s.panel p) (q := q) (position := position)
          (by rw [h, watchAfter, if_neg fun hw => by rw [hmode] at hw; exact absurd hw.2.2 (by decide)])
        rw [updPanel_of_same hsame]
        rfl
      | oneShot =>
        have hgone : watchAfter b.first b.stop (some w) = none := if_pos ⟨hin.1, hin.2, hmode⟩
        have hfired : s.updPanel p (PanelState.fired b.first b.stop q position) =
            s.updPanel p fun x => x.setWatches q ((x.watches q).put position none) := by
          rw [updPanel_eq_setPanel, updPanel_eq_setPanel, PanelState.fired, h, hgone]
        rw [hfired]
        rfl
    · have hsame := PanelState.fired_of_same (lo := b.first) (hi := b.stop) (x := s.panel p) (q := q) (position := position)
        (by rw [h, watchAfter, if_neg fun hw => hin ⟨hw.1, hw.2.1⟩])
      rw [if_neg hin, if_neg hin]
      exact (updPanel_of_same hsame).symm

theorem reachedAt_congr {s t : State} {p : Panel} (h : (t.panel p).frame.number = (s.panel p).frame.number)
    (lo hi i : Nat) (refreshed : Bool) (q : Port) (position : Nat) (o : Option Watch) :
    reachedAt p t lo hi i refreshed q position o = reachedAt p s lo hi i refreshed q position o := by
  simp only [reachedAt, noticeOf_congr h]

theorem PanelState.fired_number (lo hi : Nat) (q : Port) (position : Nat) (x : PanelState) :
    (x.fired lo hi q position).frame.number = x.frame.number := by cases q <;> rfl

/-- One more watch, after notices and a change of the panel. -/
theorem fireWatch_postAll {p : Panel} {s : State} {f : PanelState → PanelState}
    (hf : (f (s.panel p)).frame.number = (s.panel p).frame.number) (b : Placed) (refreshed : Bool) (q : Port)
    (position : Nat) (told : List (Port × Notice)) :
    fireWatch p b refreshed q position (postAll told (s.updPanel p f)) =
      postAll (told ++ reachedAt p s b.first b.stop b.index refreshed q position (((f (s.panel p)).watches q).get position))
        (s.updPanel p fun x => (f x).fired b.first b.stop q position) := by
  have hpanel : (postAll told (s.updPanel p f)).panel p = f (s.panel p) := by rw [postAll_panel, panel_updPanel]
  rw [fireWatch_eq, postAll_updPanel, updPanel_updPanel, ← postAll_append, hpanel,
    reachedAt_congr (s := s) (by rw [hpanel, hf])]

/-- A panel whose watches have seen a band's slot start (R85). -/
def PanelState.watched (lo hi : Nat) (x : PanelState) : PanelState :=
  { x with supervisorWatch := x.supervisorWatch.after lo hi, mediaWatch := x.mediaWatch.after lo hi }

theorem fireWatches_postAll {p : Panel} {s : State} {f : PanelState → PanelState}
    (hf : (f (s.panel p)).frame.number = (s.panel p).frame.number)
    (hsupervisor : (f (s.panel p)).supervisorWatch = (s.panel p).supervisorWatch)
    (hmedia : (f (s.panel p)).mediaWatch = (s.panel p).mediaWatch) (b : Placed) (refreshed : Bool)
    (told : List (Port × Notice)) :
    fireWatches p b refreshed (postAll told (s.updPanel p f)) =
      postAll (told ++ s.reached p b.first b.stop b.index refreshed)
        (s.updPanel p fun x => (f x).watched b.first b.stop) := by
  rw [fireWatches, fireWatch_postAll hf, fireWatch_postAll (by rw [PanelState.fired_number, hf]),
    fireWatch_postAll (by rw [PanelState.fired_number, PanelState.fired_number, hf]),
    fireWatch_postAll (by rw [PanelState.fired_number, PanelState.fired_number, PanelState.fired_number, hf])]
  rw [State.reached, ← hsupervisor, ← hmedia]
  simp only [List.append_assoc]
  rfl

/-! ### Slots that are due -/

theorem State.slotDue_of {s : State} {p : Panel} {e : Executing} {start : Tick} {slot : Slot}
    (hseq : (s.panel p).seq = some e) (hstart : (s.panel p).frame.start = some start)
    (hslot : e.plan.slots[e.position]? = some slot) (hcount : s.count = start.after slot.start) :
    s.slotDue p = some slot := by
  simp only [State.slotDue, hseq, Option.bind_some, Executing.nextSlot, hslot, PanelState.frameTick, hstart,
    Option.map_some, ← hcount, beq_self_eq_true, if_true]

theorem State.slotDue_of_none {s : State} {p : Panel} {e : Executing} {start : Tick}
    (hseq : (s.panel p).seq = some e) (hstart : (s.panel p).frame.start = some start)
    (hnot : ∀ slot, e.plan.slots[e.position]? = some slot → s.count ≠ start.after slot.start) : s.slotDue p = none := by
  simp only [State.slotDue, hseq, Option.bind_some, Executing.nextSlot]
  rcases Option.eq_none_or_eq_some e.plan.slots[e.position]? with h | ⟨slot, h⟩
  · simp only [h]
  · have hother : (some (start.after slot.start) == some s.count) = false :=
      beq_eq_false_iff_ne.mpr fun heq => hnot slot h (Option.some.inj heq).symm
    simp only [h, PanelState.frameTick, hstart, Option.map_some, hother, Bool.false_eq_true, if_false]

/-! ### Grants under a REFRESH slot -/

/-- A state with other grant records. -/
def State.withGrants (s : State) (records : List Grant) : State := { s with grants := { s.grants with records := records } }

theorem State.withGrants_updPanel (s : State) (records : List Grant) (p : Panel) (f : PanelState → PanelState) :
    (s.withGrants records).updPanel p f = (s.updPanel p f).withGrants records := by cases p <;> rfl

theorem State.withGrants_panel (s : State) (records : List Grant) (p : Panel) :
    (s.withGrants records).panel p = s.panel p := by cases p <;> rfl

theorem State.withGrants_setPanel (s : State) (records : List Grant) (p : Panel) (x : PanelState) :
    (s.setPanel p x).withGrants records =
      { s.setPanel p x with grants := { s.grants with records := records } } := by cases p <;> rfl

/-- The grants that the refresh of a band tears (R133). -/
def tornBy (p : Panel) (i : Nat) (gs : List Grant) : List Grant :=
  gs.map fun g => if g.covers p i then { g with state := .torn } else g

/-- The GRANT_TORN of a refresh (R133). -/
def State.tornTold (s : State) (p : Panel) (i : Nat) : List (Port × Notice) :=
  (s.grants.records.filter fun g => g.covers p i && decide (g.state ≠ .torn)).map fun g =>
    (g.port, s.noticeOf p (.grantTorn g.id i g.state))

theorem Grant.covers_iff {g : Grant} {p : Panel} {i : Nat} :
    g.covers p i = true ↔ g.panel = p ∧ g.first ≤ i ∧ i ≤ g.last := by
  simp only [Grant.covers, Bool.and_eq_true, decide_eq_true_eq, and_assoc]

/-- At most one of the grants of a legal list covers a band (R129). -/
theorem eq_of_covers {gs : List Grant} (happart : gs.Pairwise grantsApart) {g h : Grant} {p : Panel} {i : Nat} (hg : g ∈ gs)
    (hh : h ∈ gs) (hgi : g.covers p i = true) (hhi : h.covers p i = true) : g = h := by
  by_contra hne
  have hsymm : Std.Symm grantsApart := ⟨fun a b hab hpanel => (hab hpanel.symm).symm⟩
  obtain ⟨hgp, hglow, hghigh⟩ := Grant.covers_iff.mp hgi
  obtain ⟨hhp, hhlow, hhhigh⟩ := Grant.covers_iff.mp hhi
  have := happart.forall hg hh hne (hgp.trans hhp.symm)
  omega

theorem State.coveringGrant_isSome_iff {s : State} {p : Panel} {i : Nat} :
    (s.coveringGrant p i).isSome = true ↔ s.granted p i := by
  simp only [State.coveringGrant, List.find?_isSome, Grant.covers_iff, State.granted]

/-- Setting the state of a grant by its id, in a list of different ids. -/
theorem map_id_eq_map {gs : List Grant} (hids : gs.Pairwise idsApart) {g : Grant} (hg : g ∈ gs) {hit : Grant → Bool}
    (hhit : ∀ x ∈ gs, hit x = true ↔ x = g) (st : GrantState) :
    (gs.map fun x => if x.id = g.id then { x with state := st } else x) =
      gs.map fun x => if hit x then { x with state := st } else x :=
  List.map_congr_left fun x hx => ite_congr
    (propext ⟨fun h => (hhit x hx).mpr (eq_of_id_eq hids hx hg h), fun h => congrArg Grant.id ((hhit x hx).mp h)⟩)
    (fun _ => rfl) fun _ => rfl

theorem filter_of_none {gs : List Grant} {p : Panel} {i : Nat} (h : ∀ g ∈ gs, g.covers p i = false) (test : Grant → Bool) :
    gs.filter (fun g => g.covers p i && test g) = [] :=
  List.filter_eq_nil_iff.mpr fun g hg => by rw [h g hg, Bool.false_and]; exact Bool.false_ne_true

theorem tornBy_of_none {gs : List Grant} {p : Panel} {i : Nat} (h : ∀ g ∈ gs, g.covers p i = false) :
    tornBy p i gs = gs := by
  have hsame : tornBy p i gs = gs.map id := List.map_congr_left fun g hg => if_neg (by rw [h g hg]; exact Bool.false_ne_true)
  rw [hsame, List.map_id]

theorem tearGrant_eq {s : State} (hids : s.grants.records.Pairwise idsApart) (happart : s.grants.records.Pairwise grantsApart)
    (p : Panel) (i : Nat) :
    tearGrant p i s = postAll (s.tornTold p i) (s.withGrants (tornBy p i s.grants.records)) := by
  rcases Option.eq_none_or_eq_some (s.coveringGrant p i) with h | ⟨g, h⟩
  · have hnone : ∀ g ∈ s.grants.records, g.covers p i = false := fun g hg =>
      Bool.not_eq_true _ ▸ List.find?_eq_none.mp h g hg
    simp only [tearGrant, h]
    rw [State.tornTold, filter_of_none hnone, tornBy_of_none hnone]
    rfl
  · have hg : g ∈ s.grants.records := List.mem_of_find?_eq_some h
    obtain ⟨hcovers, before, after, hsplit, hbefore⟩ := List.find?_eq_some_iff_append.mp h
    have honly : ∀ x ∈ s.grants.records, x.covers p i = true ↔ x = g := fun x hx =>
      ⟨fun hx' => eq_of_covers happart hx hg hx' hcovers, fun hx' => hx' ▸ hcovers⟩
    have hset := map_id_eq_map hids hg honly .torn
    have hbeforeNone : ∀ x ∈ before, x.covers p i = false := fun x hx => by
      simpa using hbefore x hx
    have hafterNone : ∀ x ∈ after, x.covers p i = false := fun x hx => by
      refine eq_false_of_ne_true fun hx' => ?_
      have hmem : x ∈ s.grants.records := by rw [hsplit]; exact List.mem_append_right _ (List.mem_cons_of_mem _ hx)
      rw [hsplit] at hids
      have hne := (List.pairwise_cons.mp (List.pairwise_append.mp hids).2.1).1 x hx
      exact hne (congrArg Grant.id ((honly x hmem).mp hx').symm)
    have hfilter : (s.grants.records.filter fun g => g.covers p i && decide (g.state ≠ .torn)) =
        if g.state = .torn then [] else [g] := by
      rw [hsplit, List.filter_append, List.filter_cons, filter_of_none hbeforeNone, filter_of_none hafterNone, hcovers]
      by_cases hstate : g.state = .torn <;> simp [hstate]
    simp only [tearGrant, h]
    rw [State.tornTold, hfilter]
    by_cases hstate : g.state = .torn
    · have hkept : tornBy p i s.grants.records = s.grants.records := by
        have hsame : tornBy p i s.grants.records = s.grants.records.map id := List.map_congr_left fun x hx => by
          split
          · rw [(honly x hx).mp ‹_›, ← hstate]; rfl
          · rfl
        rw [hsame, List.map_id]
      rw [if_pos hstate, if_pos hstate, hkept]
      rfl
    · rw [if_neg hstate, if_neg hstate, setGrantState, hset]
      rfl

/-- The grants that wait for the end of a REFRESH slot of a band (R131). -/
def Grant.waitsFor (p : Panel) (i : Nat) (g : Grant) : Bool := g.covers p i && decide (g.state = .pending)

theorem PostsThrough.withGrants (records : List Grant) : PostsThrough fun s => s.withGrants records :=
  ⟨fun _ => rfl, fun _ => rfl, fun _ => rfl, fun _ _ _ => rfl⟩

theorem foldl_readyGrant (gs : List Grant) (s : State) :
    gs.foldl readyGrant s =
      postAll (gs.map fun g => (g.port, s.noticeOf g.panel (.grantReady g.id g.first g.last)))
        (s.withGrants (s.grants.records.map fun x =>
          if gs.any (fun g => x.id == g.id) then { x with state := .granted } else x)) := by
  induction gs generalizing s with
  | nil =>
    have hsame : (s.grants.records.map fun x : Grant =>
        if ([] : List Grant).any (fun g => x.id == g.id) then { x with state := .granted } else x) = s.grants.records :=
      List.map_id _
    rw [hsame]
    rfl
  | cons g gs ih =>
    have hready : readyGrant s g = postAll [(g.port, s.noticeOf g.panel (.grantReady g.id g.first g.last))]
        (s.withGrants (s.grants.records.map fun x => if x.id = g.id then { x with state := .granted } else x)) := rfl
    have hnotes : ∀ h : Grant, (readyGrant s g).noticeOf h.panel (.grantReady h.id h.first h.last) =
        s.noticeOf h.panel (.grantReady h.id h.first h.last) := fun h =>
      noticeOf_congr (by rw [hready, postAll_panel, State.withGrants_panel]) _
    have hrecords : (readyGrant s g).grants.records =
        s.grants.records.map fun x => if x.id = g.id then { x with state := .granted } else x := by
      rw [hready, postAll_grants]; rfl
    rw [List.foldl_cons, ih, List.map_cons, List.map_congr_left fun h _ => congrArg (h.port, ·) (hnotes h), hrecords,
      List.map_map, hready, (PostsThrough.withGrants _).postAll, ← postAll_append]
    refine congrArg (fun records => postAll _ (s.withGrants records)) (List.map_congr_left fun x _ => ?_)
    simp only [Function.comp_apply, List.any_cons, Bool.or_eq_true, beq_iff_eq]
    by_cases hx : x.id = g.id
    · simp [hx]
    · simp [hx]

theorem readyGrants_eq {s : State} (hids : s.grants.records.Pairwise idsApart) (p : Panel) (i : Nat) :
    readyGrants p i s =
      postAll ((s.grants.records.filter (Grant.waitsFor p i)).map fun g =>
          (g.port, s.noticeOf p (.grantReady g.id g.first g.last)))
        (s.withGrants (s.grants.records.map fun g => if g.waitsFor p i then { g with state := .granted } else g)) := by
  have hsame : (fun g : Grant => g.state == .pending && g.covers p i) = Grant.waitsFor p i := funext fun g => by
    rw [Grant.waitsFor, Bool.and_comm, beq_eq_decide]
  have hpanel : ∀ g ∈ s.grants.records.filter (Grant.waitsFor p i), g.panel = p := fun g hg => by
    obtain ⟨-, hwaits⟩ := List.mem_filter.mp hg
    exact (Grant.covers_iff.mp (Bool.and_eq_true_iff.mp hwaits).1).1
  rw [readyGrants, hsame, foldl_readyGrant]
  congr 1
  · exact List.map_congr_left fun g hg => by rw [hpanel g hg]
  · refine congrArg s.withGrants (List.map_congr_left fun x hx => ite_congr (propext ?_) (fun _ => rfl) fun _ => rfl)
    simp only [List.any_eq_true, List.mem_filter, beq_iff_eq]
    exact ⟨fun ⟨g, ⟨hg, hwaits⟩, hid⟩ => eq_of_id_eq hids hx hg hid ▸ hwaits, fun hwaits => ⟨x, ⟨hx, hwaits⟩, rfl⟩⟩

/-! ### REFRESH slots -/

theorem expectedCrc_isSome_iff {p : Panel} {s : State} {i first : Nat} {b : Band} :
    (expectedCrc p (s.coveringGrant p i).isSome { index := i, first := first, band := b }).isSome = true ↔
      p = .cluster ∧ b.cls = .guarded ∧ b.expected.isSome = true ∧ ¬s.granted p i := by
  rw [← State.coveringGrant_isSome_iff]
  cases p with
  | centre => simp [expectedCrc]
  | cluster =>
    rw [expectedCrc]
    split <;> rename_i h <;> simp only [Bool.and_eq_true, beq_iff_eq, Bool.not_eq_true'] at h
    · simp [h.1, h.2]
    · refine iff_of_false Bool.false_ne_true fun ⟨_, hcls, _, hcovered⟩ => h ⟨hcls, Bool.not_eq_true _ ▸ hcovered⟩

theorem expectedCrc_eq {p : Panel} {torn : Bool} {b : Placed} {crc : Crc} (h : expectedCrc p torn b = some crc) :
    b.band.expected = some crc := by
  cases p with
  | centre => cases h
  | cluster => exact (Option.ite_none_right_eq_some.mp h).2

/-- A panel at the start of the REFRESH slot of a band of it, but for its watches (R71). -/
def PanelState.refreshing (b : Placed) (cost : Nat) (pol : FramePolarity) (expected : Option Crc) (now : Tick)
    (x : PanelState) : PanelState :=
  { x with
    bands := { x.bands with records := modifyBand b.index (Band.refreshed pol) x.bands.records }
    link :=
      { expectations := expected.elim x.link.expectations fun crc =>
          x.link.expectations.filter (fun y => y.band != b.index) ++
            [{ frame := x.frame.number, band := b.index, crc := crc }]
        lastCommand := some (.band b.first b.band.lines pol expected.isSome) }
    seq := x.seq.map fun e =>
      { e with
        position := e.position + 1
        refreshed := e.refreshed + 1
        driving := e.driving ++ [{ band := b.index, ends := now.after cost }] } }

theorem tearGrant_updBands {s : State} (hids : s.grants.records.Pairwise idsApart)
    (happart : s.grants.records.Pairwise grantsApart) (p : Panel) (i : Nat) (f : List Band → List Band) :
    tearGrant p i (s.updBands p f) =
      postAll (s.tornTold p i) ((s.withGrants (tornBy p i s.grants.records)).updBands p f) := by
  have hgrants : (s.updBands p f).grants = s.grants := by cases p <;> rfl
  have htold : (s.updBands p f).tornTold p i = s.tornTold p i := by cases p <;> rfl
  rw [tearGrant_eq (by rwa [hgrants]) (by rwa [hgrants]), htold, hgrants, State.updBands, State.updBands,
    State.withGrants_updPanel]

theorem startRefresh_eq {s : State} (hids : s.grants.records.Pairwise idsApart)
    (happart : s.grants.records.Pairwise grantsApart) (p : Panel) (b : Placed) (cost : Nat) (pol : FramePolarity) :
    startRefresh p b cost pol s =
      postAll (s.tornTold p b.index ++ s.reached p b.first b.stop b.index true)
        ((s.withGrants (tornBy p b.index s.grants.records)).updPanel p fun x =>
          (x.refreshing b cost pol (expectedCrc p (s.coveringGrant p b.index).isSome b) s.count).watched b.first b.stop) := by
  have hreached : (s.withGrants (tornBy p b.index s.grants.records)).reached p b.first b.stop b.index true =
      s.reached p b.first b.stop b.index true := by cases p <;> rfl
  have hnumber : ∀ expected, (((s.withGrants (tornBy p b.index s.grants.records)).panel p).refreshing b cost pol expected
      s.count).frame.number = ((s.withGrants (tornBy p b.index s.grants.records)).panel p).frame.number := fun _ => rfl
  rw [← hreached, ← fireWatches_postAll (f := fun x => x.refreshing b cost pol
    (expectedCrc p (s.coveringGrant p b.index).isSome b) s.count) (hnumber _) rfl rfl]
  simp only [startRefresh, tearGrant_updBands hids happart]
  refine congrArg (fireWatches p b true) ?_
  cases hexpected : expectedCrc p (s.coveringGrant p b.index).isSome b with
  | none =>
    simp only [sendLink, State.updSeq, postAll_updPanel, State.updBands, updPanel_updPanel]
    rfl
  | some crc =>
    simp only [enterExpectation, sendLink, State.updSeq, postAll_updPanel, State.updBands, updPanel_updPanel]
    have hframe : (s.panel p).frame.number = ((s.withGrants (tornBy p b.index s.grants.records)).panel p).frame.number := by
      rw [State.withGrants_panel]
    rw [hframe, updPanel_eq_setPanel, updPanel_eq_setPanel]
    rfl

theorem exec_refreshSlotStart {p : Panel} {s : State} {slot : Slot} {i : Nat} {pol : FramePolarity} {b : Band}
    (hreset : s.inReset = false) (hslot : s.slotDue p = some slot) (hkind : slot.kind = .refresh i pol)
    (hb : (s.panel p).bands.records[i]? = some b) :
    exec (.refreshSlotStart p) s = .next (startRefresh p { index := i, first := (s.panel p).bands.firstLine i, band := b }
      slot.cost (polarityOf (s.panel p).frame.number) s) := by
  have hband : s.bandAt p i = some { index := i, first := (s.panel p).bands.firstLine i, band := b } := by
    rw [bandAt_eq, hb]; rfl
  refine congrArg Host.Outcome.next ((unlessReset_run hreset).trans ?_)
  simp only [hslot, hkind, hband]

theorem exec_refreshSlotEnd {p : Panel} {s : State} {e : Executing} {d : Drive} {rest : List Drive}
    (hreset : s.inReset = false) (hseq : (s.panel p).seq = some e) (hdriving : e.driving = d :: rest)
    (hends : d.ends = s.count) :
    exec (.refreshSlotEnd p) s =
      .next (readyGrants p d.band (s.updSeq p fun e => { e with driving := e.driving.tail })) := by
  have hdue : s.slotEndDue p = some d := by
    simp only [State.slotEndDue, hseq, Option.bind_some, hdriving, List.head?_cons, hends, if_true]
  refine congrArg Host.Outcome.next ((unlessReset_run hreset).trans ?_)
  simp only [hdue]

/-- Settles O30: the record, the grant, the expectation, the command and the watches of a REFRESH slot, and its end. -/
theorem refreshSlotsAct : Obligations.RefreshSlotsAct := by
  refine ⟨?_, ?_⟩
  · intro p s e start slot i pol b hreset hlegal x hseq hstart hslot hkind hcount hb positive lo hi
    obtain ⟨-, -, hids, happart, -⟩ := hlegal
    have hpolarity : polarityOf (s.panel p).frame.number = if positive then .pos else .neg := rfl
    have hrecord : (s.panel p).bands.records[i]? = some b := hb
    have hplan : (s.panel p).seq = some e := hseq
    have hbalance : b.balance + signOf (if positive then .pos else .neg) =
        if positive then b.balance + 1 else b.balance - 1 := by
      split <;> rfl
    refine ⟨(expectedCrc p (s.coveringGrant p i).isSome { index := i, first := lo, band := b }).isSome,
      expectedCrc_isSome_iff, ?_⟩
    intro torn others t
    rw [exec_refreshSlotStart hreset (State.slotDue_of hseq hstart hslot hcount) hkind hb, startRefresh_eq hids happart,
      State.withGrants_updPanel, updPanel_eq_setPanel, State.withGrants_setPanel]
    refine congrArg (fun y => Host.Outcome.next (postAll (torn ++ s.reached p lo hi i true)
      { s.setPanel p y with grants := { s.grants with records := tornBy p i s.grants.records } })) ?_
    cases hexpected : expectedCrc p (s.coveringGrant p i).isSome { index := i, first := lo, band := b } with
    | none =>
      simp only [PanelState.watched, PanelState.refreshing, modifyBand_eq_set hrecord, Band.refreshed, hbalance,
        hpolarity, hplan]
      rfl
    | some crc =>
      have hcrc : b.expected = some crc := expectedCrc_eq hexpected
      simp only [PanelState.watched, PanelState.refreshing, modifyBand_eq_set hrecord, Band.refreshed, hbalance,
        hpolarity, hplan, hcrc]
      rfl
  · intro p s e d rest hreset hlegal hseq hdriving hends waiting
    obtain ⟨-, -, hids, -⟩ := hlegal
    have hgrants : (s.updSeq p fun e => { e with driving := e.driving.tail }).grants = s.grants := by cases p <;> rfl
    have hnotice : ∀ body, (s.updSeq p fun e => { e with driving := e.driving.tail }).noticeOf p body = s.noticeOf p body :=
      fun body => noticeOf_congr (by rw [State.updSeq, panel_updPanel]) body
    have hpanel : (s.updSeq p fun e => { e with driving := e.driving.tail }) =
        s.setPanel p { s.panel p with seq := some { e with driving := rest } } := by
      rw [State.updSeq, updPanel_eq_setPanel, hseq, Option.map_some, hdriving]
      rfl
    rw [exec_refreshSlotEnd hreset hseq hdriving hends, readyGrants_eq (by rwa [hgrants]), hgrants]
    simp only [hnotice]
    rw [hpanel, State.withGrants_setPanel]
    rfl

/-! ### The other slots and the blank -/

/-- A panel whose slot sequencer and link have moved on to the next slot (R72..R75). -/
def PanelState.sent (e : Executing) (c : LinkCommand) (x : PanelState) : PanelState :=
  { x with seq := some e, link := { x.link with lastCommand := some c } }

theorem sendLink_updSeq {s : State} {p : Panel} {e : Executing} (hseq : (s.panel p).seq = some e) (c : LinkCommand)
    (f : Executing → Executing) : sendLink p c (s.updSeq p f) = s.setPanel p ((s.panel p).sent (f e) c) := by
  rw [sendLink, State.updSeq, updPanel_updPanel, updPanel_eq_setPanel, PanelState.sent, hseq]
  rfl

theorem exec_blankStart {p : Panel} {s : State} {e : Executing} {start : Tick} (hreset : s.inReset = false)
    (hseq : (s.panel p).seq = some e) (hstart : (s.panel p).frame.start = some start) (hbegun : e.blankBegun = false)
    (hcount : s.count = start.after e.blankAt) (hslot : s.slotDue p = none) :
    exec (.blankStart p) s = .next (s.setPanel p ((s.panel p).sent { e with blankBegun := true }
      (.idleBlank (blankTime (s.panel p).timing)))) := by
  have hdue : s.blankDue p = true := by
    simp only [State.blankDue, hseq, hbegun, PanelState.frameTick, hstart, Option.map_some, ← hcount, hslot,
      beq_self_eq_true, Option.isNone_none, Bool.not_false, Bool.and_self]
  refine congrArg Host.Outcome.next ((unlessReset_run hreset).trans ((if_pos hdue).trans ?_))
  exact sendLink_updSeq hseq _ _

/-- No blank begins while a slot is still to start at this instant (R70, R74). -/
theorem exec_blankStart_of_slot {p : Panel} {s : State} {e : Executing} {slot : Slot} (hreset : s.inReset = false)
    (hseq : (s.panel p).seq = some e) (hslot : s.slotDue p = some slot) : exec (.blankStart p) s = .next s := by
  have hdue : ¬s.blankDue p = true := by
    simp only [State.blankDue, hseq, hslot, Option.isNone_some, Bool.and_false, Bool.false_eq_true, not_false_eq_true]
  exact congrArg Host.Outcome.next ((unlessReset_run hreset).trans (if_neg hdue))

theorem exec_skipSlotStart {p : Panel} {s : State} {e : Executing} {slot : Slot} {i : Nat} {b : Band}
    (hreset : s.inReset = false) (hseq : (s.panel p).seq = some e) (hslot : s.slotDue p = some slot)
    (hkind : slot.kind = .skip i) (hb : (s.panel p).bands.records[i]? = some b) :
    exec (.skipSlotStart p) s =
      .next (postAll (s.reached p ((s.panel p).bands.firstLine i) ((s.panel p).bands.firstLine i + b.lines) i false)
        (s.setPanel p (((s.panel p).sent { e with position := e.position + 1 }
          (.idleSkip i (s.panel p).timing.tSkip)).watched
            ((s.panel p).bands.firstLine i) ((s.panel p).bands.firstLine i + b.lines)))) := by
  have hband : s.bandAt p i = some { index := i, first := (s.panel p).bands.firstLine i, band := b } := by
    rw [bandAt_eq, hb]; rfl
  have hsent : sendLink p (.idleSkip i (s.panel p).timing.tSkip) (passSlot p s) =
      postAll [] (s.updPanel p (PanelState.sent { e with position := e.position + 1 }
        (.idleSkip i (s.panel p).timing.tSkip))) := by
    rw [passSlot, sendLink_updSeq hseq, updPanel_eq_setPanel]
    rfl
  refine congrArg Host.Outcome.next ((unlessReset_run hreset).trans ?_)
  simp only [hslot, hkind, hband, startSkip]
  rw [hsent, fireWatches_postAll (p := p) (s := s) (f := PanelState.sent _ _) rfl rfl rfl, updPanel_eq_setPanel]
  rfl

theorem pauseFor_eq {s : State} {e : Executing} (hseq : s.centre.seq = some e) (cost : Nat) :
    pauseFor cost s =
      { s with centre := s.centre.sent { e with position := e.position + 1, touches := e.touches + 1 } (.pause cost) } :=
  sendLink_updSeq (p := .centre) hseq _ _

/-- Settles O31: the skip, the sensing slots and the blank. -/
theorem otherSlotStartsAct : Obligations.OtherSlotStartsAct := by
  intro p s e start hreset x hseq hstart sent
  refine ⟨fun hbegun hcount hnot => exec_blankStart hreset hseq hstart hbegun hcount (State.slotDue_of_none hseq hstart hnot),
    fun slot hslot hcount => exec_blankStart_of_slot hreset hseq (State.slotDue_of hseq hstart hslot hcount), ?_⟩
  intro slot hslot hcount
  have hdue := State.slotDue_of hseq hstart hslot hcount
  refine ⟨fun i b hkind hb => exec_skipSlotStart hreset hseq hdue hkind hb, ?_⟩
  rintro rfl y wait
  refine ⟨fun g code bursts candidate period hkind => ?_, fun candidate period bursts hkind hcandidate => ?_⟩
  · refine congrArg Host.Outcome.next ((unlessReset_run hreset).trans ?_)
    simp only [hdue, hkind, pauseFor_eq hseq]
    rfl
  · have hnext : nextCandidate candidate = (candidate + 1) % 6 := by
      unfold nextCandidate
      split <;> omega
    refine congrArg Host.Outcome.next ((unlessReset_run hreset).trans ?_)
    simp only [hdue, hkind, pauseFor_eq hseq, hnext]
    rfl

end Sys2Proof.Machine

/-!
PROOF. What the slots of a plan are: no refresh past the balance limit (O21), no sensing in a quiet interval (O23).
-/

namespace Sys2Proof.Machine

open Sys2Proof

/-! ### The slots of a plan -/

/-- A slot laid down is a placed one or carries a band item's cost and kind. -/
theorem mem_layDown_kind {placed : List PlacedTouch} {bands : List BandItem} {i t : Nat} {x : Slot}
    (hx : x ∈ layDown placed i t bands) :
    (∃ p ∈ placed, p.slot = x) ∨ ∃ b ∈ bands, x.kind = b.kind ∧ x.cost = b.cost := by
  have hat : ∀ j, x ∈ slotsAt placed j → ∃ p ∈ placed, p.slot = x := fun j h => by
    obtain ⟨p, hp, -, heq⟩ := mem_slotsAt.mp h
    exact ⟨p, hp, heq⟩
  induction bands generalizing i t with
  | nil => exact .inl (hat i hx)
  | cons b bs ih =>
    rw [layDown] at hx
    rcases List.mem_append.mp hx with hx | hx
    · exact .inl (hat i hx)
    · rcases List.mem_cons.mp hx with rfl | hx
      · exact .inr ⟨b, List.mem_cons_self, rfl, rfl⟩
      · rcases ih hx with h | ⟨c, hc, heq⟩
        · exact .inl h
        · exact .inr ⟨c, List.mem_cons_of_mem _ hc, heq⟩

/-- Every band item is laid down. -/
theorem exists_slot_of_mem {placed : List PlacedTouch} {bands : List BandItem} {b : BandItem} (hb : b ∈ bands) (i t : Nat) :
    ∃ x ∈ layDown placed i t bands, x.kind = b.kind := by
  induction bands generalizing i t with
  | nil => cases hb
  | cons c cs ih =>
    rw [layDown]
    rcases List.mem_cons.mp hb with rfl | hb
    · exact ⟨_, List.mem_append_right _ List.mem_cons_self, rfl⟩
    · obtain ⟨x, hx, hkind⟩ := ih hb (i + 1) _
      exact ⟨x, List.mem_append_right _ (List.mem_cons_of_mem _ hx), hkind⟩

/-- The band item at a place of the list: its band's, refreshed or skipped. -/
theorem getElem?_bandItems (t : Timing) (polarity : FramePolarity) (refreshed : Nat → Bool) (i : Nat) (lines : List Nat)
    (k : Nat) :
    (bandItems t polarity refreshed i lines)[k]? = lines[k]?.map fun l =>
      { cost := bandCost t (refreshed (i + k)) l
        kind := if refreshed (i + k) then .refresh (i + k) polarity else .skip (i + k) } := by
  induction lines generalizing i k with
  | nil => rfl
  | cons l ls ih =>
    cases k with
    | zero => rfl
    | succ k => rw [bandItems, List.getElem?_cons_succ, ih, show i + 1 + k = i + (k + 1) by omega]; rfl

theorem mem_bandItems {t : Timing} {polarity : FramePolarity} {refreshed : Nat → Bool} {i : Nat} {lines : List Nat}
    {b : BandItem} :
    b ∈ bandItems t polarity refreshed i lines ↔ ∃ k l, lines[k]? = some l ∧
      b = { cost := bandCost t (refreshed (i + k)) l
            kind := if refreshed (i + k) then .refresh (i + k) polarity else .skip (i + k) } := by
  simp only [List.mem_iff_getElem?, getElem?_bandItems, Option.map_eq_some_iff]
  exact exists_congr fun k => exists_congr fun l => and_congr_right fun _ => eq_comm

/-- A REFRESH slot of a plan is that of a band that is to be refreshed, at the plan's polarity. -/
theorem mem_assemble_refresh {placed : List PlacedTouch} (hkind : ∀ p ∈ placed, p.item.kind.band? = none) {t : Timing}
    {polarity : FramePolarity} {refreshed : Nat → Bool} {lines : List Nat} {x : Slot} {i : Nat} {pol : FramePolarity}
    (hx : x ∈ (assemble placed (bandItems t polarity refreshed 0 lines)).slots) (hrefresh : x.kind = .refresh i pol) :
    pol = polarity ∧ i < lines.length ∧ refreshed i = true := by
  rcases mem_layDown_kind hx with ⟨p, hp, rfl⟩ | ⟨b, hb, hsame, -⟩
  · have hnone := hkind p hp
    rw [show p.item.kind = _ from hrefresh] at hnone
    cases hnone
  · obtain ⟨k, l, hl, rfl⟩ := mem_bandItems.mp hb
    rw [hsame, Nat.zero_add] at hrefresh
    dsimp only at hrefresh
    split at hrefresh
    · cases hrefresh
      exact ⟨rfl, (List.getElem?_eq_some_iff.mp hl).1, ‹_›⟩
    · cases hrefresh

/-- A plan refreshes exactly the bands that are to be refreshed. -/
theorem refreshesBand_assemble {placed : List PlacedTouch} (hkind : ∀ p ∈ placed, p.item.kind.band? = none) {t : Timing}
    {polarity : FramePolarity} {refreshed : Nat → Bool} {lines : List Nat} {i : Nat} :
    refreshesBand (assemble placed (bandItems t polarity refreshed 0 lines)).slots i = true ↔
      i < lines.length ∧ refreshed i = true := by
  constructor
  · intro h
    obtain ⟨x, hx, htest⟩ := List.any_eq_true.mp h
    cases hxkind : x.kind with
    | refresh j pol =>
      simp only [hxkind, beq_iff_eq] at htest
      exact (mem_assemble_refresh hkind hx (htest ▸ hxkind)).2
    | skip j => simp only [hxkind, Bool.false_eq_true] at htest
    | touch a b c d e => simp only [hxkind, Bool.false_eq_true] at htest
    | listen a b c => simp only [hxkind, Bool.false_eq_true] at htest
  · rintro ⟨hlt, hrefreshed⟩
    have hmem : (⟨bandCost t (refreshed (0 + i)) lines[i], .refresh i polarity⟩ : BandItem) ∈
        bandItems t polarity refreshed 0 lines :=
      mem_bandItems.mpr ⟨i, lines[i], List.getElem?_eq_getElem hlt, by rw [Nat.zero_add, hrefreshed, if_pos rfl]⟩
    obtain ⟨x, hx, hsame⟩ := exists_slot_of_mem (placed := placed) hmem 0 0
    exact List.any_eq_true.mpr ⟨x, hx, by simp only [hsame, beq_self_eq_true]⟩

namespace Snapshot

variable (sn : Snapshot)

theorem builtTouches_band? : ∀ p ∈ sn.builtTouches, p.item.kind.band? = none := fun _ hp =>
  sn.band?_of_mem_touchItems (sn.builtTouches_items.mem (List.mem_map_of_mem hp))

theorem lineCounts_length : sn.lineCounts.length = sn.bands.length := List.length_map ..

theorem isDisallowed_iff {b : SnapBand} : isDisallowed sn.bMax sn.sign b = true ↔ (sn.bMax : Int) < |b.balance + sn.sign| :=
  decide_eq_true_iff

/-! ### Classes (R48) -/

theorem classify_of_disallowed {b : SnapBand} (h : (sn.bMax : Int) < |b.balance + sn.sign|) :
    sn.classify b = .disallowed := if_pos (sn.isDisallowed_iff.mpr h)

theorem isMandatory_iff {b : SnapBand} :
    isMandatory sn.bMax sn.sign sn.monitorFault b = true ↔
      b.hold = b.holdLimit ∨ (|b.balance| = sn.bMax ∧ |b.balance + sn.sign| < |b.balance|) ∨
        (sn.monitorFault = true ∧ b.cls = .guarded) := by
  simp only [isMandatory, Bool.or_eq_true, Bool.and_eq_true, decide_eq_true_eq, beq_iff_eq, or_assoc]

theorem classify_of_allowed {b : SnapBand} (h : ¬(sn.bMax : Int) < |b.balance + sn.sign|) :
    sn.classify b =
      if isMandatory sn.bMax sn.sign sn.monitorFault b = true then .mandatory
      else if (b.dirty && !b.covered && !sn.supplyHold) = true then .deferrable else .skip :=
  if_neg (mt sn.isDisallowed_iff.mp h)

theorem isDeferrable_iff {b : SnapBand} :
    (b.dirty && !b.covered && !sn.supplyHold) = true ↔ b.dirty = true ∧ b.covered = false ∧ sn.supplyHold = false := by
  simp only [Bool.and_eq_true, Bool.not_eq_true', and_assoc]

/-- A band the built plan refreshes is not DISALLOWED (R48, R50, R51). -/
theorem allowed_of_refreshes {adm : List FillItem} {i : Nat} (h : sn.refreshes adm i = true) :
    ∃ b, sn.bands[i]? = some b ∧ |b.balance + sn.sign| ≤ (sn.bMax : Int) := by
  rcases Option.eq_none_or_eq_some sn.bands[i]? with hnone | ⟨b, hb⟩
  · simp only [refreshes, hnone, Bool.false_eq_true] at h
  · refine ⟨b, hb, Int.not_lt.mp fun hover => ?_⟩
    rw [sn.refreshes_of_getElem? hb, sn.classify_of_disallowed hover] at h
    cases h

theorem fallbackRefreshes_iff {i : Nat} :
    sn.fallbackRefreshes i = true ↔ ∃ b, sn.bands[i]? = some b ∧ |b.balance + sn.sign| ≤ (sn.bMax : Int) := by
  rcases Option.eq_none_or_eq_some sn.bands[i]? with hnone | ⟨b, hb⟩
  · simp [fallbackRefreshes, hnone]
  · simp only [fallbackRefreshes, hb, Bool.not_eq_true', Option.some.injEq, exists_eq_left']
    rw [← Int.not_lt, ← sn.isDisallowed_iff, Bool.not_eq_true]

/-- Every REFRESH slot of either plan is at the planned polarity and of a band that is not DISALLOWED (R48, R62). -/
theorem allowed_of_plan {plan : Plan} (hplan : plan = sn.builtPlan ∨ plan = sn.fallbackPlan) {x : Slot} (hx : x ∈ plan.slots)
    {i : Nat} {pol : FramePolarity} (hrefresh : x.kind = .refresh i pol) :
    pol = polarityOf sn.number ∧ ∃ b, sn.bands[i]? = some b ∧ |b.balance + sn.sign| ≤ (sn.bMax : Int) := by
  rcases hplan with rfl | rfl
  · obtain ⟨hpol, -, h⟩ := mem_assemble_refresh sn.builtTouches_band? hx hrefresh
    exact ⟨hpol, sn.allowed_of_refreshes h⟩
  · obtain ⟨hpol, -, h⟩ := mem_assemble_refresh (fun _ h => absurd h List.not_mem_nil) hx hrefresh
    exact ⟨hpol, sn.fallbackRefreshes_iff.mp h⟩

theorem refreshesBand_fallbackPlan {i : Nat} :
    refreshesBand sn.fallbackPlan.slots i = true ↔
      ∃ b, sn.bands[i]? = some b ∧ |b.balance + sn.sign| ≤ (sn.bMax : Int) := by
  refine (refreshesBand_assemble fun _ h => absurd h List.not_mem_nil).trans ?_
  rw [sn.fallbackRefreshes_iff, lineCounts_length]
  exact and_iff_right_of_imp fun ⟨b, hb, _⟩ => (List.getElem?_eq_some_iff.mp hb).1

theorem sign_eq : sn.sign = if sn.number.toNat % 2 = 0 then 1 else -1 := signOf_polarityOf _

end Snapshot

/-- Settles O21: the refreshes of both plans keep the balance limit, and the classes follow in order. -/
theorem classesKeepBalanceLimit : Obligations.ClassesKeepBalanceLimit := by
  refine ⟨fun sn => ?_, fun sn b => ?_⟩
  · intro n
    have hn : sn.sign = n := sn.sign_eq
    rw [← hn]
    refine ⟨fun plan hplan slot hslot i pol hkind => sn.allowed_of_plan hplan hslot hkind, fun i b hb => ?_⟩
    rw [sn.refreshesBand_fallbackPlan, hb]
    simp only [Option.some.injEq, exists_eq_left']
  · intro n disallowed mandatory deferrable
    have hn : sn.sign = n := sn.sign_eq
    have hallowed : ¬disallowed → sn.classify b = if isMandatory sn.bMax sn.sign sn.monitorFault b = true then .mandatory
        else if (b.dirty && !b.covered && !sn.supplyHold) = true then .deferrable else .skip := fun h =>
      sn.classify_of_allowed (hn ▸ h)
    have hmandatory : isMandatory sn.bMax sn.sign sn.monitorFault b = true ↔ mandatory := by
      rw [sn.isMandatory_iff, hn]
    have hdeferrable : (b.dirty && !b.covered && !sn.supplyHold) = true ↔ deferrable := sn.isDeferrable_iff
    refine ⟨fun h => sn.classify_of_disallowed (hn ▸ h), fun h hm => ?_, fun h hm hd => ?_, fun h hm hd => ?_⟩
    · rw [hallowed h, if_pos (hmandatory.mpr hm)]
    · rw [hallowed h, if_neg (mt hmandatory.mp hm), if_pos (hdeferrable.mpr hd)]
    · rw [hallowed h, if_neg (mt hmandatory.mp hm), if_neg (mt hdeferrable.mp hd)]

/-! ### Sensing slots (R55..R58) -/

/-- The slot is a TOUCH or a LISTEN. -/
def SlotKind.senses : SlotKind → Prop
  | .touch _ _ _ _ _ => True
  | .listen _ _ _ => True
  | _ => False

theorem Quiet.not_meets_iff {q : Quiet} {start cost : Nat} :
    ¬q.meets start cost = true ↔ (start : Int) + cost ≤ q.lo ∨ q.hi < start := by
  rw [Quiet.meets, Bool.and_eq_true, decide_eq_true_eq, decide_eq_true_eq]
  omega

theorem SnapTouch.mem_quiet_iff {t : SnapTouch} {y : Quiet} :
    y ∈ t.quiet ↔ (∃ e ∈ t.edges, y = quietAround t.edgeGuard (e : Int)) ∨
      ∃ e ∈ t.predicted, y = quietAround t.edgeGuard e := by
  simp [SnapTouch.quiet, eq_comm]

/-- The start found meets no quiet interval. -/
theorem firstMet_of_seekStart {qs : List Quiet} {times : List Nat} {B cost before lastEnd fuel b x start : Nat}
    (h : (seekStart qs times B cost before lastEnd fuel b x).2 = some start) : firstMet qs start cost = none := by
  induction fuel generalizing b x with
  | zero => cases h
  | succ fuel ih =>
    rcases Option.eq_none_or_eq_some (firstMet qs x cost) with hmet | ⟨q, hmet⟩
    · simp only [seekStart, hmet, Option.some.injEq] at h
      exact h ▸ hmet
    · simp only [seekStart, hmet] at h
      split at h
      · exact ih h
      · exact ih h

theorem placeOne_clear {qs : List Quiet} {times : List Nat} {B limit K k : Nat} {st : Placing} {x : TouchItem}
    (h : ∀ p ∈ st.placed, firstMet qs p.start p.item.cost = none) :
    ∀ p ∈ (placeOne qs times B limit K st k x).placed, firstMet qs p.start p.item.cost = none := by
  unfold placeOne
  dsimp only
  split
  · exact h
  · rename_i start hfound
    split
    · exact h
    · intro p hp
      rcases List.mem_append.mp hp with hp | hp
      · exact h p hp
      · rw [List.mem_singleton.mp hp]
        exact firstMet_of_seekStart hfound

theorem placeFrom_clear {qs : List Quiet} {times : List Nat} {B limit K k : Nat} {st : Placing} {xs : List TouchItem}
    (h : ∀ p ∈ st.placed, firstMet qs p.start p.item.cost = none) :
    ∀ p ∈ (placeFrom qs times B limit K k st xs).placed, firstMet qs p.start p.item.cost = none := by
  induction xs generalizing k st with
  | nil => exact h
  | cons x xs ih => exact ih (placeOne_clear h)

namespace Snapshot

variable (sn : Snapshot)

theorem builtTouches_clear {t : SnapTouch} (ht : sn.touch = some t) :
    ∀ p ∈ sn.builtTouches, ∀ q ∈ t.quiet, ¬q.meets p.start p.item.cost = true := by
  intro p hp q hq
  have hclear : firstMet t.quiet p.start p.item.cost = none := by
    simp only [builtTouches, ht] at hp
    exact placeFrom_clear (fun _ h => absurd h List.not_mem_nil) p hp
  exact List.find?_eq_none.mp hclear q hq

/-- Touch items are offered only with touch ENABLED and supply-hold clear, and admitted only unstretched (R50, R52). -/
theorem offered_of_mem_touchItems {t : SnapTouch} (ht : sn.touch = some t) {x : TouchItem}
    (hx : x ∈ sn.touchItems sn.admitted) : sn.stretches = false ∧ t.state = .enabled ∧ sn.supplyHold = false := by
  have hunstretched : sn.stretches = false := by
    cases h : sn.stretches with
    | false => rfl
    | true => simp [admitted, h, touchItems, ht] at hx
  refine ⟨hunstretched, ?_⟩
  by_contra hnot
  have hoffered : sn.touchOffered = none := by
    simp only [touchOffered, ht]
    refine if_neg fun h => hnot ?_
    rwa [Bool.and_eq_true, beq_iff_eq, Bool.not_eq_true'] at h
  simp only [touchItems, ht] at hx
  obtain ⟨item, hitem, hsome⟩ := List.mem_filterMap.mp hx
  have hband : item ∈ sn.deferrables.map fun x => FillItem.band x.1 x.2.lines := by
    rw [admitted, if_neg (by rw [hunstretched]; decide)] at hitem
    have hmem := (fill_sublist _ _ _ _).mem hitem
    simpa only [items, hoffered] using hmem
  obtain ⟨y, -, rfl⟩ := List.mem_map.mp hband
  cases hsome

theorem not_senses_of_band {t : Timing} {polarity : FramePolarity} {refreshed : Nat → Bool} {i : Nat} {lines : List Nat}
    {b : BandItem} (hb : b ∈ bandItems t polarity refreshed i lines) : ¬b.kind.senses := by
  obtain ⟨k, l, -, rfl⟩ := mem_bandItems.mp hb
  dsimp only
  split <;> exact id

/-- A sensing slot of the built plan is a placed one. -/
theorem placed_of_senses {x : Slot} (hx : x ∈ sn.builtPlan.slots) (hsenses : x.kind.senses) :
    ∃ p ∈ sn.builtTouches, p.slot = x := by
  rcases mem_layDown_kind hx with h | ⟨b, hb, hkind, -⟩
  · exact h
  · exact absurd (hkind ▸ hsenses) (not_senses_of_band hb)

end Snapshot

/-- Settles O23: a sensing slot is a placed one, which meets no quiet interval and ends before the blank. -/
theorem touchSlotsAvoidQuietIntervals : Obligations.TouchSlotsAvoidQuietIntervals := by
  intro sn t ht senses
  have hsenses : ∀ x : Slot, senses x ↔ x.kind.senses := fun x => by
    show (match x.kind with | .touch _ _ _ _ _ => True | .listen _ _ _ => True | _ => False) ↔ _
    cases x.kind <;> exact Iff.rfl
  refine ⟨fun x hx hxs => ?_, fun x hx hxs => ?_⟩
  · obtain ⟨p, hp, rfl⟩ := sn.placed_of_senses hx ((hsenses x).mp hxs)
    have hclear := sn.builtTouches_clear ht p hp
    have hwithin := sn.builtTouches_leavesRoom.within p hp
    have hitem := sn.builtTouches_items.mem (List.mem_map_of_mem hp)
    refine ⟨fun e he => ?_, fun e he => ?_, hwithin, sn.offered_of_mem_touchItems ht hitem⟩
    · exact Quiet.not_meets_iff.mp (hclear _ (SnapTouch.mem_quiet_iff.mpr (.inl ⟨e, he, rfl⟩)))
    · exact Quiet.not_meets_iff.mp (hclear _ (SnapTouch.mem_quiet_iff.mpr (.inr ⟨e, he, rfl⟩)))
  · rcases mem_layDown_kind hx with ⟨p, hp, -⟩ | ⟨b, hb, hkind, -⟩
    · cases hp
    · exact Snapshot.not_senses_of_band hb (hkind ▸ (hsenses x).mp hxs)

end Sys2Proof.Machine

/-!
PROOF. The budget is a first fit, and placement takes the nearest clear boundary (O24).
-/

namespace Sys2Proof.Machine

open Sys2Proof

/-! ### The fill (R51) -/

theorem fill_append (cost : FillItem → Nat) (T total : Nat) (a b : List FillItem) :
    fill cost T total (a ++ b) =
      fill cost T total a ++ fill cost T (total + ((fill cost T total a).map cost).sum) b := by
  induction a generalizing total with
  | nil => rfl
  | cons x xs ih =>
    rw [List.cons_append, fill, fill]
    split
    · rw [ih, List.map_cons, List.sum_cons, List.cons_append, Nat.add_assoc]
    · exact ih total

theorem fill_cons (cost : FillItem → Nat) (T total : Nat) (x : FillItem) (xs : List FillItem) :
    fill cost T total (x :: xs) =
      if total + cost x ≤ T then x :: fill cost T (total + cost x) xs else fill cost T total xs := rfl

theorem Snapshot.admitted_of_not_stretches {sn : Snapshot} (h : sn.stretches = false) :
    sn.admitted = fill sn.addedCost sn.length sn.baseCost sn.items :=
  if_neg (by rw [h]; exact Bool.false_ne_true)

/-! ### The order of the items (R51) -/

/-- By key descending, and at equal keys in the order of the list sorted. -/
def descendsBy {α : Type} (key : α → Nat) (r : α → α → Prop) (x y : α) : Prop :=
  key y < key x ∨ (key x = key y ∧ r x y)

theorem insertDescending_pairwise {α : Type} {key : α → Nat} {r : α → α → Prop} {x : α} {ys : List α}
    (hr : ∀ y ∈ ys, r x y) (hys : ys.Pairwise (descendsBy key r)) : (insertDescending key x ys).Pairwise (descendsBy key r) := by
  induction ys with
  | nil => exact List.pairwise_singleton ..
  | cons y ys ih =>
    obtain ⟨hfirst, hrest⟩ := List.pairwise_cons.mp hys
    obtain ⟨hry, hrys⟩ := List.forall_mem_cons.mp hr
    rw [insertDescending]
    split
    · refine List.pairwise_cons.mpr ⟨fun z hz => ?_, hys⟩
      have hyz : key z ≤ key y := by
        rcases List.mem_cons.mp hz with rfl | hz
        · exact Nat.le_refl _
        · rcases hfirst z hz with h | ⟨h, -⟩ <;> omega
      have hxz : r x z := hr z hz
      rcases Nat.lt_or_eq_of_le (hyz.trans ‹_›) with h | h
      · exact .inl h
      · exact .inr ⟨h.symm, hxz⟩
    · refine List.pairwise_cons.mpr ⟨fun z hz => ?_, ih hrys hrest⟩
      rcases List.mem_cons.mp ((insertDescending_perm key x ys).mem_iff.mp hz) with rfl | hz
      · exact .inl (Nat.lt_of_not_le ‹_›)
      · exact hfirst z hz

theorem sortDescending_pairwise {α : Type} (key : α → Nat) {r : α → α → Prop} {xs : List α} (h : xs.Pairwise r) :
    (sortDescending key xs).Pairwise (descendsBy key r) := by
  induction xs with
  | nil => exact .nil
  | cons x xs ih =>
    obtain ⟨hfirst, hrest⟩ := List.pairwise_cons.mp h
    exact insertDescending_pairwise (fun y hy => hfirst y ((sortDescending_perm key xs).mem_iff.mp hy)) (ih hrest)

theorem mem_indexBands {i k : Nat} {bs : List SnapBand} {b : SnapBand} :
    (k, b) ∈ indexBands i bs ↔ i ≤ k ∧ bs[k - i]? = some b := by
  refine ⟨getElem?_of_mem_indexBands, ?_⟩
  induction bs generalizing i with
  | nil => rintro ⟨-, h⟩; cases h
  | cons c cs ih =>
    rintro ⟨hle, hget⟩
    rcases Nat.eq_or_lt_of_le hle with rfl | hlt
    · rw [Nat.sub_self] at hget
      cases hget
      exact List.mem_cons_self
    · rw [show k - i = k - (i + 1) + 1 by omega, List.getElem?_cons_succ] at hget
      exact List.mem_cons_of_mem _ (ih ⟨hlt, hget⟩)

theorem indexBands_pairwise (i : Nat) (bs : List SnapBand) : (indexBands i bs).Pairwise fun x y => x.1 < y.1 := by
  induction bs generalizing i with
  | nil => exact .nil
  | cons b bs ih => exact List.pairwise_cons.mpr ⟨fun y hy => (mem_indexBands.mp hy).1, ih (i + 1)⟩

namespace Snapshot

variable (sn : Snapshot)

theorem mem_deferrables {k : Nat} {b : SnapBand} :
    (k, b) ∈ sn.deferrables ↔ sn.bands[k]? = some b ∧ sn.classify b = .deferrable := by
  rw [deferrables, (sortDescending_perm _ _).mem_iff, List.mem_filter, mem_indexBands, Nat.sub_zero, beq_iff_eq,
    and_iff_right (Nat.zero_le k)]

theorem deferrables_pairwise :
    sn.deferrables.Pairwise fun x y => y.2.hold < x.2.hold ∨ (x.2.hold = y.2.hold ∧ x.1 < y.1) :=
  sortDescending_pairwise (fun x : Nat × SnapBand => x.2.hold) ((indexBands_pairwise 0 sn.bands).filter _)

theorem baseCost_formula :
    sn.baseCost = (sn.bands.map fun b =>
      if sn.classify b = .mandatory then refreshCost sn.timing b.lines else sn.timing.tSkip).sum + blankTime sn.timing := by
  have hcost : ∀ b, bandCost sn.timing (sn.classify b == .mandatory) b.lines =
      if sn.classify b = .mandatory then refreshCost sn.timing b.lines else sn.timing.tSkip := fun b =>
    ite_congr (propext beq_iff_eq) (fun _ => rfl) fun _ => rfl
  simp only [baseCost, hcost]

theorem items_eq {t : SnapTouch} (ht : sn.touch = some t) :
    sn.items =
      if t.state = .enabled ∧ sn.supplyHold = false then
        t.overdueGroups.map FillItem.touch ++ sn.deferrables.map (fun x => FillItem.band x.1 x.2.lines) ++
          (t.groups.filter fun g => g.enabled && decide (g.age = g.interval)).map FillItem.touch ++
          (t.listen.map FillItem.listen).toList
      else sn.deferrables.map fun x => FillItem.band x.1 x.2.lines := by
  have htest : (t.state == .enabled && !sn.supplyHold) = true ↔ t.state = .enabled ∧ sn.supplyHold = false := by
    rw [Bool.and_eq_true, beq_iff_eq, Bool.not_eq_true']
  have hlisten : t.listen.toList.map FillItem.listen = (t.listen.map FillItem.listen).toList := by cases t.listen <;> rfl
  by_cases h : t.state = .enabled ∧ sn.supplyHold = false
  · have hoffered : sn.touchOffered = some t := by simp only [touchOffered, ht, if_pos (htest.mpr h)]
    simp only [items, hoffered, if_pos h, hlisten]
    rfl
  · have hoffered : sn.touchOffered = none := by simp only [touchOffered, ht, if_neg (mt htest.mp h)]
    simp only [items, hoffered, if_neg h]

end Snapshot

theorem SnapTouch.mem_overdueGroups {t : SnapTouch} {g : SnapGroup} :
    g ∈ t.overdueGroups ↔ g ∈ t.groups ∧ g.enabled = true ∧ g.interval < g.age := by
  rw [SnapTouch.overdueGroups, (sortDescending_perm _ _).mem_iff, List.mem_filter, SnapGroup.overdue, Bool.and_eq_true,
    decide_eq_true_eq]

theorem SnapTouch.overdueGroups_pairwise {t : SnapTouch} (h : t.groups.Pairwise fun x y => x.id < y.id) :
    t.overdueGroups.Pairwise fun x y => y.age < x.age ∨ (x.age = y.age ∧ x.id < y.id) :=
  sortDescending_pairwise SnapGroup.age (h.filter _)

/-! ### The timetable (R55) -/

namespace Snapshot

variable (sn : Snapshot)

/-- The boundary times of the built plan's bands (R55). -/
def builtTimes : List Nat := boundaries 0 (sn.builtBands.map BandItem.cost)

theorem builtBands_length : sn.builtBands.length = sn.bands.length := by
  rw [builtBands, bandItems_length, lineCounts_length]

theorem builtTimes_length : sn.builtTimes.length = sn.bands.length + 1 := by
  rw [builtTimes, boundaries_length, List.length_map, builtBands_length]

theorem refreshesBand_builtPlan {i : Nat} {b : SnapBand} (hb : sn.bands[i]? = some b) :
    refreshesBand sn.builtPlan.slots i = true ↔ sn.refreshes sn.admitted i = true := by
  refine (refreshesBand_assemble sn.builtTouches_band?).trans (and_iff_right ?_)
  rw [lineCounts_length]
  exact (List.getElem?_eq_some_iff.mp hb).1

theorem builtTimes_succ {i a : Nat} {b : SnapBand} (hb : sn.bands[i]? = some b) (ha : sn.builtTimes[i]? = some a) :
    sn.builtTimes[i + 1]? = some (a +
      if refreshesBand sn.builtPlan.slots i = true then refreshCost sn.timing b.lines else sn.timing.tSkip) := by
  have hlt : i < sn.bands.length := (List.getElem?_eq_some_iff.mp hb).1
  have hcost : (sn.builtBands.map BandItem.cost)[i]? =
      some (if refreshesBand sn.builtPlan.slots i = true then refreshCost sn.timing b.lines else sn.timing.tSkip) := by
    rw [List.getElem?_map, builtBands, getElem?_bandItems, lineCounts, List.getElem?_map, hb, Nat.zero_add]
    exact congrArg some (ite_congr (propext (sn.refreshesBand_builtPlan hb).symm) (fun _ => rfl) fun _ => rfl)
  have hnext := boundaryTime_succ hcost
  have hnow : boundaryTime sn.builtTimes i = a := by rw [boundaryTime, List.getD_eq_getElem?_getD, ha]; rfl
  have hin : i + 1 < sn.builtTimes.length := by rw [builtTimes_length]; omega
  rw [show boundaries 0 (sn.builtBands.map BandItem.cost) = sn.builtTimes from rfl, hnow] at hnext
  rw [List.getElem?_eq_getElem hin, ← hnext, boundaryTime, List.getD_eq_getElem _ _ hin]

theorem builtTimes_zero : sn.builtTimes[0]? = some 0 := by
  rw [builtTimes]
  cases sn.builtBands.map BandItem.cost <;> rfl

theorem builtTouches_eq {t : SnapTouch} (ht : sn.touch = some t) :
    sn.builtTouches = (placeFrom t.quiet sn.builtTimes sn.bands.length (sn.length - blankTime sn.timing)
      (sn.touchItems sn.admitted).length 0 { placed := [], before := 0, lastEnd := 0, boundary := 0 }
      (sn.touchItems sn.admitted)).placed := by
  simp only [builtTouches, ht, placeTouches, builtBands_length]
  rfl

end Snapshot

end Sys2Proof.Machine

/-!
PROOF. Placement takes the nearest boundary that is clear, and in the tail the first clear time (O24).
-/

namespace Sys2Proof.Machine

open Sys2Proof

/-! ### The nearest boundary (R55) -/

theorem timeDistance_cast (a b : Nat) : (timeDistance a b : Int) = |(a : Int) - (b : Int)| := by
  unfold timeDistance
  rcases Nat.le_total a b with h | h
  · rw [abs_of_nonpos (by omega)]
    omega
  · rw [abs_of_nonneg (by omega)]
    omega

/-- Boundary `m` is the nearest to `target` of the first `n`, ties to the earlier (R55). -/
def NearestOf (times : List Nat) (target n m : Nat) : Prop :=
  m < n ∧ (∀ j < n, timeDistance (boundaryTime times m) target ≤ timeDistance (boundaryTime times j) target) ∧
    ∀ j < m, timeDistance (boundaryTime times m) target < timeDistance (boundaryTime times j) target

theorem NearestOf.unique {times : List Nat} {target n m k : Nat} (hm : NearestOf times target n m)
    (hk : NearestOf times target n k) : m = k := by
  obtain ⟨hmn, hmle, hmlt⟩ := hm
  obtain ⟨hkn, hkle, hklt⟩ := hk
  rcases Nat.lt_trichotomy m k with h | h | h
  · have h1 := hklt m h
    have h2 := hmle k hkn
    omega
  · exact h
  · have h1 := hmlt k h
    have h2 := hkle m hmn
    omega

/-- The nearest so far stays or gives way to the next boundary. -/
theorem NearestOf.step {times : List Nat} {target i best : Nat} (h : NearestOf times target i best) :
    NearestOf times target (i + 1)
      (if timeDistance (boundaryTime times i) target < timeDistance (boundaryTime times best) target then i else best) := by
  obtain ⟨hbest, hle, hlt⟩ := h
  split
  · rename_i hnearer
    refine ⟨Nat.lt_succ_self i, fun j hj => ?_, fun j hj => Nat.lt_of_lt_of_le hnearer (hle j hj)⟩
    rcases Nat.lt_succ_iff_lt_or_eq.mp hj with h | rfl
    · exact (Nat.le_of_lt hnearer).trans (hle j h)
    · exact Nat.le_refl _
  · rename_i hnot
    refine ⟨Nat.lt_succ_of_lt hbest, fun j hj => ?_, hlt⟩
    rcases Nat.lt_succ_iff_lt_or_eq.mp hj with h | rfl
    · exact hle j h
    · exact Nat.le_of_not_lt hnot

theorem nearestFrom_nearest {times : List Nat} (target : Nat) {rest : List Nat} {i best : Nat} (hrest : times.drop i = rest)
    (h : NearestOf times target i best) :
    NearestOf times target (i + rest.length) (nearestFrom target i best (boundaryTime times best) rest) := by
  induction rest generalizing i best with
  | nil => exact h
  | cons b bs ih =>
    have hi : i < times.length := by
      by_contra hover
      rw [List.drop_eq_nil_of_le (Nat.le_of_not_lt hover)] at hrest
      cases hrest
    rw [List.drop_eq_getElem_cons hi] at hrest
    obtain ⟨hb, hbs⟩ := List.cons.inj hrest
    have hbound : boundaryTime times i = b := by rw [boundaryTime, List.getD_eq_getElem _ _ hi, hb]
    have hstep := h.step
    rw [nearestFrom, ← hbound, List.length_cons, show i + (bs.length + 1) = i + 1 + bs.length by omega]
    split
    · rw [if_pos ‹_›] at hstep
      exact ih hbs hstep
    · rw [if_neg ‹_›] at hstep
      exact ih hbs hstep

theorem nearestBoundary_nearest {times : List Nat} (target : Nat) (h : times ≠ []) :
    NearestOf times target times.length (nearestBoundary target times) := by
  obtain ⟨b, bs, rfl⟩ := List.exists_cons_of_ne_nil h
  have hfirst : NearestOf (b :: bs) target 1 0 :=
    ⟨Nat.one_pos, fun j hj => by rw [Nat.lt_one_iff.mp hj], fun j hj => absurd hj (Nat.not_lt_zero j)⟩
  have hnearest := nearestFrom_nearest target (rest := bs) rfl hfirst
  rw [Nat.add_comm] at hnearest
  exact hnearest

/-! ### The search for a clear start (R58) -/

/-- The start a slot would take at boundary `j` (R58, step 1). -/
def beginsAt (times : List Nat) (before lastEnd j : Nat) : Nat := max (boundaryTime times j + before) lastEnd

theorem seekStart_found {qs : List Quiet} {times : List Nat} {B cost before lastEnd fuel b x : Nat}
    (h : firstMet qs x cost = none) : seekStart qs times B cost before lastEnd (fuel + 1) b x = (b, some x) := by
  simp only [seekStart, h]

/-- Boundaries whose starts meet quiet intervals are passed (R58, step 3). -/
theorem seekStart_forward {qs : List Quiet} {times : List Nat} {B cost before lastEnd : Nat} (fuel : Nat) {b j : Nat}
    (hbj : b ≤ j) (hj : j ≤ B) (hmet : ∀ i, b ≤ i → i < j → firstMet qs (beginsAt times before lastEnd i) cost ≠ none) :
    seekStart qs times B cost before lastEnd (j - b + fuel) b (beginsAt times before lastEnd b) =
      seekStart qs times B cost before lastEnd fuel j (beginsAt times before lastEnd j) := by
  induction hd : j - b generalizing b with
  | zero =>
    obtain rfl : b = j := by omega
    rw [Nat.zero_add]
  | succ d ih =>
    obtain ⟨q, hq⟩ := Option.ne_none_iff_exists'.mp (hmet b (Nat.le_refl b) (by omega))
    rw [Nat.add_right_comm, seekStart]
    simp only [hq]
    rw [if_pos (by omega)]
    exact ih (by omega) (fun i hi hij => hmet i (by omega) hij) (by omega)

/-- The quiet intervals that a start leaves behind are fewer with every delay. -/
theorem quietAhead_lt {qs : List Quiet} {q : Quiet} (hq : q ∈ qs) {x : Nat} (hx : (x : Int) ≤ q.hi) :
    (qs.filter fun y => decide ((((q.hi + 1).toNat : Nat) : Int) ≤ y.hi)).length <
      (qs.filter fun y => decide ((x : Int) ≤ y.hi)).length := by
  have hsame : (qs.filter fun y => decide ((((q.hi + 1).toNat : Nat) : Int) ≤ y.hi)) =
      (qs.filter fun y => decide ((x : Int) ≤ y.hi)).filter fun y => decide ((((q.hi + 1).toNat : Nat) : Int) ≤ y.hi) := by
    rw [List.filter_filter]
    refine List.filter_congr fun y _ => ?_
    rw [← Bool.decide_and]
    exact decide_eq_decide.mpr ⟨fun h => ⟨h, by omega⟩, And.left⟩
  rw [hsame, List.length_filter_lt_length_iff_exists]
  exact ⟨q, List.mem_filter.mpr ⟨hq, decide_eq_true hx⟩, by rw [decide_eq_true_eq]; omega⟩

theorem firstMet_eq_none_iff {qs : List Quiet} {start cost : Nat} :
    firstMet qs start cost = none ↔ ¬∃ y ∈ qs, y.lo < (start : Int) + cost ∧ (start : Int) ≤ y.hi := by
  rw [firstMet, List.find?_eq_none]
  simp only [Quiet.meets, Bool.and_eq_true, decide_eq_true_eq, not_exists, not_and]

/-- In the tail the search ends at the first clear time (R58, step 4). -/
theorem seekStart_tail {qs : List Quiet} {times : List Nat} {B cost before lastEnd start : Nat} {fuel x : Nat}
    (hfuel : (qs.filter fun y => decide ((x : Int) ≤ y.hi)).length < fuel) (hle : x ≤ start)
    (hclear : firstMet qs start cost = none) (hmet : ∀ z, x ≤ z → z < start → firstMet qs z cost ≠ none) :
    seekStart qs times B cost before lastEnd fuel B x = (B, some start) := by
  induction fuel generalizing x with
  | zero => exact absurd hfuel (Nat.not_lt_zero _)
  | succ fuel ih =>
    rcases Option.eq_none_or_eq_some (firstMet qs x cost) with hx | ⟨q, hx⟩
    · have hxstart : x = start := by
        by_contra hne
        exact hmet x (Nat.le_refl x) (by omega) hx
      rw [seekStart_found hx, hxstart]
    · have hq : q ∈ qs := List.mem_of_find?_eq_some hx
      have hmeets : q.lo < (x : Int) + cost ∧ (x : Int) ≤ q.hi := by
        have := List.find?_some hx
        simpa only [Quiet.meets, Bool.and_eq_true, decide_eq_true_eq] using this
      have hpast : q.hi < start := by
        by_contra hover
        exact firstMet_eq_none_iff.mp hclear ⟨q, hq, by omega, by omega⟩
      have hfewer := quietAhead_lt hq hmeets.2
      simp only [seekStart, hx, if_neg (Nat.lt_irrefl B)]
      exact ih (by omega) (by omega) fun z hz => hmet z (by omega)

/-- What a search that ends at a start makes of a slot (R55, R58). -/
theorem placeOne_of_found {qs : List Quiet} {times : List Nat} {B limit K k : Nat} {st : Placing} {x : TouchItem} {b j start : Nat}
    (hb : b = max (nearestBoundary ((k + 1) * boundaryTime times B / (K + 1)) times) st.boundary)
    (hfound : seekStart qs times B x.cost st.before st.lastEnd (B + qs.length + 2) b
      (beginsAt times st.before st.lastEnd b) = (j, some start)) :
    placeOne qs times B limit K st k x =
      if start + x.cost ≤ limit then
        { placed := st.placed ++ [{ boundary := j, start := start, item := x }], before := st.before + x.cost
          lastEnd := start + x.cost, boundary := j }
      else { st with boundary := j } := by
  subst hb
  rw [beginsAt] at hfound
  simp only [placeOne, hfound]
  split
  · rw [if_neg (by omega)]
  · rw [if_pos (by omega)]

/-- Settles O24: the fill in the order of R51, the timetable, and placement at the nearest clear boundary. -/
theorem budgetIsFirstFit : Obligations.BudgetIsFirstFit := by
  refine ⟨?_, ?_⟩
  · intro sn whole blank
    refine ⟨decide_eq_true_iff, fun h => if_pos h, ?_, fun x hx => sn.mem_deferrables.mp hx,
      fun i b hb hclass => sn.mem_deferrables.mpr ⟨hb, hclass⟩, sn.deferrables_pairwise, sn.baseCost_formula,
      fun i lines => rfl, ?_⟩
    · intro h before x after hitems taken total
      rw [Snapshot.admitted_of_not_stretches h, hitems, fill_append, fill_cons]
    · intro t ht
      refine ⟨fun g => ?_, fun l => ?_, fun horder => ⟨SnapTouch.overdueGroups_pairwise horder,
        fun g => SnapTouch.mem_overdueGroups, sn.items_eq ht⟩, sn.builtTimes, t.quiet, sn.builtTimes_length,
        sn.builtTimes_zero, fun i b a hb ha => sn.builtTimes_succ hb ha, fun y => SnapTouch.mem_quiet_iff,
        sn.builtTouches_eq ht⟩
      · simp only [Snapshot.addedCost, ht, SnapTouch.touchCost]
      · simp only [Snapshot.addedCost, ht, SnapTouch.listenCost]
  · intro quiet times B limit K k b0 st x hlength hreach time target far begins meets at' hnearest
    obtain ⟨n, hn, rfl, hle, hlt⟩ := hnearest
    have hfar : ∀ j, far j = (timeDistance (boundaryTime times j) target : Int) := fun j => (timeDistance_cast _ _).symm
    have hsame : NearestOf times target times.length n := by
      refine ⟨by omega, fun j hj => ?_, fun j hj => ?_⟩
      · have := hle j (by omega)
        rw [hfar, hfar] at this
        exact Int.ofNat_le.mp this
      · have := hlt j hj
        rw [hfar, hfar] at this
        exact Int.ofNat_lt.mp this
    have hne : times ≠ [] := fun h => by rw [h] at hlength; cases hlength
    have hstart : max n st.boundary = max (nearestBoundary target times) st.boundary := by
      rw [hsame.unique (nearestBoundary_nearest target hne)]
    have hfirst : max n st.boundary ≤ B := Nat.max_le.mpr ⟨hn, hreach⟩
    have hmeets : ∀ start, firstMet quiet start x.cost = none ↔ ¬meets start := fun start => firstMet_eq_none_iff
    have hahead := List.length_filter_le (fun y : Quiet => decide ((begins B : Int) ≤ y.hi)) quiet
    refine ⟨fun j hbj hj hclear hmet => ?_, fun hmet start hstartB hclear htail => ?_⟩
    · refine placeOne_of_found hstart ?_
      have hforward := seekStart_forward (B + quiet.length + 1 - (j - max n st.boundary) + 1) hbj hj fun i hi hij h =>
        (hmeets _).mp h (hmet i hi hij)
      rw [show j - max n st.boundary + (B + quiet.length + 1 - (j - max n st.boundary) + 1) = B + quiet.length + 2 by omega]
        at hforward
      rw [hforward]
      exact seekStart_found ((hmeets _).mpr hclear)
    · refine placeOne_of_found hstart ?_
      have hforward := seekStart_forward (B + quiet.length + 2 - (B - max n st.boundary)) hfirst (Nat.le_refl B)
        fun i hi hij h => (hmeets _).mp h (hmet i hi (Nat.le_of_lt hij))
      rw [show B - max n st.boundary + (B + quiet.length + 2 - (B - max n st.boundary)) = B + quiet.length + 2 by omega]
        at hforward
      rw [hforward]
      exact seekStart_tail (Nat.lt_of_le_of_lt hahead (by omega)) hstartB ((hmeets _).mpr hclear)
        fun z hz hzs h => (hmeets _).mp h (htail z hz hzs)

end Sys2Proof.Machine

/-!
PROOF. Resets: their beginning, and a device held in reset (O52).
-/

namespace Sys2Proof.Machine

open Sys2Proof

/-! ### The release of a reset -/

/-- The SUPPLY_WARNING of a release with the input asserted (R149, R172). -/
def State.warnedTold (s : State) : List (Port × Notice) := if s.supply.hold then toBoth (s.supplyNotice true) else []

theorem reportHold_eq (s : State) : reportHold s = postAll s.warnedTold s := by
  rw [reportHold, State.warnedTold]
  split <;> rfl

/-- A panel with its autostart begun, when its flag is set (R176). -/
def PanelState.autostarted (now : Tick) (flag : Bool) (x : PanelState) : PanelState :=
  if flag then { x with power := { x.power with autostart := true }.rampingUp now 0 0 0 } else x

/-- The PANEL_STATE of an autostart (R148, R176). -/
def State.autostartTold (s : State) (p : Panel) (flag : Bool) : List (Port × Notice) :=
  if flag then
    toOwn p (s.noticeOf p (.panelState .off .ramp .request true (s.panel p).power.gateEn (s.panel p).power.powerGood))
  else []

theorem autostart_eq (p : Panel) (flag : Bool) (s : State) :
    autostart p flag s =
      postAll (s.autostartTold p flag) (s.setPanel p ((s.panel p).autostarted s.count flag)) := by
  cases flag with
  | false => exact (setPanel_panel_self s p).symm
  | true =>
    have hnotice : ∀ body, (s.updPower p fun w => { w with autostart := true }).noticeOf p body = s.noticeOf p body :=
      fun body => noticeOf_congr (updPower_number ..) body
    have hcount : (s.updPower p fun w => { w with autostart := true }).count = s.count := by cases p <;> rfl
    show turnOn p 0 0 0 _ = _
    rw [turnOn_eq, hnotice, hcount, updPower_eq_setPanel, panel_setPanel, setPanel_setPanel]
    rfl

/-- The device as a release leaves it, but for the notices (R172). -/
def State.released (s : State) (h : HeldReset) : State :=
  let r := reloadDevice h s
  let general := s.profile.load.1.general
  { r with
    cluster := r.cluster.autostarted s.count general.autoCluster
    centre := r.centre.autostarted s.count general.autoCentre }

/-- The notices of a release after BOOT (R149, R172, R176). -/
def State.releaseTold (s : State) (h : HeldReset) : List (Port × Notice) :=
  let r := reloadDevice h s
  let general := s.profile.load.1.general
  r.warnedTold ++ r.autostartTold .cluster general.autoCluster ++ r.autostartTold .centre general.autoCentre

theorem finishReset_eq (h : HeldReset) (s : State) : finishReset h s = postAll (s.releaseTold h) (s.released h) := by
  have hcentre : ∀ (told : List (Port × Notice)) (x : PanelState) (flag : Bool),
      (postAll told ((reloadDevice h s).setPanel .cluster x)).autostartTold .centre flag =
        (reloadDevice h s).autostartTold .centre flag := fun told x flag => by rw [postAll_eq]; rfl
  have hcluster : ∀ (told : List (Port × Notice)) (flag : Bool),
      (postAll told (reloadDevice h s)).autostartTold .cluster flag =
        (reloadDevice h s).autostartTold .cluster flag := fun told flag => by rw [postAll_eq]; rfl
  show autostart .centre _ (autostart .cluster _ (reportHold (reloadDevice h s))) = _
  rw [reportHold_eq, autostart_eq .cluster, hcluster, postAll_panel, postAll_setPanel, ← postAll_append,
    autostart_eq .centre, hcentre,
    postAll_panel, postAll_setPanel, ← postAll_append, postAll_count, postAll_count]
  rfl

theorem exec_resetRelease {s : State} {h : HeldReset} (hheld : s.resetLogic.held = some h) :
    exec .resetRelease s = .next (finishReset h s) := by
  show Host.Outcome.next (match s.resetLogic.held with | none => s | some h => finishReset h s) = _
  rw [hheld]

/-! ### The beginning of a reset -/

theorem exec_event_held {s : State} (hheld : s.inReset = true) (f : State → State) :
    Host.Outcome.next (unlessReset s f) = (Host.Outcome.next s : Host.Outcome State Fault Refusal) :=
  congrArg Host.Outcome.next (unlessReset_reset hheld)

theorem shift_inReset (s : State) (q : Port) (out : List Byte) :
    (s.updPort q (PortState.shift out)).inReset = s.inReset := by cases q <;> rfl

theorem rejectTransaction_held {s : State} (hheld : s.inReset = true) (q : Port) (n : Nat) :
    rejectTransaction q n s = { s.setPort q { s.port q with shiftOut := (List.range n).map (Config.rejectedMiso s.free) } with
      free := s.free + 1 } := by
  refine (if_pos hheld).trans ?_
  cases q <;> rfl

/-- Settles O52: the beginning of a reset by each cause, and what a held device leaves alone. -/
theorem resetsBeginAtOnce : Obligations.ResetsBeginAtOnce := by
  refine ⟨fun s => ?_, fun s hheld => ?_⟩
  · intro ended begun
    refine ⟨rfl, rfl, rfl, fun h => ?_, fun h => ?_, fun h => ?_, fun h hh => ?_⟩
    · exact congrArg Host.Outcome.next (if_pos h)
    · exact congrArg Host.Outcome.next (if_neg (by rw [h]; exact Bool.false_ne_true))
    · show Host.Outcome.next (match s.resetLogic.held with | none => s | some h => finishReset h s) = _
      rw [h]
    · refine ⟨finishReset h s, ?_, ?_, ?_⟩
      · exact exec_resetRelease hh
      · rw [finishReset_eq, postAll_eq]; rfl
      · rw [finishReset_eq, postAll_eq]; rfl
  · refine ⟨fun i q tag r hrow => ?_, ?_, fun p => ⟨?_, fun level => exec_event_held hheld _,
      fun frame band crc ok => exec_event_held hheld _, ?_⟩, fun tag noise saturated ok => exec_event_held hheld _,
      fun tag => exec_event_held hheld _, fun id => exec_event_held hheld _, ?_, ?_, fun q => ⟨rfl, rfl⟩, ?_⟩
    · rw [exec_of_requestOfInstr hrow]
      rcases takeRequest_cases s q tag r.code (serveRequest q r) with ⟨-, h⟩ | ⟨hrun, -⟩ | ⟨hrun, -⟩ | ⟨hrun, -⟩
      · rw [h]
      all_goals rw [hheld] at hrun; cases hrun
    · simp only [List.forall_mem_cons]
      exact ⟨exec_event_held hheld _, exec_event_held hheld _, exec_event_held hheld _, exec_event_held hheld _,
        fun _ h => absurd h List.not_mem_nil⟩
    · simp only [List.forall_mem_cons]
      exact ⟨exec_event_held hheld _, exec_event_held hheld _, exec_event_held hheld _, exec_event_held hheld _,
        exec_event_held hheld _, exec_event_held hheld _, exec_event_held hheld _, exec_event_held hheld _,
        exec_event_held hheld _, exec_event_held hheld _, exec_event_held hheld _, exec_event_held hheld _,
        fun _ h => absurd h List.not_mem_nil⟩
    · have hheld' : (s.updPower p fun w => { w with powerGood := false }).inReset = true := by cases p <;> exact hheld
      exact exec_event_held hheld' _
    · exact exec_event_held (s := { s with supply := { s.supply with warningPin := true } }) hheld _
    · exact exec_event_held (s := { s with supply := { s.supply with warningPin := false } }) hheld _
    · intro q rest n shifts
      refine ⟨?_, ?_, fun first hwrite hread => ⟨(List.range n).map (Config.rejectedMiso s.free), by simp, ?_, ?_⟩⟩
      · exact congrArg Host.Outcome.next (if_pos hheld)
      · have hidle : s.readFrame q = [0xA0, 0x00, 0x00] := if_pos hheld
        rw [exec_read, readOut, if_pos (by rw [shift_inReset, hheld]), hidle]
        rfl
      · exact congrArg Host.Outcome.next ((transaction_rejected hwrite hread q rest s).trans (rejectTransaction_held hheld q n))
      · exact congrArg Host.Outcome.next ((transaction_rejected hwrite hread q rest s).trans (rejectTransaction_held hheld q n))

end Sys2Proof.Machine

/-!
PROOF. The release of a reset: what it loads, keeps and posts (O53).
-/

namespace Sys2Proof.Machine

open Sys2Proof

theorem ProfileStore.load_eq {x : ProfileStore} {items : Profile} {status : ProfileStatus}
    (h : (∃ r, x.stored = some r ∧ r.check = Config.profileCheck r.items ∧ items = r.items ∧ status = .valid) ∨
      ((∀ r, x.stored = some r → r.check ≠ Config.profileCheck r.items) ∧ items = Config.factoryProfile ∧
        status = .defaulted)) : x.load = (items, status) := by
  rcases h with ⟨r, hr, hpasses, rfl, rfl⟩ | ⟨hfails, rfl, rfl⟩
  · simp only [ProfileStore.load, ProfileStore.validRecord_of_passes hr hpasses]
  · have hnone : x.validRecord = none := by
      rw [← Option.not_isSome_iff_eq_none, ProfileStore.validRecord_isSome_iff]
      exact fun ⟨r, hr, hpasses⟩ => hfails r hr hpasses
    simp only [ProfileStore.load, hnone]

/-! ### The touch scheduler (R104) -/

/-- The candidates of the touch scheduler after a reset (R104). -/
def Touch.reloadedCandidates (h : HeldReset) (p : TouchProfile) (t : Touch) : List Candidate :=
  if h.cold then p.freqs.map Candidate.fresh else replaceCandidates t.candidates p.freqs

theorem getElem?_replaceCandidates (olds : List Candidate) (news : List FreqSpec) (i : Nat) :
    (replaceCandidates olds news)[i]? = news[i]?.map fun f => olds[i]?.elim (Candidate.fresh f) fun c => c.replaceWith f := by
  induction olds, news using replaceCandidates.induct generalizing i with
  | case1 old olds new news ih =>
    cases i with
    | zero => rfl
    | succ i => rw [replaceCandidates, List.getElem?_cons_succ, ih]; rfl
  | case2 news => rw [replaceCandidates, List.getElem?_map]; rfl
  | case3 old olds => rfl

theorem replaceCandidates_length (olds : List Candidate) (news : List FreqSpec) :
    (replaceCandidates olds news).length = news.length := by
  induction olds, news using replaceCandidates.induct with
  | case1 old olds new news ih => rw [replaceCandidates, List.length_cons, ih, List.length_cons]
  | case2 news => rw [replaceCandidates, List.length_map]
  | case3 old olds => rfl

theorem Touch.reloadedCandidates_length (h : HeldReset) (p : TouchProfile) (t : Touch) :
    (t.reloadedCandidates h p).length = p.freqs.length := by
  unfold Touch.reloadedCandidates
  split
  · exact List.length_map ..
  · exact replaceCandidates_length ..

/-- A warm reset keeps the average of a candidate whose period is loaded again (R104). -/
theorem Touch.getElem?_reloadedCandidates {h : HeldReset} {p : TouchProfile} {t : Touch} {i : Nat} {f : FreqSpec}
    (hf : p.freqs[i]? = some f) (average : Nat)
    (hnone : t.candidates[i]? = none → average = 65520)
    (hsome : ∀ c, t.candidates[i]? = some c → average = if h.cold = true ∨ c.period ≠ f.period then 65520 else c.average) :
    (t.reloadedCandidates h p)[i]? = some { period := f.period, permission := f.permission, average := average } := by
  unfold Touch.reloadedCandidates
  split
  · rename_i hcold
    have haverage : average = 65520 := by
      rcases Option.eq_none_or_eq_some t.candidates[i]? with hc | ⟨c, hc⟩
      · exact hnone hc
      · rw [hsome c hc, if_pos (.inl hcold)]
    rw [List.getElem?_map, hf, haverage]
    rfl
  · rename_i hwarm
    rw [getElem?_replaceCandidates, hf]
    rcases Option.eq_none_or_eq_some t.candidates[i]? with hc | ⟨c, hc⟩
    · rw [hc, hnone hc]
      rfl
    · rw [hc, hsome c hc]
      by_cases hperiod : f.period = c.period
      · rw [if_neg (by rintro (h | h); exacts [hwarm h, h hperiod.symm])]
        simp only [Option.map_some, Option.elim, Candidate.replaceWith, if_pos hperiod]
      · rw [if_pos (.inr (Ne.symm hperiod))]
        simp only [Option.map_some, Option.elim, Candidate.replaceWith, if_neg hperiod]
        rfl

/-- The touch scheduler after a reset, but for the move off a BANNED candidate (R104). -/
def Touch.reloaded (h : HeldReset) (p : TouchProfile) (t : Touch) : Touch :=
  { Touch.afterReset p with
    candidates := t.reloadedCandidates h p
    active := if h.cold then p.active else t.active
    listenPtr := if h.cold then 0 else t.listenPtr }

theorem Touch.reload_eq (h : HeldReset) (p : TouchProfile) (t : Touch) : t.reload h p = (t.reloaded h p).leaveBanned := by
  rw [Touch.reload, Touch.reloaded, Touch.reloadedCandidates]
  cases h.cold <;> rfl

theorem Touch.leaveBanned_eq (t : Touch) : t.leaveBanned = { t with active := t.leaveBanned.active } := by
  unfold Touch.leaveBanned
  split <;> rfl

theorem Touch.leaveBanned_of_allowed {t : Touch} {c : Candidate} (h : t.allows t.active c) : t.leaveBanned = t := by
  obtain ⟨hc, hallowed⟩ := h
  refine if_neg ?_
  simp only [Touch.activeCandidate, hc, Option.any_some, hallowed]
  decide

theorem Touch.leaveBanned_of_banned {t : Touch} {c d : Candidate} {i : Nat} (hc : t.candidates[t.active]? = some c)
    (hbanned : c.permission = .banned) (hi : t.quietest (fun _ => True) i d) : t.leaveBanned.active = i := by
  have htest : (t.activeCandidate.any fun a => a.permission == .banned) = true := by
    simp only [Touch.activeCandidate, hc, Option.any_some, hbanned]
    decide
  rw [Touch.leaveBanned, if_pos htest, lowestAllowed_eq_some_iff.mpr hi]
  rfl

/-! ### The panels, the counts and the notices -/

theorem ResetCounts.afterReset_eq (h : HeldReset) (c : ResetCounts) :
    let base := if h.cold = true then { powerOn := 0, brownOut := 0, pin := 0, requested := 0 } else c
    let up := fun (cause : ResetCause) (n : Nat) => if h.cause = cause then min (n + 1) 255 else n
    c.afterReset h =
      { powerOn := up .powerOn base.powerOn, brownOut := up .brownOut base.brownOut, pin := up .pin base.pin,
        requested := up .requested base.requested } := by
  intro base up
  show base.raise h.cause = _
  cases hcause : h.cause <;> simp only [up, hcause] <;> rfl

theorem PortState.offers_of_room {x : PortState} {ns : List Notice} (h : x.queue.length + ns.length ≤ 32) :
    x.offers ns = { x with queue := x.queue ++ ns } := by
  induction ns generalizing x with
  | nil => rw [List.append_nil]; rfl
  | cons n ns ih =>
    rw [List.length_cons] at h
    show (x.offer n).offers ns = _
    rw [PortState.offer_of_lt (by omega), ih (by rw [List.length_append, List.length_singleton]; omega), List.append_assoc]
    rfl

theorem StepTimes.given_zero (t : StepTimes) : t.given 0 0 0 = t := rfl

/-- A panel just reset, with its autostart begun when its flag is set (R176). -/
theorem PanelState.autostarted_afterReset (now : Tick) (flag : Bool) (w : PanelProfile) (powerGood : Bool) :
    (PanelState.afterReset w powerGood).autostarted now flag = { PanelState.afterReset w powerGood with
      power :=
        { state := if flag = true then .ramp else .off
          logicEn := flag, gateEn := false
          step := if flag = true then some { step := .gateWait, deadline := now.after (w.times.tA * 20000) } else none
          stopPending := false, offPending := false, times := w.times, powerGood := powerGood, autostart := flag } } := by
  cases flag with
  | false => rfl
  | true =>
    rw [PanelState.autostarted, if_pos rfl, Power.rampingUp, StepTimes.given_zero]
    rfl

theorem toldTo_toOwn_supervisor (p : Panel) (n : Notice) : toldTo .supervisor (toOwn p n) = [n] := by cases p <;> rfl

theorem toldTo_warned (s : State) (h : HeldReset) :
    toldTo .supervisor (reloadDevice h s).warnedTold =
      if s.supply.warningPin = true then [{ panel := none, frame := 0, body := .supplyWarning true .off 0 .off 0 }] else [] := by
  show toldTo .supervisor (if s.supply.warningPin then _ else _) = _
  cases s.supply.warningPin <;> rfl

theorem toldTo_autostart (s : State) (h : HeldReset) (p : Panel) (flag : Bool) :
    toldTo .supervisor ((reloadDevice h s).autostartTold p flag) =
      if flag = true then
        [{ panel := some p, frame := 0,
           body := .panelState .off .ramp .request true false (s.panel p).power.powerGood }]
      else [] := by
  cases flag with
  | false => rfl
  | true =>
    refine (toldTo_toOwn_supervisor p _).trans ?_
    cases p <;> rfl

/-- Settles O53: the items loaded, the retained area, and the notices of a release. -/
theorem resetReleaseLoadsProfile : Obligations.ResetReleaseLoadsProfile := by
  intro s h items status hheld hstored base up counts boot warning starting warned autostarts blank after
  have hload := ProfileStore.load_eq hstored
  have htold : toldTo .supervisor (s.releaseTold h) = warned ++ autostarts := by
    rw [State.releaseTold, hload]
    simp only [toldTo_append, toldTo_warned, toldTo_autostart, List.append_assoc]
    rfl
  have hone : ∀ (c : Prop) [Decidable c] (n : Notice), (if c then [n] else []).length ≤ 1 := fun c _ n => by
    split
    · exact Nat.le_refl 1
    · exact Nat.zero_le 1
  have hroom : (warned ++ autostarts).length ≤ 3 := by
    have hwarned : warned.length ≤ 1 := hone _ _
    have hcluster : (starting .cluster items.general.autoCluster).length ≤ 1 := hone _ _
    have hcentre : (starting .centre items.general.autoCentre).length ≤ 1 := hone _ _
    rw [List.length_append, List.length_append]
    omega
  have hcounts : s.resetCounts.afterReset h = counts := ResetCounts.afterReset_eq h s.resetCounts
  have hboot : bootNotice h.cause h.cold s.profile.load.2 (s.resetCounts.afterReset h) s.profile.load.1.general = boot := by
    rw [hload, hcounts]
    rfl
  have hsupervisor : (s.released h).supervisor.offers (warned ++ autostarts) =
      { blank with queue := boot :: (warned ++ autostarts) } := by
    have hqueue : (s.released h).supervisor = { blank with queue := [boot] } :=
      congrArg (fun n => PortState.afterReset [n]) hboot
    rw [hqueue, PortState.offers_of_room (by dsimp only [List.length_cons, List.length_nil]; omega)]
    rfl
  refine ⟨s.touch.reloadedCandidates h items.touch, (s.touch.reloaded h items.touch).leaveBanned.active,
    Touch.reloadedCandidates_length .., fun i f hf => Touch.getElem?_reloadedCandidates hf _ (fun hc => by rw [hc])
      fun c hc => by rw [hc], ?_⟩
  intro kept touch
  refine ⟨fun c hc => ?_, fun c i d hc hbanned hi => ?_, ?_⟩
  · exact congrArg Touch.active (Touch.leaveBanned_of_allowed (t := s.touch.reloaded h items.touch) hc)
  · exact Touch.leaveBanned_of_banned (t := s.touch.reloaded h items.touch) hc hbanned hi
  · have htouch : s.touch.reload h items.touch = touch := by
      rw [Touch.reload_eq, Touch.leaveBanned_eq]
      rfl
    have hpanel : ∀ p w flag, (PanelState.afterReset w (s.panel p).power.powerGood).autostarted s.count flag = after p w flag :=
      fun p w flag => PanelState.autostarted_afterReset ..
    rw [exec_resetRelease hheld, finishReset_eq, postAll_eq, htold, hsupervisor]
    refine congrArg Host.Outcome.next ?_
    rw [← hpanel .cluster, ← hpanel .centre, ← htouch]
    have hmedia : (s.released h).media = { blank with queue := [boot] } := congrArg (fun n => PortState.afterReset [n]) hboot
    have hdisabled : (s.released h).mediaEnabled = false := rfl
    rw [hmedia, hdisabled, ← hcounts]
    simp only [State.released, reloadDevice, hload]
    rfl

end Sys2Proof.Machine

/-!
PROOF. What a move can do to one panel (`PanelChange`): the panel runs on as it did, stands still, begins to scan, takes its
plan point, completes its build, starts a slot, or goes on to its next frame. The power sequencer and the scanning state stay
in agreement through each (O58).
-/

namespace Sys2Proof.Machine

open Sys2Proof

/-! ### What a panel can do -/

/-- The power sequencer of a panel is legal, and the panel scans or stands still as its power state says. -/
def PanelState.sequenced (x : PanelState) : Prop := x.power.outputsLegal ∧ x.power.marksLegal ∧ x.scanLegal

/-- Every balance of the panel is within B_max (R36). -/
def PanelState.balanced (x : PanelState) : Prop := ∀ b ∈ x.bands.records, |b.balance| ≤ (x.bands.bMax : Int)

/-- What the plans go by of an executing plan: the plan and the next slot (R68). -/
def Executing.place (e : Executing) : Plan × Nat := (e.plan, e.position)

/-- A panel whose frame, plans and balances stay as they are, whatever its lock, dimmer and power outputs do. -/
structure RunsAs (x y : PanelState) : Prop where
  timing : y.timing = x.timing
  frame : y.frame = x.frame
  build : y.builder.build = x.builder.build
  ready : y.builder.ready = x.builder.ready
  place : y.seq.map Executing.place = x.seq.map Executing.place
  state : y.power.state = x.power.state
  stop : y.power.stopPending = false → x.power.stopPending = false
  bMax : y.bands.bMax = x.bands.bMax
  carried : y.bands.records.map Band.carried = x.bands.records.map Band.carried
  sequenced : x.sequenced → y.sequenced
  tBase : x.items.legal → x.lengthLegal x.lock.tBase → x.lengthLegal y.lock.tBase

/-- What the builder hands over at a frame end: the ready plan, the fallback plan of the build in progress, or, with
neither, that of a build begun there (R61). -/
inductive PanelState.Hands (x : PanelState) : Handed → Prop
  | ready (r : ReadyPlan) (hready : x.builder.ready = some r) : x.Hands r.handed
  | build (b : Build) (hready : x.builder.ready = none) (hbuild : x.builder.build = some b) : x.Hands b.handed
  | neither (b : Build) (hready : x.builder.ready = none) (hbuild : x.builder.build = none)
      (htiming : b.snapshot.timing = x.timing) (hlines : b.snapshot.lineCounts = x.bands.records.map Band.lines)
      (hlength : b.snapshot.length = x.frame.next.getD x.timing.tNom) : x.Hands b.handed

/-- A build on the panel's own timing and bands for the frame after the one in progress (R44, R45). -/
structure PanelState.BuildsOn (x : PanelState) (b : Build) : Prop where
  number : b.snapshot.number = x.frame.number + 1
  length : b.snapshot.length = x.plannedLength
  timing : b.snapshot.timing = x.timing
  bMax : b.snapshot.bMax = x.bands.bMax
  lines : b.snapshot.lineCounts = x.bands.records.map Band.lines
  bands : ∀ i y, x.bands.records[i]? = some y →
    ∃ covered mediaOwned, b.snapshot.bands[i]? = some (projectBand x.seq x.sign covered mediaOwned (x.bands.placedAt i y))
  onTime : b.frameLate = false

/-- What a move can do to a panel at the instant `now`. -/
inductive PanelChange (now : Tick) (x : PanelState) : PanelState → Prop
  | runs {y : PanelState} (h : RunsAs x y) : PanelChange now x y
  | stands {y : PanelState} (hstate : y.power.state ≠ .scanning) (hsequenced : x.sequenced → y.sequenced)
      (hbalanced : x.balanced → y.balanced) : PanelChange now x y
  | begins {y : PanelState} (w : Power) (h : Handed) (hstate : x.sequenced → x.power.state ≠ .scanning) (hw : w.state = .ready)
      (houtputs : x.sequenced → w.outputsLegal)
      (hplan : h.plan = fullPlan x.timing .pos (x.bands.records.map Band.lines))
      (hlength : h.length = max x.timing.tNom x.fullCost)
      (hstill : PanelStill (PanelState.started now h (PanelState.beginScan { x with power := w })) y) : PanelChange now x y
  | plans {y : PanelState} (b : Build) (hold : Bool) (length : Nat) (hstate : x.power.state = .scanning)
      (hstop : x.power.stopPending = false) (hnext : x.frame.next = none) (hlength : x.frame.length = some length)
      (hnow : x.frameTick (length - leadTime x.timing) = some now) (hbuild : x.BuildsOn b)
      (hstill : PanelStill ((x.planned hold).building b) y) : PanelChange now x y
  | builds {y : PanelState} (b : Build) (hbuild : x.builder.build = some b)
      (hstill : PanelStill { x with builder := x.builder.complete } y) : PanelChange now x y
  | starts {y : PanelState} (e f : Executing) (slot : Slot) (bands : BandTable) (hseq : x.seq = some e)
      (hslot : e.plan.slots[e.position]? = some slot) (hnow : x.frameTick slot.start = some now)
      (hplace : f.place = (e.plan, e.position + 1)) (hmax : bands.bMax = x.bands.bMax)
      (hbands : ∀ i, bands.records[i]?.map Band.carried = x.bands.records[i]?.map fun b =>
        (b.lines, if i ∈ refreshedBands [slot] then b.balance + x.sign else b.balance))
      (hstill : PanelStill { x with seq := some f, bands := bands } y) : PanelChange now x y
  | goesOn {y : PanelState} (h : Handed) (d : Dimmer) (length : Nat) (hstate : x.power.state = .scanning)
      (hstop : x.power.stopPending = false) (hlength : x.frame.length = some length)
      (hnow : x.frameTick length = some now) (hands : x.Hands h) (hstill : PanelStill (x.goneOn now h d) y) :
      PanelChange now x y

theorem PanelStill.runs {x y : PanelState} (h : PanelStill x y) : RunsAs x y where
  timing := h.timing
  frame := h.frame
  build := by rw [h.builder]
  ready := by rw [h.builder]
  place := by rw [h.seq]
  state := by rw [h.power]
  stop := by rw [h.power]; exact id
  bMax := h.bMax
  carried := h.carried
  sequenced := by
    rintro ⟨houtputs, hmarks, hscan⟩
    refine ⟨by rwa [h.power], by rwa [h.power], ?_⟩
    unfold PanelState.scanLegal at hscan ⊢
    rwa [h.power, h.frame, h.seq, h.lock, h.builder, h.dimmer]
  tBase := fun _ htBase => by rwa [h.lock]

theorem RunsAs.still {x y z : PanelState} (h : RunsAs x y) (h' : PanelStill y z) : RunsAs x z where
  timing := h'.timing.trans h.timing
  frame := h'.frame.trans h.frame
  build := h'.runs.build.trans h.build
  ready := h'.runs.ready.trans h.ready
  place := h'.runs.place.trans h.place
  state := h'.runs.state.trans h.state
  stop := h.stop ∘ h'.runs.stop
  bMax := h'.bMax.trans h.bMax
  carried := h'.carried.trans h.carried
  sequenced := h'.runs.sequenced ∘ h.sequenced
  tBase := by rw [h'.lock]; exact h.tBase

/-- Balances go by what the plans go by. -/
theorem PanelState.balanced.of_carried {x y : PanelState} (h : x.balanced) (hmax : y.bands.bMax = x.bands.bMax)
    (hcarried : y.bands.records.map Band.carried = x.bands.records.map Band.carried) : y.balanced := by
  intro b hb
  have hmem : b.carried ∈ x.bands.records.map Band.carried := hcarried ▸ List.mem_map_of_mem hb
  obtain ⟨c, hc, heq⟩ := List.mem_map.mp hmem
  have hbalance : c.balance = b.balance := congrArg Prod.snd heq
  rw [hmax, ← hbalance]
  exact h c hc

/-- What stays as it was after a change belongs to the change. -/
theorem PanelChange.still {now : Tick} {x y z : PanelState} (h : PanelChange now x y) (h' : PanelStill y z) :
    PanelChange now x z := by
  cases h with
  | runs h => exact .runs (h.still h')
  | stands hstate hsequenced hbalanced =>
    exact .stands (by rwa [h'.power]) (h'.runs.sequenced ∘ hsequenced) fun hx => (hbalanced hx).of_carried h'.bMax h'.carried
  | begins w h hstate hw houtputs hplan hlength hstill =>
    exact .begins w h hstate hw houtputs hplan hlength (hstill.trans h')
  | plans b hold length hstate hstop hnext hlength hnow hbuild hstill =>
    exact .plans b hold length hstate hstop hnext hlength hnow hbuild (hstill.trans h')
  | builds b hbuild hstill => exact .builds b hbuild (hstill.trans h')
  | starts e f slot bands hseq hslot hnow hplace hmax hbands hstill =>
    exact .starts e f slot bands hseq hslot hnow hplace hmax hbands (hstill.trans h')
  | goesOn h d length hstate hstop hlength hnow hands hstill =>
    exact .goesOn h d length hstate hstop hlength hnow hands (hstill.trans h')

/-! ### Power and scanning agree through each -/

/-- A panel that scans with no stop pending is legal when its frame, plan and lock are. -/
theorem PanelState.scanLegal_of_running {x : PanelState} (hstate : x.power.state = .scanning)
    (hstop : x.power.stopPending = false) (hstart : x.frame.start.isSome = true) (hlength : x.frame.length.isSome = true)
    (hseq : x.seq.isSome = true) (hlock : x.lock.state = .free ↔ x.lock.settings.source = .none) : x.scanLegal :=
  ⟨fun _ => ⟨hstart, hlength, hseq, hlock⟩, fun h => absurd hstate h, fun h => by
    rcases h with h | h
    · exact absurd hstate h
    · rw [hstop] at h; cases h⟩

theorem lockStateFor_eq_free_iff (source : MarkerSource) : lockStateFor source = .free ↔ source = .none := by
  cases source <;> decide

theorem FrameLock.decision_eq_free_iff (l : FrameLock) : l.decision.state = .free ↔ l.state = .free := by
  constructor
  · exact fun h => not_not.mp fun hne => FrameLock.decision_ne_free hne h
  · intro h
    rw [FrameLock.decision_of_free h, h]

/-- A panel whose executing plan is kept or replaced scans as it did. -/
theorem PanelState.scanLegal.reseq {x : PanelState} (h : x.scanLegal) {e f : Executing} (hseq : x.seq = some e)
    (bands : BandTable) : PanelState.scanLegal { x with seq := some f, bands := bands } := by
  obtain ⟨hon, hoff, hdark⟩ := h
  refine ⟨fun hstate => ?_, fun hstate => ?_, hdark⟩
  · obtain ⟨hstart, hlength, -, hlock⟩ := hon hstate
    exact ⟨hstart, hlength, rfl, hlock⟩
  · obtain ⟨-, -, -, hnone, -⟩ := hoff hstate
    rw [hseq] at hnone
    cases hnone

/-- Power and scanning agree through whatever a panel does. -/
theorem PanelChange.sequenced {now : Tick} {x y : PanelState} (h : PanelChange now x y) (hx : x.sequenced) : y.sequenced := by
  cases h with
  | runs h => exact h.sequenced hx
  | stands _ hsequenced _ => exact hsequenced hx
  | begins w h _ hw houtputs _ _ hstill =>
    refine hstill.runs.sequenced ?_
    have hready := houtputs hx
    simp only [Power.outputsLegal, hw] at hready
    refine ⟨hready, ⟨fun _ => rfl, (nomatch ·), (nomatch ·)⟩, ?_⟩
    exact PanelState.scanLegal_of_running rfl rfl rfl rfl rfl (lockStateFor_eq_free_iff _)
  | plans b hold length hstate hstop _ _ _ _ hstill =>
    refine hstill.runs.sequenced ?_
    obtain ⟨houtputs, hmarks, hon, -, -⟩ := hx
    obtain ⟨hstart, hlength, hseq, hlock⟩ := hon hstate
    refine ⟨houtputs, hmarks, PanelState.scanLegal_of_running hstate hstop hstart hlength hseq ?_⟩
    have hsettings : x.lock.decision.settings = x.lock.settings := by rw [FrameLock.decision_eq]
    show x.lock.decision.state = .free ↔ x.lock.decision.settings.source = .none
    rw [FrameLock.decision_eq_free_iff, hsettings]
    exact hlock
  | builds b hbuild hstill =>
    refine hstill.runs.sequenced ?_
    obtain ⟨houtputs, hmarks, hon, hoff, hdark⟩ := hx
    refine ⟨houtputs, hmarks, hon, fun hstate => ?_, hdark⟩
    obtain ⟨-, -, -, -, hnone, -⟩ := hoff hstate
    rw [hbuild] at hnone
    cases hnone
  | starts e f slot bands hseq _ _ _ _ _ hstill =>
    obtain ⟨houtputs, hmarks, hscan⟩ := hx
    exact hstill.runs.sequenced ⟨houtputs, hmarks, hscan.reseq hseq _⟩
  | goesOn h d length hstate hstop _ _ _ hstill =>
    obtain ⟨houtputs, hmarks, hon, -, -⟩ := hx
    obtain ⟨-, -, -, hlock⟩ := hon hstate
    exact hstill.runs.sequenced ⟨houtputs, hmarks, PanelState.scanLegal_of_running hstate hstop rfl rfl rfl hlock⟩

end Sys2Proof.Machine

/-!
PROOF. Every move as what it does to each panel (`Move.changes`), and the power and scanning invariant (O58).
-/

namespace Sys2Proof.Machine

open Sys2Proof

/-! ### Panels that run on -/

theorem RunsAs.refl (x : PanelState) : RunsAs x x := (PanelStill.refl x).runs

/-- Another lock for the panel. -/
theorem RunsAs.lock {x : PanelState} {l : FrameLock}
    (hrun : x.power.state = .scanning → (x.lock.state = .free ↔ x.lock.settings.source = .none) →
      (l.state = .free ↔ l.settings.source = .none))
    (hrest : x.power.state ≠ .scanning → x.lock.state = .free → x.lock.inFlight = [] → l.state = .free ∧ l.inFlight = [])
    (htBase : x.items.legal → x.lengthLegal x.lock.tBase → x.lengthLegal l.tBase) : RunsAs x { x with lock := l } where
  timing := rfl
  frame := rfl
  build := rfl
  ready := rfl
  place := rfl
  state := rfl
  stop := id
  bMax := rfl
  carried := rfl
  sequenced := by
    rintro ⟨houtputs, hmarks, hon, hoff, hdark⟩
    refine ⟨houtputs, hmarks, fun hstate => ?_, fun hstate => ?_, hdark⟩
    · obtain ⟨hstart, hlength, hseq, hlock⟩ := hon hstate
      exact ⟨hstart, hlength, hseq, hrun hstate hlock⟩
    · obtain ⟨hstart, hlength, hnext, hseq, hbuild, hready, hfree, hflight⟩ := hoff hstate
      exact ⟨hstart, hlength, hnext, hseq, hbuild, hready, hrest hstate hfree hflight⟩
  tBase := htBase

/-- Another lock in the same state, of the same settings. -/
theorem RunsAs.lock_measuring {x : PanelState} {l : FrameLock} (hstate : l.state = x.lock.state)
    (hsettings : l.settings = x.lock.settings)
    (hflight : x.power.state ≠ .scanning → x.lock.inFlight = [] → l.inFlight = [])
    (htBase : x.items.legal → x.lengthLegal x.lock.tBase → x.lengthLegal l.tBase) : RunsAs x { x with lock := l } :=
  .lock (fun _ h => by rwa [hstate, hsettings]) (fun hrest hfree hempty => ⟨hstate.trans hfree, hflight hrest hempty⟩) htBase

/-- Another power block and dimmer for a panel that stays in its power state. -/
theorem RunsAs.switched {x : PanelState} {d : Dimmer} {w : Power} (hstate : w.state = x.power.state)
    (hstop : w.stopPending = false → x.power.stopPending = false)
    (hlegal : x.power.outputsLegal → x.power.marksLegal → w.outputsLegal ∧ w.marksLegal)
    (hdark : (x.power.state ≠ .scanning ∨ x.power.stopPending = true → x.dimmer.dark) →
      w.state ≠ .scanning ∨ w.stopPending = true → d.dark) : RunsAs x { x with dimmer := d, power := w } where
  timing := rfl
  frame := rfl
  build := rfl
  ready := rfl
  place := rfl
  state := hstate
  stop := hstop
  bMax := rfl
  carried := rfl
  sequenced := by
    rintro ⟨houtputs, hmarks, hon, hoff, hx⟩
    obtain ⟨houtputs', hmarks'⟩ := hlegal houtputs hmarks
    exact ⟨houtputs', hmarks', fun h => hon (hstate ▸ h), fun h => hoff (hstate ▸ h), hdark hx⟩
  tBase := fun _ => id

theorem RunsAs.dimmer {x : PanelState} {d : Dimmer} (h : x.dimmer.dark → d.dark) : RunsAs x { x with dimmer := d } :=
  .switched (w := x.power) rfl id (fun houtputs hmarks => ⟨houtputs, hmarks⟩) fun hx hdark => h (hx hdark)

theorem RunsAs.power {x : PanelState} {w : Power} (hstate : w.state = x.power.state)
    (hstop : w.stopPending = x.power.stopPending)
    (hlegal : x.power.outputsLegal → x.power.marksLegal → w.outputsLegal ∧ w.marksLegal) : RunsAs x { x with power := w } :=
  .switched (d := x.dimmer) hstate (by rw [hstop]; exact id) hlegal fun hx => by rwa [hstate, hstop]

/-- Bookkeeping of the executing plan that keeps the plan and the next slot. -/
theorem RunsAs.reseq {x : PanelState} {f : Executing → Executing} (hf : ∀ e, (f e).place = e.place) :
    RunsAs x { x with seq := x.seq.map f } where
  timing := rfl
  frame := rfl
  build := rfl
  ready := rfl
  place := by
    show (x.seq.map f).map Executing.place = _
    rw [Option.map_map, show Executing.place ∘ f = Executing.place from funext hf]
  state := rfl
  stop := id
  bMax := rfl
  carried := rfl
  sequenced := by
    rintro ⟨houtputs, hmarks, hscan⟩
    refine ⟨houtputs, hmarks, ?_⟩
    cases hseq : x.seq with
    | none =>
      have hsame : ({ x with seq := none } : PanelState) = x := by rw [← hseq]
      rw [Option.map_none, hsame]
      exact hscan
    | some e => exact hscan.reseq hseq x.bands
  tBase := fun _ => id

/-! ### What a move does to both panels -/

/-- Each panel changes in one of the ways, at one instant. -/
structure StateChange (s t : State) : Prop where
  count : t.count = s.count
  held : t.resetLogic.held = s.resetLogic.held
  panel : ∀ p, PanelChange s.count (s.panel p) (t.panel p)

theorem StillFrame.changes {s t : State} (h : StillFrame s t) : StateChange s t :=
  ⟨h.count, by rw [h.resetLogic], fun p => .runs (h.panel p).runs⟩

theorem StateChange.still {s t u : State} (h : StateChange s t) (h' : StillFrame t u) : StateChange s u :=
  ⟨h'.count.trans h.count, by rw [h'.resetLogic, h.held], fun p => (h.panel p).still (h'.panel p)⟩

theorem StateChange.updPanel {s : State} {p : Panel} {f : PanelState → PanelState}
    (h : PanelChange s.count (s.panel p) (f (s.panel p))) : StateChange s (s.updPanel p f) where
  count := updPanel_count ..
  held := by rw [updPanel_resetLogic]
  panel := fun q => by
    rw [panel_updPanel_ite]
    split
    · subst q; exact h
    · exact .runs (.refl _)

/-- One panel changes, and the other one runs on. -/
theorem StateChange.of_panel {s t : State} {p : Panel} (hcount : t.count = s.count)
    (hheld : t.resetLogic.held = s.resetLogic.held) (hp : PanelChange s.count (s.panel p) (t.panel p))
    (ho : RunsAs (s.panel (otherPanel p)) (t.panel (otherPanel p))) : StateChange s t := by
  refine ⟨hcount, hheld, fun q => ?_⟩
  by_cases hq : q = p
  · exact hq ▸ hp
  · exact eq_otherPanel_of_ne hq ▸ .runs ho

/-! ### The requests that set up a panel -/

theorem State.configurable_iff {s : State} {p : Panel} :
    s.configurable p = true ↔ (s.panel p).power.state = .off ∨ (s.panel p).power.state = .ready := by
  rw [State.configurable, Bool.or_eq_true, beq_iff_eq, beq_iff_eq]

theorem State.not_scanning_of_configurable {s : State} {p : Panel} (h : s.configurable p = true) :
    (s.panel p).power.state ≠ .scanning := by
  rcases State.configurable_iff.mp h with h | h <;> rw [h] <;> decide

theorem balanced_fresh (x : PanelState) (bMax : Nat) (layout : List BandSpec) :
    PanelState.balanced { x with bands := .fresh bMax layout } := by
  intro b hb
  obtain ⟨spec, -, rfl⟩ := List.mem_map.mp hb
  exact Int.natCast_nonneg bMax

theorem balanced_configure {x : PanelState} (t : Timing) (h : x.balanced) : (x.configure t).balanced := by
  intro b hb
  change b ∈ recordsUnder x t.nAct at hb
  unfold recordsUnder at hb
  split at hb
  · exact h b hb
  · obtain rfl := List.mem_singleton.mp hb
    exact Int.natCast_nonneg x.bands.bMax

theorem FrameLock.setMode_same {settings : LockSettings} {l : FrameLock} (h : settings.source = l.settings.source)
    (tNom : Nat) (scanning : Bool) : l.setMode settings tNom scanning = { l with settings := settings } := if_pos h

theorem lengthLegal_tNom {x : PanelState} (h : x.items.legal) : x.lengthLegal x.timing.tNom := by
  obtain ⟨-, hmin, hmax, -⟩ := h
  exact ⟨hmin, hmax⟩

/-- LOCK_MODE leaves the panel running (R14). -/
theorem RunsAs.setMode (x : PanelState) (settings : LockSettings) {scanning : Bool}
    (hscanning : scanning = true ↔ x.power.state = .scanning) :
    RunsAs x { x with lock := x.lock.setMode settings x.timing.tNom scanning } := by
  by_cases hsource : settings.source = x.lock.settings.source
  · rw [FrameLock.setMode_same hsource]
    exact .lock (fun _ h => by rwa [hsource]) (fun _ hfree hflight => ⟨hfree, hflight⟩) fun _ => id
  · rw [FrameLock.setMode, if_neg hsource]
    refine .lock (fun hstate _ => ?_) (fun hstate _ _ => ⟨if_neg (mt hscanning.mp hstate), rfl⟩)
      fun hlegal _ => lengthLegal_tNom hlegal
    show (if scanning = true then _ else _) = _ ↔ _
    rw [if_pos (hscanning.mpr hstate)]
    exact lockStateFor_eq_free_iff _

theorem State.scanning_iff {s : State} {p : Panel} : s.scanning p = true ↔ (s.panel p).power.state = .scanning := by
  rw [State.scanning, beq_iff_eq]

theorem changes_lockModeTold (s : State) (p : Panel) (settings : LockSettings) :
    StateChange s (s.lockModeTold p settings) := by
  have hmode : StateChange s (s.updPanel p fun x =>
      { x with lock := x.lock.setMode settings (s.panel p).timing.tNom (s.scanning p) }) :=
    .updPanel (.runs (RunsAs.setMode _ settings State.scanning_iff))
  unfold State.lockModeTold
  split
  · exact hmode.still (.postOwn ..)
  · exact hmode

theorem PanelStill.setWatches (x : PanelState) (q : Port) (w : WatchPair) : PanelStill x (x.setWatches q w) := by
  cases q <;> exact ⟨rfl, rfl, rfl, rfl, rfl, rfl, rfl, rfl, rfl⟩

/-- What leaves the two panels leaves their running. -/
theorem StillFrame.beside {s t : State} (hcount : t.count = s.count) (hreset : t.resetLogic = s.resetLogic)
    (hcluster : t.cluster = s.cluster) (hcentre : t.centre = s.centre) : StillFrame s t :=
  .of_panels hcount hreset fun p => by
    cases p with
    | cluster => exact hcluster
    | centre => exact hcentre

theorem StillFrame.posted {s t : State} (q : Port) (n : Notice) (h : StillFrame s t) : StillFrame s (Machine.post q n t) :=
  h.trans (.post ..)

theorem StillFrame.replaceLimit (limit : Nat) (s : State) : StillFrame s (replaceLimit limit s) := by
  have hlimit : StillFrame s { s with mismatchLimit := limit } := .beside rfl rfl rfl rfl
  refine hlimit.trans (.updBands ?_)
  rw [List.map_map]
  rfl

theorem StillFrame.closeWindow (i : Nat) (w : Window) (reason : CloseReason) (s : State) :
    StillFrame s (closeWindow i w reason s) := by
  unfold Machine.closeWindow
  exact .posted _ _ ((StillFrame.revokeAll ..).trans (.beside rfl rfl rfl rfl))

theorem StillFrame.closeAllWindows (reason : CloseReason) (s : State) : StillFrame s (closeAllWindows reason s) := by
  refine .foldl (f := Machine.closeIfOpen reason) (fun s i => ?_) _ s
  unfold Machine.closeIfOpen
  split
  · exact .closeWindow ..
  · exact .refl s

theorem StillFrame.enterFault (reason : FaultReason) (elapsed : Nat) (s : State) :
    StillFrame s (enterFault reason elapsed s) := by
  have hfail : StillFrame s (setSupervisionCause { s with monitor := s.monitor.fail reason }) :=
    .beside rfl rfl rfl rfl
  have hclosed := hfail.trans (.closeAllWindows .fault _)
  exact .ite hclosed (hclosed.trans (.postBoth ..))

theorem StillFrame.disableMedia (s : State) : StillFrame s (disableMedia s) := by
  have hport : StillFrame s { s with mediaEnabled := false, media := { s.media with queue := [] } } :=
    .beside rfl rfl rfl rfl
  have hdrop : ∀ (p : Panel) (u : State), StillFrame u (u.updPanel p dropMediaWatches) := fun p u =>
    .updPanel ⟨rfl, rfl, rfl, rfl, rfl, rfl, rfl, rfl, rfl⟩
  exact ((hport.trans (.revokeAll ..)).trans (hdrop .cluster _)).trans (hdrop .centre _)

theorem StillFrame.finishWrite (w : ProfileWriting) (s : State) : StillFrame s (finishWrite w s) := by
  unfold Machine.finishWrite
  exact .posted _ _ (.beside rfl rfl rfl rfl)

/-- A panel that was OFF has begun to ramp (R142). -/
theorem PanelChange.turnOn {now at_ : Tick} {x : PanelState} (hstate : x.power.state = .off) (tA tB tC : Nat) :
    PanelChange now x { x with power := x.power.rampingUp at_ tA tB tC } := by
  refine .stands (nomatch ·) ?_ fun h => h
  rintro ⟨houtputs, ⟨hstop, hoff, hauto⟩, hscan⟩
  simp only [Power.outputsLegal, hstate] at houtputs
  obtain ⟨-, hgate, -⟩ := houtputs
  refine ⟨⟨rfl, .inl ⟨hgate, rfl⟩⟩, ⟨fun h => ?_, hoff, fun _ => rfl⟩, hscan.standing (by rw [hstate]; decide) (nomatch ·)⟩
  have := hstop h
  rw [hstate] at this
  cases this

theorem StateChange.setPanel {s : State} {p : Panel} {x : PanelState} (h : PanelChange s.count (s.panel p) x) :
    StateChange s (s.setPanel p x) := by
  have hset : s.setPanel p x = s.updPanel p fun _ => x := by cases p <;> rfl
  rw [hset]
  exact .updPanel h

theorem Setup.changes {s t : State} (h : Setup s t) : StateChange s t := by
  cases h with
  | configure p t hstate =>
    have hrest := State.not_scanning_of_configurable hstate
    exact .updPanel (.stands hrest id (balanced_configure t))
  | lockMode p r settings => exact changes_lockModeTold s p settings
  | bandLayout p bMax layout hstate =>
    have hrest := State.not_scanning_of_configurable hstate
    exact .updPanel (.stands hrest id fun _ => balanced_fresh _ bMax layout)
  | lineWatch p q position content => exact (StillFrame.updPanel (.setWatches _ q _)).changes
  | crcSet band crc limit =>
    have hlimit : StillFrame s (if limit = 0 then s else replaceLimit limit s) := .ite (.refl s) (.replaceLimit ..)
    have hcheck : ∀ u : State, StillFrame u (u.updBands .cluster (modifyBand band (Band.setCheck (some crc)))) := fun u =>
      .updBands (carried_modifyBand (f := Band.setCheck (some crc)) (fun _ => rfl) _ _)
    exact ((hlimit.trans (hcheck _)).trans (.dropExpectation ..)).changes
  | touchGroups => exact (StillFrame.updTouch ..).changes
  | freqTable => exact (StillFrame.updTouch ..).changes
  | backlight p r settings => exact .updPanel (.runs (.dimmer id))
  | windowOpen i w n => exact StillFrame.changes (.posted _ _ (.beside rfl rfl rfl rfl))
  | windowClose i w => exact (StillFrame.closeWindow ..).changes
  | writeOpen => exact (StillFrame.grantList ..).changes
  | panelOn p tA tB tC _ _ _ hstate =>
    rw [turnOn_eq]
    exact (StateChange.setPanel (.turnOn hstate tA tB tC)).still (.postAll ..)
  | superviseStart => exact StillFrame.changes (.beside rfl rfl rfl rfl)
  | newPeriod => exact StillFrame.changes (.beside rfl rfl rfl rfl)
  | enterFault reason elapsed => exact (StillFrame.enterFault ..).changes
  | clearFault => exact StillFrame.changes (.beside rfl rfl rfl rfl)
  | mediaEnable => exact StillFrame.changes (.beside rfl rfl rfl rfl)
  | mediaDisable => exact (StillFrame.disableMedia s).changes
  | profileWrite => exact StillFrame.changes (.beside rfl rfl rfl rfl)
  | profileWriteDone w => exact (StillFrame.finishWrite w s).changes

end Sys2Proof.Machine

/-!
PROOF. The events of a frame, the power steps and the resets as what they do to each panel (`Move.changes`), and the power
and scanning invariant (O58).
-/

namespace Sys2Proof.Machine

open Sys2Proof

/-! ### Slots -/

/-- The slot due is the next one of the executing plan, and starts now (R70). -/
theorem State.of_slotDue {s : State} {p : Panel} {slot : Slot} (h : s.slotDue p = some slot) :
    ∃ e, (s.panel p).seq = some e ∧ e.plan.slots[e.position]? = some slot ∧
      (s.panel p).frameTick slot.start = some s.count := by
  unfold State.slotDue at h
  cases hseq : (s.panel p).seq with
  | none => simp [hseq] at h
  | some e =>
    cases hnext : e.plan.slots[e.position]? with
    | none => simp [hseq, Executing.nextSlot, hnext] at h
    | some next =>
      simp only [hseq, Option.bind_some, Executing.nextSlot, hnext, beq_iff_eq, Option.ite_none_right_eq_some,
        Option.some.injEq] at h
      obtain ⟨hnow, rfl⟩ := h
      exact ⟨e, rfl, hnext, hnow⟩

theorem StillFrame.updSeq {s t : State} (h : StillFrame s t) (p : Panel) (f : Executing → Executing) :
    StillFrame (s.updSeq p f) (t.updSeq p f) where
  count := (updPanel_count ..).trans (h.count.trans (updPanel_count ..).symm)
  resetLogic := (updPanel_resetLogic ..).trans (h.resetLogic.trans (updPanel_resetLogic ..).symm)
  panel := fun q => by
    have hq := h.panel q
    rw [State.updSeq, State.updSeq, panel_updPanel_ite, panel_updPanel_ite]
    split
    · exact ⟨hq.timing, hq.frame, hq.lock, hq.builder, congrArg (Option.map f) hq.seq, hq.dimmer, hq.power, hq.bMax,
        hq.carried⟩
    · exact hq

theorem PanelStill.fired (lo hi : Nat) (q : Port) (position : Nat) (x : PanelState) :
    PanelStill x (x.fired lo hi q position) := by
  unfold PanelState.fired
  exact .setWatches ..

theorem StillFrame.fireWatch (p : Panel) (b : Placed) (refreshed : Bool) (q : Port) (position : Nat) (s : State) :
    StillFrame s (fireWatch p b refreshed q position s) := by
  rw [fireWatch_eq]
  exact (StillFrame.updPanel (.fired ..)).trans (.postAll ..)

theorem StillFrame.fireWatches (p : Panel) (b : Placed) (refreshed : Bool) (s : State) :
    StillFrame s (fireWatches p b refreshed s) :=
  (((StillFrame.fireWatch ..).trans (.fireWatch ..)).trans (.fireWatch ..)).trans (.fireWatch ..)

/-- A slot that refreshes no band of the panel starts. -/
theorem changes_updSeq {s : State} {p : Panel} {slot : Slot} {f : Executing → Executing} (hslot : s.slotDue p = some slot)
    (hf : ∀ e, (f e).place = (e.plan, e.position + 1))
    (hkind : ∀ i ∈ refreshedBands [slot], (s.panel p).bands.records[i]? = none) : StateChange s (s.updSeq p f) := by
  obtain ⟨e, hseq, hnext, hnow⟩ := State.of_slotDue hslot
  refine .updPanel (.starts e (f e) slot (s.panel p).bands hseq hnext hnow (hf e) rfl (fun i => ?_) ?_)
  · cases hb : (s.panel p).bands.records[i]? with
    | none => rfl
    | some b =>
      have hnot : i ∉ refreshedBands [slot] := fun hi => by rw [hkind i hi] at hb; cases hb
      rw [Option.map_some, Option.map_some, if_neg hnot]
      rfl
  · rw [hseq]
    exact .refl _

theorem refreshedBands_refresh {slot : Slot} {i : Nat} {pol : FramePolarity} (h : slot.kind = .refresh i pol) :
    refreshedBands [slot] = [i] := by
  simp only [refreshedBands, List.filterMap_cons, h, List.filterMap_nil]

theorem refreshedBands_other {slot : Slot} (h : ∀ i pol, slot.kind ≠ .refresh i pol) : refreshedBands [slot] = [] := by
  unfold refreshedBands
  rw [List.filterMap_cons, List.filterMap_nil]
  cases hkind : slot.kind with
  | refresh i pol => exact absurd hkind (h i pol)
  | skip i => rfl
  | touch => rfl
  | listen => rfl

/-- A band that is not in the table has no record. -/
theorem record_of_bandAt_none {s : State} {p : Panel} {i : Nat} (h : s.bandAt p i = none) :
    (s.panel p).bands.records[i]? = none := by
  rw [bandAt_eq, Option.map_eq_none_iff] at h
  exact h

theorem changes_startRefresh {s : State} {p : Panel} {slot : Slot} {i : Nat} {pol : FramePolarity} {b : Placed}
    (hslot : s.slotDue p = some slot) (hkind : slot.kind = .refresh i pol) (hb : s.bandAt p i = some b) :
    StateChange s (startRefresh p b slot.cost (polarityOf (s.panel p).frame.number) s) := by
  obtain ⟨e, hseq, hnext, hnow⟩ := State.of_slotDue hslot
  rw [bandAt_eq, Option.map_eq_some_iff] at hb
  obtain ⟨r, hr, rfl⟩ := hb
  let refreshed := Band.refreshed (polarityOf (s.panel p).frame.number)
  let pass : Executing → Executing := fun e =>
    { e with
      position := e.position + 1
      refreshed := e.refreshed + 1
      driving := e.driving ++ [{ band := i, ends := s.count.after slot.cost }] }
  have hstart : StateChange s ((s.updBands p (modifyBand i refreshed)).updSeq p pass) := by
    rw [State.updBands, State.updSeq, updPanel_updPanel]
    refine .updPanel (.starts e (pass e) slot { (s.panel p).bands with
      records := modifyBand i refreshed (s.panel p).bands.records } hseq hnext hnow rfl rfl (fun j => ?_) ?_)
    · rw [refreshedBands_refresh hkind, modifyBand_eq_modify, List.getElem?_modify]
      cases (s.panel p).bands.records[j]? with
      | none => rfl
      | some c =>
        show some (Band.carried (if i = j then refreshed c else c)) = some (c.lines, if j ∈ [i] then _ else _)
        by_cases hij : i = j
        · subst hij
          rw [if_pos rfl, if_pos (List.mem_singleton.mpr rfl), PanelState.sign, ← signOf_polarityOf]
          rfl
        · rw [if_neg hij, if_neg fun h => hij (List.mem_singleton.mp h).symm]
          rfl
    · show PanelStill _ { s.panel p with bands := _, seq := (s.panel p).seq.map pass }
      rw [hseq]
      exact .refl _
  refine hstart.still (.trans (.updSeq ?_ p pass) (.fireWatches ..))
  refine .trans ?_ (.sendLink ..)
  have htorn : StillFrame (s.updBands p (modifyBand i refreshed))
      (tearGrant p i (s.updBands p (modifyBand i refreshed))) := .tearGrant ..
  cases expectedCrc p (s.coveringGrant p i).isSome { index := i, first := (s.panel p).bands.firstLine i, band := r } with
  | none => exact htorn
  | some crc => exact htorn.trans (.updLink _ p _ fun _ => ⟨_, _, _, rfl⟩)

/-! ### Markers, edges and bookkeeping -/

theorem RunsAs.subscribe (x : PanelState) (q : Port) (on : Bool) :
    RunsAs x { x with builder := x.builder.subscribe q on } := by
  have hbuild : (x.builder.subscribe q on).build = x.builder.build := by cases q <;> rfl
  have hready : (x.builder.subscribe q on).ready = x.builder.ready := by cases q <;> rfl
  refine ⟨rfl, rfl, hbuild, hready, rfl, rfl, id, rfl, rfl, ?_, fun _ => id⟩
  rintro ⟨houtputs, hmarks, hon, hoff, hdark⟩
  refine ⟨houtputs, hmarks, hon, fun hstate => ?_, hdark⟩
  show _ ∧ _ ∧ _ ∧ _ ∧ (x.builder.subscribe q on).build = none ∧ (x.builder.subscribe q on).ready = none ∧ _
  rw [hbuild, hready]
  exact hoff hstate

/-- A dark backlight drives no edge. -/
theorem Dimmer.dark.drive {d : Dimmer} (h : d.dark) (freeLevel : Bool) : (d.drive freeLevel).dark := by
  have hedges : d.edges = [] := by
    obtain ⟨-, -, -, -, -, hedges, -⟩ := h
    exact hedges
  unfold Dimmer.drive
  rw [hedges]
  exact h

theorem Dimmer.dark.capNow {d : Dimmer} (h : d.dark) : d.capNow.dark := by
  obtain ⟨happlied, hduty, hnow, hnext, henable, hedges, hactive⟩ := h
  refine ⟨?_, hduty, ?_, ?_, henable, hedges, hactive⟩
  · show min d.applied _ = 0
    rw [happlied, Nat.zero_min]
  · simp [Dimmer.capNow, hnow, happlied]
  · simp [Dimmer.capNow, hnext, hduty]

theorem measuredPeriod_legal {x : PanelState} (h : x.items.legal) {now : Tick} {previous : Option Tick} {tBase : Nat}
    (htBase : x.lengthLegal tBase) : x.lengthLegal (measuredPeriod x.timing now previous tBase) := by
  have hlimits : x.timing.tMin ≤ x.timing.tMax := by
    obtain ⟨hmin, hmax⟩ := lengthLegal_tNom h
    exact Nat.le_trans hmin hmax
  cases previous with
  | none => exact htBase
  | some m => exact ⟨Nat.le_max_left .., Nat.max_le.mpr ⟨hlimits, Nat.min_le_left ..⟩⟩

/-- A marker used, or not, leaves the panel running (R17). -/
theorem RunsAs.useMarker {x : PanelState} {l : FrameLock} {other : FrameLock → FrameLock} (now : Tick)
    (hstate : l.state = x.lock.state) (hsettings : l.settings = x.lock.settings) (htBase : l.tBase = x.lock.tBase)
    (hflight : x.power.state ≠ .scanning → x.lock.inFlight = [] → l.inFlight = [])
    (hother : (other l).state = l.state ∧ (other l).settings = l.settings ∧ (other l).tBase = l.tBase ∧
      (other l).inFlight = l.inFlight) : RunsAs x (useMarker now other { x with lock := l }) := by
  unfold Machine.useMarker
  split
  · refine .lock_measuring hstate hsettings hflight fun hlegal hlength => ?_
    exact measuredPeriod_legal hlegal (htBase ▸ hlength)
  · obtain ⟨hstate', hsettings', htBase', hflight'⟩ := hother
    exact .lock_measuring (hstate'.trans hstate) (hsettings'.trans hsettings)
      (fun hrest hempty => hflight'.trans (hflight hrest hempty)) fun _ hlength => by rwa [htBase', htBase]

theorem RunsAs.takeEdge (now : Tick) (x : PanelState) : RunsAs x (takeEdge now x) := by
  unfold Machine.takeEdge
  split
  · exact .useMarker now rfl rfl rfl (fun _ => id) ⟨rfl, rfl, rfl, rfl⟩
  · exact .lock_measuring rfl rfl (fun _ => id) fun _ => id

/-- A marker produced for the panel, when it scans (R16). -/
theorem RunsAs.partnerMarked (now : Tick) (x : PanelState) : RunsAs x (x.partnerMarked now) := by
  unfold PanelState.partnerMarked
  split
  · refine .lock_measuring rfl rfl (fun hrest => ?_) fun _ => id
    exact absurd (And.left ‹_›) hrest
  · exact .refl x

theorem PanelStill.partnerMarked {x y : PanelState} (h : PanelStill x y) (now : Tick) :
    PanelStill (x.partnerMarked now) (y.partnerMarked now) := by
  refine ⟨h.timing, h.frame, ?_, h.builder, h.seq, h.dimmer, h.power, h.bMax, h.carried⟩
  show ite _ _ _ = ite _ _ _
  rw [h.power, h.lock]

/-- The markers in flight are dropped (R16). -/
theorem RunsAs.dropMarkers (x : PanelState) : RunsAs x { x with lock := { x.lock with inFlight := [] } } :=
  .lock_measuring rfl rfl (fun _ _ => rfl) fun _ => id

theorem carried_setChecks (first last i : Nat) (crcs : List Crc) (bs : List Band) :
    (setChecks first last i crcs bs).map Band.carried = bs.map Band.carried := by
  induction bs generalizing i crcs with
  | nil => rfl
  | cons b bs ih =>
    rw [setChecks]
    split
    · exact congrArg (b.carried :: ·) (ih ..)
    · exact congrArg (b.carried :: ·) (ih ..)

theorem StillFrame.closeGrant (g : Grant) (crcs : List Crc) (s : State) : StillFrame s (closeGrant g crcs s) := by
  refine ((StillFrame.endGrant g s).trans (.updBands (carried_setChecks ..))).trans (.foldl (fun s i => ?_) _ _)
  cases g.panel with
  | centre => exact .refl s
  | cluster => exact .dropExpectation i s

/-! ### Frames -/

theorem changes_startScanning {s : State} {p : Panel} {w : Power} {u : State}
    (hcount : u.count = s.count) (hheld : u.resetLogic.held = s.resetLogic.held)
    (hp : u.panel p = { s.panel p with power := w }) (ho : u.panel (otherPanel p) = s.panel (otherPanel p))
    (hstate : (s.panel p).sequenced → (s.panel p).power.state ≠ .scanning) (hw : w.state = .ready)
    (houtputs : (s.panel p).sequenced → w.outputsLegal) : StateChange s (startScanning p u) := by
  have hhanded := u.firstHanded_beginScan p
  have hfields : ∀ q, (startScanning p u).panel q =
      ((u.updPanel p PanelState.beginScan).frameStarted p ((u.updPanel p PanelState.beginScan).firstHanded p)).panel q := by
    intro q
    rw [startScanning_eq, postAll_panel]
  refine .of_panel (p := p) ?_ ?_ ?_ ?_
  · rw [startScanning_eq, postAll_count, ← hcount]
    cases p <;> rfl
  · rw [startScanning_eq, postAll_eq, ← hheld]
    cases p <;> rfl
  · rw [startScanning_panel, hp, hcount]
    refine .begins w _ hstate hw houtputs ?_ ?_ (.refl _)
    · rw [hhanded, hp]
    · rw [hhanded, hp]
      rfl
  · rw [hfields, (frameStarted_panel ..).2, panel_updPanel_other, ho]
    exact .partnerMarked ..

theorem State.of_planPointDue {s : State} {p : Panel} (h : s.planPointDue p = true) :
    (s.panel p).power.state = .scanning ∧ (s.panel p).power.stopPending = false ∧ (s.panel p).frame.next = none ∧
      ∃ length, (s.panel p).frame.length = some length ∧
        (s.panel p).frameTick (length - leadTime (s.panel p).timing) = some s.count := by
  unfold State.planPointDue at h
  cases hlength : (s.panel p).frame.length with
  | none => simp [hlength] at h
  | some length =>
    simp only [hlength, Bool.and_eq_true, beq_iff_eq, Bool.not_eq_true', Option.isNone_iff_eq_none] at h
    obtain ⟨⟨⟨hstate, hstop⟩, hnext⟩, hnow⟩ := h
    exact ⟨hstate, hstop, hnext, length, rfl, hnow⟩

theorem State.of_frameEndDue {s : State} {p : Panel} (h : s.frameEndDue p = true) :
    (s.panel p).power.state = .scanning ∧ ∃ length, (s.panel p).frame.length = some length ∧
      (s.panel p).frameTick length = some s.count := by
  unfold State.frameEndDue at h
  cases hlength : (s.panel p).frame.length with
  | none => simp [hlength] at h
  | some length =>
    simp only [hlength, Bool.and_eq_true, beq_iff_eq] at h
    exact ⟨h.1, length, rfl, h.2⟩

theorem snapshot_lineCounts (s : State) (p : Panel) (T : Nat) (listen : Option ListenItem) :
    (s.snapshot p T listen).lineCounts = (s.panel p).bands.records.map Band.lines := by
  refine List.ext_getElem? fun i => ?_
  rw [Snapshot.lineCounts, List.getElem?_map, snapshot_getElem?_bands, List.getElem?_map, Option.map_map]
  cases (s.panel p).bands.records[i]? with
  | none => rfl
  | some b => exact congrArg some (projectBand_copies ..).1

theorem planPoint_otherPanel (p : Panel) (s : State) :
    (planPoint p s).panel (otherPanel p) = s.panel (otherPanel p) := by
  rw [planPoint_eq, postAll_panel]
  cases p <;> rfl

theorem newBuild_buildsOn (s : State) (p : Panel) : (s.panel p).BuildsOn ((s.planned p).newBuild p) := by
  have hsnapshot : ((s.planned p).newBuild p).snapshot =
      (s.planned p).snapshot p (s.panel p).plannedLength (s.planned p).touch.listenCandidate := by
    rw [planned_newBuild]
  have hpanel := s.planned_panel p
  refine ⟨?_, ?_, ?_, ?_, ?_, fun i y hy => ?_, rfl⟩
  · rw [hsnapshot]; exact (congrArg (fun x : PanelState => x.frame.number + 1) hpanel).trans rfl
  · rw [hsnapshot]; rfl
  · rw [hsnapshot]; exact (congrArg PanelState.timing hpanel).trans rfl
  · rw [hsnapshot]; exact (congrArg (fun x : PanelState => x.bands.bMax) hpanel).trans rfl
  · rw [hsnapshot, snapshot_lineCounts, hpanel]; rfl
  · obtain ⟨covered, mediaOwned, hz, -, -⟩ := planned_snapshot_band (T := (s.panel p).plannedLength)
      (listen := (s.planned p).touch.listenCandidate) hy
    rw [signOf_polarityOf] at hz
    exact ⟨covered, mediaOwned, by rw [hsnapshot]; exact hz⟩

theorem changes_planPoint {s : State} {p : Panel} (hdue : s.planPointDue p = true) : StateChange s (planPoint p s) := by
  obtain ⟨hstate, hstop, hnext, length, hlength, hnow⟩ := State.of_planPointDue hdue
  refine .of_panel (p := p) ?_ ?_ ?_ ?_
  · rw [planPoint_eq, postAll_count]
    cases p <;> rfl
  · rw [planPoint_eq, postAll_eq]
    cases p <;> rfl
  · rw [planPoint_panel]
    exact .plans _ s.supply.hold length hstate hstop hnext hlength hnow (newBuild_buildsOn s p) (.refl _)
  · rw [planPoint_otherPanel]
    exact .refl _

end Sys2Proof.Machine

/-!
PROOF. The frame end, the power steps and the resets as what they do to each panel (`Move.changes`), and the power and
scanning invariant (O58).
-/

namespace Sys2Proof.Machine

open Sys2Proof

/-! ### The frame end -/

/-- The frame-end work leaves the running of a panel, its dimmer apart. -/
theorem frameEndWork_panel (p : Panel) (s : State) :
    PanelStill { s.panel p with dimmer := (s.panel p).dimmed.dimmer } ((frameEndWork p s).panel p) ∧
      PanelStill (s.panel (otherPanel p)) ((frameEndWork p s).panel (otherPanel p)) ∧
      (frameEndWork p s).count = s.count ∧ (frameEndWork p s).resetLogic = s.resetLogic := by
  have hstill := StillFrame.frameEndWork p s
  have hp := hstill.panel p
  have ho := hstill.panel (otherPanel p)
  have hcount := hstill.count
  have hreset := hstill.resetLogic
  cases p <;> exact ⟨hp, ho, hcount, hreset⟩

theorem map_lines_of_carried {bs cs : List Band} (h : cs.map Band.carried = bs.map Band.carried) :
    cs.map Band.lines = bs.map Band.lines := by
  have hlines := congrArg (List.map Prod.fst) h
  rw [List.map_map, List.map_map] at hlines
  exact hlines

/-- What the builder hands over after the frame-end work (R61). -/
theorem hands_of_frameEndWork (p : Panel) (s : State) : (s.panel p).Hands ((frameEndWork p s).handed p) := by
  obtain ⟨hp, -⟩ := frameEndWork_panel p s
  have hbuilder := hp.builder
  cases hready : ((frameEndWork p s).panel p).builder.ready with
  | some r =>
    rw [State.handed_of_ready hready]
    exact .ready r (by rw [← hready, hbuilder])
  | none =>
    have hnone : (s.panel p).builder.ready = none := by rw [← hready, hbuilder]
    cases hbuild : ((frameEndWork p s).panel p).builder.build with
    | some b =>
      rw [State.handed_of_build hready hbuild]
      exact .build b hnone (by rw [← hbuild, hbuilder])
    | none =>
      have hhanded : (frameEndWork p s).handed p = ((frameEndWork p s).newBuild p).handed := by
        simp only [State.handed, hready, hbuild]
      rw [hhanded]
      refine .neither _ hnone (by rw [← hbuild, hbuilder]) hp.timing ?_ ?_
      · have hlines := map_lines_of_carried hp.carried
        exact (snapshot_lineCounts ..).trans hlines
      · show ((frameEndWork p s).panel p).frame.next.getD ((frameEndWork p s).panel p).timing.tNom = _
        rw [hp.frame, hp.timing]

theorem PanelStill.goneOn {x w : PanelState} {d : Dimmer} (h : PanelStill { x with dimmer := d } w) (now : Tick) (hd : Handed) :
    PanelStill (x.goneOn now hd d) (w.numbered.started now hd) where
  timing := h.timing
  frame := by
    show ({ number := w.frame.number + 1, start := some now, length := some hd.length, next := none } : FrameTimer) = _
    rw [h.frame]
    rfl
  lock := h.lock
  builder := congrArg (Builder.handOver hd) h.builder
  seq := congrArg (fun t => some (hd.executing t)) h.timing
  dimmer := congrArg (Dimmer.formEdges hd.length) h.dimmer
  power := h.power
  bMax := h.bMax
  carried := h.carried

theorem postAll_resetLogic (told : List (Port × Notice)) (s : State) : (postAll told s).resetLogic = s.resetLogic := by
  rw [postAll_eq]

theorem frameStarted_numbered_count (u : State) (p : Panel) (h : Handed) :
    ((u.updPanel p PanelState.numbered).frameStarted p h).count = u.count ∧
      ((u.updPanel p PanelState.numbered).frameStarted p h).resetLogic = u.resetLogic := by
  cases p <;> exact ⟨rfl, rfl⟩

theorem scanEnded_count (u : State) (p : Panel) (w : Power) :
    (u.scanEnded p w).count = u.count ∧ (u.scanEnded p w).resetLogic = u.resetLogic := by
  cases p <;> exact ⟨rfl, rfl⟩

theorem changes_frameEnd_of_goes_on {s : State} {p : Panel} (hdue : s.frameEndDue p = true)
    (hstop : (s.panel p).power.stopPending = false) : StateChange s (frameEnd p s) := by
  obtain ⟨hstate, length, hlength, hnow⟩ := State.of_frameEndDue hdue
  obtain ⟨hp, ho, hcount, hreset⟩ := frameEndWork_panel p s
  have hands := hands_of_frameEndWork p s
  rw [frameEnd_of_goes_on hstop, frameStart_eq]
  generalize (frameEndWork p s).handed p = h at hands
  obtain ⟨hmine, hyours⟩ := frameStarted_panel p h ((frameEndWork p s).updPanel p PanelState.numbered)
  rw [panel_updPanel, updPanel_count, hcount] at hmine
  rw [panel_updPanel_other, updPanel_count, hcount] at hyours
  refine .of_panel (p := p) ?_ ?_ ?_ ?_
  · rw [postAll_count, (frameStarted_numbered_count ..).1, hcount]
  · rw [postAll_resetLogic, (frameStarted_numbered_count ..).2, hreset]
  · rw [postAll_panel, hmine]
    exact .goesOn h _ length hstate hstop hlength hnow hands (hp.goneOn s.count h)
  · rw [postAll_panel, hyours]
    exact (RunsAs.partnerMarked s.count _).still (ho.partnerMarked s.count)

/-- A power block in READY or DRAIN once its scan has ended is legal (R145, R147). -/
theorem Power.legal_stopped {w : Power} (hstate : w.state = .scanning) (houtputs : w.outputsLegal) (hmarks : w.marksLegal) :
    w.stopped.outputsLegal ∧ w.stopped.marksLegal := by
  obtain ⟨-, -, hauto⟩ := hmarks
  simp only [Power.outputsLegal, hstate] at houtputs
  refine ⟨houtputs, (nomatch ·), (nomatch ·), fun h => ?_⟩
  have := hauto h
  rw [hstate] at this
  cases this

/-- The entry into DRAIN from a state that drives LOGIC_EN, with no stop pending (R147). -/
theorem Power.legal_draining {w : Power} (now : Tick) (hlogic : w.logicEn = true) (hstop : w.stopPending = false)
    (hoff : w.offPending = false) : (w.draining now).outputsLegal ∧ (w.draining now).marksLegal := by
  refine ⟨⟨hlogic, rfl, rfl⟩, fun h => ?_, fun h => ?_, (nomatch ·)⟩
  · rw [show (w.draining now).stopPending = false from hstop] at h
    cases h
  · rw [show (w.draining now).offPending = false from hoff] at h
    cases h

/-- A panel at rest: nothing runs, the lock is FREE, the backlight dark (R11, R12). -/
structure PanelState.AtRest (x : PanelState) : Prop where
  start : x.frame.start = none
  length : x.frame.length = none
  next : x.frame.next = none
  seq : x.seq = none
  build : x.builder.build = none
  ready : x.builder.ready = none
  lock : x.lock.state = .free
  markers : x.lock.inFlight = []
  dark : x.dimmer.dark

theorem PanelState.AtRest.sequenced {x : PanelState} (h : x.AtRest) (hstate : x.power.state ≠ .scanning)
    (hlegal : x.power.outputsLegal ∧ x.power.marksLegal) : x.sequenced :=
  ⟨hlegal.1, hlegal.2, fun hscan => absurd hscan hstate,
    fun _ => ⟨h.start, h.length, h.next, h.seq, h.build, h.ready, h.lock, h.markers⟩, fun _ => h.dark⟩

theorem changes_frameEnd_of_stop {s : State} {p : Panel} (hdue : s.frameEndDue p = true)
    (hstop : (s.panel p).power.stopPending = true) : StateChange s (frameEnd p s) := by
  obtain ⟨hstate, -⟩ := State.of_frameEndDue hdue
  have hstill := frameEndWork_still_of_stop hstop
  have hx := hstill.panel p
  have ho := hstill.panel (otherPanel p)
  have hended := StillFrame.finishScan p (frameEndWork p s)
  have hp := hended.panel p
  have hyours := hended.panel (otherPanel p)
  rw [(scanEnded_panel ..).1] at hp
  rw [(scanEnded_panel ..).2] at hyours
  have hpower := hp.power
  dsimp only at hpower
  rw [hx.power] at hpower
  rw [frameEnd_of_stop hstop]
  refine .of_panel (p := p) ?_ ?_ ?_ ?_
  · rw [updPanel_count, hended.count, (scanEnded_count ..).1, hstill.count]
  · rw [updPanel_resetLogic, hended.resetLogic, (scanEnded_count ..).2, hstill.resetLogic]
  · rw [panel_updPanel]
    have hrest : ((finishScan p (frameEndWork p s)).panel p).power.state ≠ .scanning := by
      rw [hpower]
      split <;> exact (nomatch ·)
    refine .stands hrest (fun hlegal => ?_) fun hbalanced => ?_
    · obtain ⟨houtputs, hmarks, -, -, hdark⟩ := hlegal
      have hstopped := Power.legal_stopped hstate houtputs hmarks
      have hend : ((finishScan p (frameEndWork p s)).panel p).numbered.AtRest := by
        refine ⟨?_, ?_, ?_, hp.seq, ?_, ?_, ?_, ?_, ?_⟩
        · exact (congrArg FrameTimer.start hp.frame).trans rfl
        · exact (congrArg FrameTimer.length hp.frame).trans rfl
        · exact (congrArg FrameTimer.next hp.frame).trans rfl
        · exact (congrArg Builder.build hp.builder).trans rfl
        · exact (congrArg Builder.ready hp.builder).trans rfl
        · exact (congrArg FrameLock.state hp.lock).trans rfl
        · exact (congrArg FrameLock.inFlight hp.lock).trans rfl
        · have hdimmer := (hp.dimmer.trans hx.dimmer).symm
          exact hdimmer ▸ hdark (.inr hstop)
      refine hend.sequenced hrest ?_
      show ((finishScan p (frameEndWork p s)).panel p).power.outputsLegal ∧
        ((finishScan p (frameEndWork p s)).panel p).power.marksLegal
      rw [hpower]
      split
      · obtain ⟨⟨hlogic, -⟩, -⟩ := hstopped
        exact Power.legal_draining _ hlogic rfl rfl
      · exact hstopped
    · exact hbalanced.of_carried (hp.bMax.trans hx.bMax) (hp.carried.trans hx.carried)
  · rw [panel_updPanel_other]
    have hdrop : PanelStill { s.panel (otherPanel p) with lock := { (s.panel (otherPanel p)).lock with inFlight := [] } }
        { (frameEndWork p s).panel (otherPanel p) with
          lock := { ((frameEndWork p s).panel (otherPanel p)).lock with inFlight := [] } } :=
      ⟨ho.timing, ho.frame, congrArg (fun l : FrameLock => { l with inFlight := [] }) ho.lock, ho.builder, ho.seq, ho.dimmer,
        ho.power, ho.bMax, ho.carried⟩
    exact (RunsAs.dropMarkers _).still (hdrop.trans hyours)

theorem changes_frameEnd {s : State} {p : Panel} (hdue : s.frameEndDue p = true) : StateChange s (frameEnd p s) := by
  cases hstop : (s.panel p).power.stopPending with
  | false => exact changes_frameEnd_of_goes_on hdue hstop
  | true => exact changes_frameEnd_of_stop hdue hstop

/-! ### Power -/

/-- A panel not scanning is at rest, whatever its power block. -/
theorem PanelState.scanLegal.atRest {x : PanelState} (h : x.scanLegal) (hstate : x.power.state ≠ .scanning) : x.AtRest := by
  obtain ⟨-, hoff, hdark⟩ := h
  obtain ⟨hstart, hlength, hnext, hseq, hbuild, hready, hfree, hflight⟩ := hoff hstate
  exact ⟨hstart, hlength, hnext, hseq, hbuild, hready, hfree, hflight, hdark (.inl hstate)⟩

/-- A panel that does not scan comes to stand under another power block. -/
theorem PanelChange.stands_power {now : Tick} {x : PanelState} {w : Power} (hw : w.state ≠ .scanning)
    (hrest : x.sequenced → x.power.state ≠ .scanning)
    (hlegal : x.power.outputsLegal → x.power.marksLegal → w.outputsLegal ∧ w.marksLegal) :
    PanelChange now x { x with power := w } := by
  refine .stands hw (fun hx => ?_) fun h => h
  have hstate := hrest hx
  obtain ⟨houtputs, hmarks, hscan⟩ := hx
  obtain ⟨houtputs', hmarks'⟩ := hlegal houtputs hmarks
  exact ⟨houtputs', hmarks', hscan.standing hstate hw⟩

/-- No mark of a scan stands outside SCANNING (R140). -/
theorem Power.marksLegal.unmarked {w : Power} (h : w.marksLegal) (hstate : w.state ≠ .scanning) :
    w.stopPending = false ∧ w.offPending = false := by
  obtain ⟨hstop, hoff, -⟩ := h
  have hnone : w.stopPending = false := Bool.eq_false_iff.mpr fun h => hstate (hstop h)
  exact ⟨hnone, Bool.eq_false_iff.mpr fun h => by rw [hoff h] at hnone; cases hnone⟩

theorem StateChange.updPower {s : State} {p : Panel} {f : Power → Power}
    (h : PanelChange s.count (s.panel p) { s.panel p with power := f (s.panel p).power }) : StateChange s (s.updPower p f) :=
  .updPanel h

/-- A panel in RAMP or READY drains (R146, R147). -/
theorem changes_enterDrain {s : State} {p : Panel} (reason : PanelReason)
    (hrest : (s.panel p).power.state = .ramp ∨ (s.panel p).power.state = .ready) : StateChange s (enterDrain p reason s) := by
  have hstate : (s.panel p).power.state ≠ .scanning := by rcases hrest with h | h <;> rw [h] <;> decide
  have hdrained : StateChange s (s.updPower p (Power.draining s.count)) := by
    refine .updPower (.stands_power (nomatch ·) (fun _ => hstate) fun houtputs hmarks => ?_)
    obtain ⟨hstop, hoff⟩ := hmarks.unmarked hstate
    have hlogic : (s.panel p).power.logicEn = true := by
      rcases hrest with h | h <;> simp only [Power.outputsLegal, h] at houtputs <;> exact houtputs.1
    exact Power.legal_draining _ hlogic hstop hoff
  exact hdrained.still (.enterDrain p reason s)

theorem Dimmer.darkened_dark (d : Dimmer) : d.darkened.dark := ⟨rfl, rfl, rfl, rfl, rfl, rfl, rfl⟩

/-- A stop asked for in SCANNING, with off asked for too or not (R145, R146). -/
theorem RunsAs.stopped {x : PanelState} (hstate : x.power.state = .scanning) (off : Bool) :
    RunsAs x { x with
      dimmer := if x.power.stopPending = true then x.dimmer else x.dimmer.darkened
      power := { x.power with stopPending := true, offPending := x.power.offPending || off } } := by
  refine .switched rfl (fun h => Bool.noConfusion h) (fun houtputs hmarks => ?_) fun hx _ => ?_
  · obtain ⟨-, -, hauto⟩ := hmarks
    exact ⟨houtputs, fun _ => hstate, fun _ => rfl, hauto⟩
  · split
    · exact hx (.inr ‹_›)
    · exact Dimmer.darkened_dark _

theorem changes_stopPanel {s : State} {p : Panel} (hstate : (s.panel p).power.state = .scanning) (off : Bool) :
    StateChange s ((stopPanel p s).updPower p fun w => { w with offPending := w.offPending || off }) := by
  have hstopped := RunsAs.stopped hstate off
  have hpanel : (stopPanel p s).updPower p (fun w => { w with offPending := w.offPending || off }) =
      s.setPanel p { s.panel p with
        dimmer := if (s.panel p).power.stopPending = true then (s.panel p).dimmer else (s.panel p).dimmer.darkened
        power := { (s.panel p).power with stopPending := true, offPending := (s.panel p).power.offPending || off } } := by
    rw [stopPanel_eq]
    split
    · rename_i hstop
      rw [updPower_eq_setPanel, ← hstop]
    · rw [updPower_eq_setPanel, panel_setPanel, setPanel_setPanel]
  rw [hpanel]
  exact .setPanel (.runs hstopped)

/-- A PANEL_OFF by power state (R146). -/
theorem changes_offPanel (s : State) (p : Panel) : StateChange s (offPanel p s) := by
  unfold offPanel
  cases hstate : (s.panel p).power.state with
  | off => exact (StillFrame.refl s).changes
  | drain => exact (StillFrame.refl s).changes
  | ramp => exact changes_enterDrain .request (.inl hstate)
  | ready => exact changes_enterDrain .request (.inr hstate)
  | scanning =>
    have hoff := changes_stopPanel hstate true
    simpa only [Bool.or_true] using hoff

/-- A PANEL_STOP in SCANNING (R145). -/
theorem changes_panelStop {s : State} {p : Panel} (hstate : (s.panel p).power.state = .scanning) :
    StateChange s (stopPanel p s) := by
  have hstop := changes_stopPanel hstate false
  have hsame : (stopPanel p s).updPower p (fun w => { w with offPending := w.offPending || false }) = stopPanel p s := by
    simp only [Bool.or_false]
    exact (updPower_eq_setPanel ..).trans (setPanel_panel_self ..)
  rwa [hsame] at hstop

/-- A timed step that is due stands in the power block (R142). -/
theorem State.of_stepDue {s : State} {p : Panel} {k : PowerStep} (h : s.stepDue p k = true) :
    (s.panel p).power.stepKind = some k := by
  rw [State.stepDue, beq_iff_eq] at h
  rw [Power.stepKind, h]
  rfl

/-- The steps of RAMP run in RAMP, with the outputs of each (R142). -/
theorem Power.ramp_of_gateWait {w : Power} (h : w.stepKind = some .gateWait) (houtputs : w.outputsLegal) :
    w.state = .ramp ∧ w.logicEn = true := by
  cases hstate : w.state <;> simp_all [Power.outputsLegal]

theorem Power.ramp_of_settle {w : Power} (h : w.stepKind = some .settle) (houtputs : w.outputsLegal) :
    w.state = .ramp ∧ w.logicEn = true ∧ w.gateEn = true := by
  cases hstate : w.state <;> simp_all [Power.outputsLegal]

theorem Power.drain_of_discharge {w : Power} (h : w.stepKind = some .discharge) (houtputs : w.outputsLegal) :
    w.state = .drain ∧ w.gateEn = false := by
  cases hstate : w.state <;> simp_all [Power.outputsLegal]

theorem Power.outputsLegal_ramp_iff {w : Power} (hstate : w.state = .ramp) :
    w.outputsLegal ↔ w.logicEn = true ∧
      (w.gateEn = false ∧ w.stepKind = some .gateWait ∨ w.gateEn = true ∧ w.stepKind = some .settle) := by
  simp only [Power.outputsLegal, hstate]

theorem changes_endGateWait {s : State} {p : Panel} (hdue : s.stepDue p .gateWait = true) :
    StateChange s (endGateWait p s) := by
  refine .updPower (.runs (.power rfl rfl fun houtputs hmarks => ?_))
  obtain ⟨hstate, hlogic⟩ := Power.ramp_of_gateWait (State.of_stepDue hdue) houtputs
  refine ⟨(Power.outputsLegal_ramp_iff ?_).mpr ⟨hlogic, .inr ⟨rfl, rfl⟩⟩, hmarks⟩
  exact hstate

theorem changes_endDischarge {s : State} {p : Panel} (hdue : s.stepDue p .discharge = true) :
    StateChange s (endDischarge p s) := by
  have hoff : StateChange s (s.updPower p fun w => { w with logicEn := false, state := .off, step := none }) := by
    refine .updPower (.stands_power (nomatch ·) ?_ fun houtputs hmarks => ?_)
    · rintro ⟨houtputs, -⟩
      rw [(Power.drain_of_discharge (State.of_stepDue hdue) houtputs).1]
      decide
    · obtain ⟨hstate, hgate⟩ := Power.drain_of_discharge (State.of_stepDue hdue) houtputs
      obtain ⟨hstop, hoff, hauto⟩ := hmarks
      refine ⟨⟨rfl, hgate, rfl⟩, fun h => ?_, hoff, fun h => ?_⟩
      · have := hstop h
        rw [hstate] at this
        cases this
      · have := hauto h
        rw [hstate] at this
        cases this
  exact hoff.still (.postOwn ..)

/-- The power block that SETTLE leaves with power-good high (R142). -/
def Power.settled (w : Power) : Power := { w with state := .ready, step := none, powerGood := true }

theorem StillFrame.endDrain (p : Panel) (reason : PanelReason) (s : State) :
    StillFrame (s.updPower p (Power.draining s.count)) (Machine.enterDrain p reason (setPowerCause s)) := by
  have hcause : StillFrame s (setPowerCause s) := .beside rfl rfl rfl rfl
  exact (hcause.updPower p _).trans (.enterDrain p reason _)

theorem changes_endSettle {s : State} {p : Panel} (powerGood : Bool) (hdue : s.stepDue p .settle = true) :
    StateChange s (endSettle p powerGood s) := by
  have hkind := State.of_stepDue hdue
  have hrest : (s.panel p).sequenced → (s.panel p).power.state ≠ .scanning := by
    rintro ⟨houtputs, -⟩
    rw [(Power.ramp_of_settle hkind houtputs).1]
    decide
  cases powerGood with
  | true =>
    have hready : ∀ u : State, u = (s.updPower p fun w => { w with powerGood := true }).updPower p
        (fun w => { w with state := .ready, step := none }) → u = s.updPower p Power.settled := fun u h => by
      rw [h, updPower_eq_setPanel, updPower_eq_setPanel, panel_setPanel, setPanel_setPanel]
      rfl
    have hstill : StillFrame (s.updPower p Power.settled) (postPanelState p .ramp .stepDone
        ((s.updPower p fun w => { w with powerGood := true }).updPower p fun w => { w with state := .ready, step := none })) := by
      rw [hready _ rfl]
      exact .postOwn ..
    have hpanel : ∀ q, (postPanelState p .ramp .stepDone ((s.updPower p fun w => { w with powerGood := true }).updPower p
        fun w => { w with state := .ready, step := none })).panel q = (s.updPower p Power.settled).panel q := fun q => by
      rw [hready _ rfl, postPanelState_eq, postAll_panel]
    have hmine : (s.updPower p Power.settled).panel p = { s.panel p with power := (s.panel p).power.settled } := panel_updPanel ..
    have hcount : (s.updPower p Power.settled).count = s.count := updPanel_count ..
    have hreset : (s.updPower p Power.settled).resetLogic = s.resetLogic := updPanel_resetLogic ..
    show StateChange s (reachReady p _)
    unfold reachReady
    split
    · refine changes_startScanning (w := (s.panel p).power.settled) (hstill.count.trans hcount)
        (by rw [hstill.resetLogic, hreset]) ((hpanel p).trans hmine) ?_ hrest rfl fun hx => ?_
      · rw [hpanel]
        exact panel_updPanel_other ..
      · obtain ⟨-, hlogic, hgate⟩ := Power.ramp_of_settle hkind hx.1
        exact ⟨hlogic, hgate, rfl⟩
    · rename_i hauto
      have hauto' : (s.panel p).power.autostart = false := by
        rw [Bool.not_eq_true, State.updPower, panel_updPanel] at hauto
        exact hauto
      suffices hsettled : StateChange s (s.updPower p Power.settled) by
        exact hsettled.still hstill
      refine .updPower (.stands_power (nomatch ·) hrest fun houtputs hmarks => ?_)
      obtain ⟨hstate, hlogic, hgate⟩ := Power.ramp_of_settle hkind houtputs
      obtain ⟨hstop, hoff⟩ := hmarks.unmarked (by rw [hstate]; decide)
      refine ⟨⟨hlogic, hgate, rfl⟩, fun h => ?_, fun h => ?_, fun h => ?_⟩
      · rw [show (s.panel p).power.settled.stopPending = false from hstop] at h; cases h
      · rw [show (s.panel p).power.settled.offPending = false from hoff] at h; cases h
      · rw [show (s.panel p).power.settled.autostart = false from hauto'] at h; cases h
  | false =>
    have hdrain : StillFrame ((s.updPower p fun w => { w with powerGood := false }).updPower p (Power.draining s.count))
        (endSettle p false s) := by
      have := StillFrame.endDrain p .powerAbsent (s.updPower p fun w => { w with powerGood := false })
      rwa [show (s.updPower p fun w => { w with powerGood := false }).count = s.count from updPanel_count ..] at this
    rw [updPower_eq_setPanel, updPower_eq_setPanel, panel_setPanel, setPanel_setPanel] at hdrain
    suffices hdrained : PanelChange s.count (s.panel p) { s.panel p with
        power := Power.draining s.count { (s.panel p).power with powerGood := false } } by
      exact (StateChange.setPanel hdrained).still hdrain
    refine .stands_power (nomatch ·) hrest fun houtputs hmarks => ?_
    obtain ⟨hstate, hlogic, -⟩ := Power.ramp_of_settle hkind houtputs
    obtain ⟨hstop, hoff⟩ := hmarks.unmarked (by rw [hstate]; decide)
    exact Power.legal_draining (w := { (s.panel p).power with powerGood := false }) _ hlogic hstop hoff

end Sys2Proof.Machine

/-!
PROOF. Every move as what it does to each panel (`Move.changes`), and the power and scanning invariant (O58).
-/

namespace Sys2Proof.Machine

open Sys2Proof

/-! ### The loss of power-good and supply-hold -/

theorem abandonScan_panel (p : Panel) (s : State) :
    (abandonScan p s).panel p = (s.panel p).abandoned ∧
      (abandonScan p s).panel (otherPanel p) =
        { s.panel (otherPanel p) with lock := { (s.panel (otherPanel p)).lock with inFlight := [] } } ∧
      (abandonScan p s).count = s.count ∧ (abandonScan p s).resetLogic = s.resetLogic := by
  cases p <;> exact ⟨rfl, rfl, rfl, rfl⟩

theorem PanelState.abandoned_atRest (x : PanelState) : x.abandoned.AtRest :=
  ⟨rfl, rfl, rfl, rfl, rfl, rfl, rfl, rfl, ⟨rfl, rfl, rfl, rfl, rfl, rfl, rfl⟩⟩

/-- A panel in SCANNING that drains at once (R11, R143). -/
theorem changes_losePower_of_scanning {s : State} {p : Panel} (hstate : (s.panel p).power.state = .scanning) :
    StateChange s (losePower p s) := by
  obtain ⟨hmine, hyours, hcount, hreset⟩ := abandonScan_panel p s
  have hdrain := StillFrame.endDrain p .powerLost (abandonScan p s)
  have hlose : losePower p s = enterDrain p .powerLost (setPowerCause (abandonScan p s)) := by
    unfold losePower
    rw [if_pos (State.scanning_iff.mpr hstate)]
  rw [hlose]
  refine StateChange.still (.of_panel (p := p) ?_ ?_ ?_ ?_) hdrain
  · rw [State.updPower, updPanel_count, hcount]
  · rw [State.updPower, updPanel_resetLogic, hreset]
  · rw [State.updPower, panel_updPanel, hmine]
    refine .stands (nomatch ·) (fun hx => ?_) fun h => h
    obtain ⟨houtputs, -, -⟩ := hx
    simp only [Power.outputsLegal, hstate] at houtputs
    have hend := (s.panel p).abandoned_atRest
    refine PanelState.AtRest.sequenced ?_ (nomatch ·) ?_
    · exact ⟨hend.start, hend.length, hend.next, hend.seq, hend.build, hend.ready, hend.lock, hend.markers, hend.dark⟩
    · exact Power.legal_draining (w := (s.panel p).abandoned.power) _ houtputs.1 rfl rfl
  · rw [State.updPower, panel_updPanel_other, hyours]
    exact .dropMarkers _

theorem changes_losePower {s : State} {p : Panel} (hwatched : s.watchesPower p = true) : StateChange s (losePower p s) := by
  rw [State.watchesPower, Bool.or_eq_true, beq_iff_eq, beq_iff_eq] at hwatched
  rcases hwatched with hready | hscan
  · have hlose : losePower p s = enterDrain p .powerLost (setPowerCause s) := by
      unfold losePower
      rw [if_neg (mt State.scanning_iff.mp (by rw [hready]; decide))]
    rw [hlose]
    have hrest : (s.panel p).power.state ≠ .scanning := by rw [hready]; decide
    suffices hdrained : StateChange s (s.updPower p (Power.draining s.count)) from hdrained.still (.endDrain p .powerLost s)
    refine .updPower (.stands_power (nomatch ·) (fun _ => hrest) fun houtputs hmarks => ?_)
    simp only [Power.outputsLegal, hready] at houtputs
    obtain ⟨hstop, hoff⟩ := hmarks.unmarked hrest
    exact Power.legal_draining _ houtputs.1 hstop hoff
  · exact changes_losePower_of_scanning hscan

theorem RunsAs.capNow (x : PanelState) : RunsAs x { x with dimmer := x.dimmer.capNow } := .dimmer Dimmer.dark.capNow

theorem capPanel_panel (p q : Panel) (s : State) :
    RunsAs (s.panel q) ((capPanel p s).panel q) ∧ (capPanel p s).count = s.count ∧
      (capPanel p s).resetLogic = s.resetLogic := by
  unfold capPanel
  split
  · refine ⟨?_, updPanel_count .., updPanel_resetLogic ..⟩
    rw [State.updDimmer, panel_updPanel_ite]
    split
    · subst q; exact .capNow _
    · exact .refl _
  · exact ⟨.refl _, rfl, rfl⟩

theorem capPanel_otherPanel (p : Panel) (s : State) : (capPanel p s).panel (otherPanel p) = s.panel (otherPanel p) := by
  unfold capPanel
  split
  · exact panel_updPanel_other ..
  · rfl

/-- A panel that is passed to an effect after something beside the panels moved. -/
theorem StateChange.since {s u t : State} (hcount : u.count = s.count) (hheld : u.resetLogic.held = s.resetLogic.held)
    (hpanel : ∀ q, u.panel q = s.panel q) (h : StateChange u t) : StateChange s t :=
  ⟨h.count.trans hcount, h.held.trans hheld, fun q => by rw [← hcount, ← hpanel q]; exact h.panel q⟩

theorem changes_beginHold (s : State) : StateChange s (beginHold s) := by
  have hcapped : ∀ u : State, StateChange u (capPanel .centre (capPanel .cluster u)) := fun u => by
    obtain ⟨hcluster, hcount, hreset⟩ := capPanel_panel .cluster .cluster u
    obtain ⟨hcentre, hcount', hreset'⟩ := capPanel_panel .centre .centre (capPanel .cluster u)
    have hone : (capPanel .centre (capPanel .cluster u)).panel .cluster = (capPanel .cluster u).panel .cluster :=
      capPanel_otherPanel .centre _
    have htwo : (capPanel .cluster u).panel .centre = u.panel .centre := capPanel_otherPanel .cluster u
    refine ⟨hcount'.trans hcount, by rw [hreset', hreset], fun q => ?_⟩
    cases q with
    | cluster => rw [hone]; exact .runs hcluster
    | centre => rw [htwo] at hcentre; exact .runs hcentre
  have hbegun : StateChange s (capPanel .centre (capPanel .cluster { s with supply := { s.supply with hold := true } })) :=
    .since (u := { s with supply := { s.supply with hold := true } }) rfl rfl (fun q => by cases q <;> rfl) (hcapped _)
  exact hbegun.still (.postBoth ..)

theorem StillFrame.endHold (s : State) : StillFrame s (endHold s) := by
  have hsupply : StillFrame s { s with supply := { s.supply with hold := false } } := .beside rfl rfl rfl rfl
  exact hsupply.trans (.postBoth ..)

/-! ### Every effect -/

theorem Running.changes {s t : State} (h : Running s t) : StateChange s t := by
  cases h with
  | damagePanel p ranges => exact (StillFrame.markWhere ..).changes
  | damageCanvas ranges => exact StillFrame.changes (.trans (.markWhere s .cluster _) (.beside rfl rfl rfl rfl))
  | fullRefresh p => exact (StillFrame.markWhere ..).changes
  | subscribe p q on => exact .updPanel (.runs (.subscribe _ q on))
  | touchEnable => exact (StillFrame.updTouch ..).changes
  | touchDisable => exact (StillFrame.updTouch ..).changes
  | writeClose g crcs => exact (StillFrame.closeGrant ..).changes
  | panelStart p hstate =>
    refine changes_startScanning (w := (s.panel p).power) rfl rfl rfl rfl (fun _ => ?_) hstate fun hx => hx.1
    rw [hstate]
    decide
  | panelStop p hstate => exact changes_panelStop hstate
  | panelOff p => exact changes_offPanel s p
  | timingLock => exact StillFrame.changes (.beside rfl rfl rfl rfl)
  | planPoint p hdue => exact changes_planPoint hdue
  | buildComplete p hdue =>
    unfold State.buildDue at hdue
    cases hbuild : (s.panel p).builder.build with
    | none => simp [hbuild] at hdue
    | some b => exact .updPanel (.builds b hbuild (.refl _))
  | frameEnd p hdue => exact changes_frameEnd hdue
  | grantExpiry => exact (StillFrame.expireGrant ..).changes
  | passSlot p slot i hslot hkind hb =>
    refine changes_updSeq hslot (fun _ => rfl) fun j hj => ?_
    suffices hji : j = i from hji ▸ record_of_bandAt_none hb
    cases hslotKind : slot.kind with
    | refresh k pol =>
      rw [refreshedBands_refresh hslotKind, List.mem_singleton] at hj
      rw [hslotKind] at hkind
      exact hj.trans (Option.some.inj hkind)
    | _ =>
      rw [refreshedBands_other (by rw [hslotKind]; exact fun _ _ => (nomatch ·))] at hj
      cases hj
  | startRefresh p slot i pol b hslot hkind hb => exact changes_startRefresh hslot hkind hb
  | refreshSlotEnd p d =>
    exact StateChange.still (.updPanel (.runs (.reseq (f := fun e => { e with driving := e.driving.tail }) fun _ => rfl)))
      (.readyGrants ..)
  | startSkip p slot i b hslot hkind =>
    have hpass : StateChange s (Machine.passSlot p s) := changes_updSeq hslot (fun _ => rfl) fun j hj => by
      rw [refreshedBands_other (by rw [hkind]; exact fun _ _ => (nomatch ·))] at hj
      cases hj
    exact (hpass.still (.sendLink ..)).still (.fireWatches ..)
  | touchSlot slot id code bursts candidate period hslot hkind =>
    have hpass : StateChange s (s.updSeq .centre fun e => { e with position := e.position + 1, touches := e.touches + 1 }) :=
      changes_updSeq hslot (fun _ => rfl) fun j hj => by
        rw [refreshedBands_other (by rw [hkind]; exact fun _ _ => (nomatch ·))] at hj
        cases hj
    exact (hpass.still (.sendLink ..)).still (.updTouch ..)
  | listenSlot slot candidate period bursts hslot hkind =>
    have hpass : StateChange s (s.updSeq .centre fun e => { e with position := e.position + 1, touches := e.touches + 1 }) :=
      changes_updSeq hslot (fun _ => rfl) fun j hj => by
        rw [refreshedBands_other (by rw [hkind]; exact fun _ _ => (nomatch ·))] at hj
        cases hj
    exact (hpass.still (.sendLink ..)).still (.updTouch ..)
  | blankStart p =>
    exact StateChange.still (.updPanel (.runs (.reseq (f := fun e => { e with blankBegun := true }) fun _ => rfl)))
      (.sendLink ..)
  | pwmEdge p freeLevel =>
    refine StateChange.since (u := { s with free := s.free + 1 }) rfl rfl (fun q => by cases q <;> rfl) ?_
    exact .updPanel (.runs (.dimmer fun h => h.drive freeLevel))
  | markerEdge p => exact .updPanel (.runs (.takeEdge s.count _))
  | partnerMarker p =>
    refine .updPanel (.runs (.useMarker s.count rfl rfl rfl (fun _ hempty => ?_) ⟨rfl, rfl, rfl, rfl⟩))
    exact congrArg List.tail hempty
  | bandReport e crc => exact ((StillFrame.dropExpectation e.band s).trans (.compareReport e crc _)).changes
  | senseResult => exact (StillFrame.updTouch ..).changes
  | resultDeadline => exact (StillFrame.updTouch ..).changes
  | suspended => exact ((StillFrame.updTouch ..).trans (.post ..)).changes
  | gateWait p hdue => exact changes_endGateWait hdue
  | settle p powerGood hdue => exact changes_endSettle powerGood hdue
  | discharge p hdue => exact changes_endDischarge hdue
  | losePower p hwatched => exact changes_losePower hwatched
  | beginHold => exact changes_beginHold s
  | endHold => exact (StillFrame.endHold s).changes

/-! ### Resets, bookkeeping, and every move -/

/-- What a reset interrupts ends: the panel is OFF and at rest (R172). -/
theorem PanelChange.ended (now : Tick) (x : PanelState) : PanelChange now x x.ended := by
  have hrest : x.ended.AtRest := ⟨rfl, rfl, rfl, rfl, rfl, rfl, rfl, rfl, ⟨rfl, rfl, rfl, rfl, rfl, rfl, rfl⟩⟩
  exact .stands (nomatch ·) (fun _ => hrest.sequenced (nomatch ·) ⟨⟨rfl, rfl, rfl⟩, (nomatch ·), (nomatch ·), (nomatch ·)⟩)
    fun h => h

theorem PanelState.autostarted_balanced (now : Tick) (flag : Bool) (w : PanelProfile) (powerGood : Bool) :
    ((PanelState.afterReset w powerGood).autostarted now flag).balanced := by
  rw [PanelState.autostarted_afterReset]
  exact balanced_fresh (PanelState.afterReset w powerGood) w.bMax w.bands

/-- A panel just reset is OFF or begins to ramp (R172, R176). -/
theorem PanelChange.reset (now : Tick) (x : PanelState) (w : PanelProfile) (powerGood flag : Bool) :
    PanelChange now x ((PanelState.afterReset w powerGood).autostarted now flag) := by
  have hlegal := PanelState.scanLegal_afterReset w powerGood
  have hbalanced := PanelState.autostarted_balanced now flag w powerGood
  rw [PanelState.autostarted_afterReset] at hbalanced ⊢
  cases flag with
  | false =>
    refine .stands (nomatch ·) (fun _ => ?_) fun _ => hbalanced
    exact ⟨⟨rfl, rfl, rfl⟩, ⟨(nomatch ·), (nomatch ·), (nomatch ·)⟩, hlegal.standing (nomatch ·) (nomatch ·)⟩
  | true =>
    refine .stands (nomatch ·) (fun _ => ?_) fun _ => hbalanced
    exact ⟨⟨rfl, .inl ⟨rfl, rfl⟩⟩, ⟨(nomatch ·), (nomatch ·), fun _ => rfl⟩, hlegal.standing (nomatch ·) (nomatch ·)⟩

/-- Both panels are OFF while a reset is held (R172). -/
def State.heldOff (s : State) : Prop := s.resetLogic.held ≠ none → ∀ p, (s.panel p).power.state = .off

/-- A move at one instant: what each panel does, with both OFF while a reset is held. -/
structure MoveChange (s t : State) : Prop where
  count : t.count = s.count
  panel : ∀ p, PanelChange s.count (s.panel p) (t.panel p)
  held : s.heldOff → t.heldOff

theorem StateChange.of_effect {s t : State} (h : StateChange s t) (hreset : s.inReset = false) : MoveChange s t := by
  refine ⟨h.count, h.panel, fun _ hheld => absurd ?_ hheld⟩
  rw [State.inReset, Bool.or_eq_false_iff, Option.isSome_eq_false_iff, Option.isNone_iff_eq_none] at hreset
  rw [h.held, hreset.1]

/-- Panels that run on under the same reset. -/
theorem MoveChange.of_runs {s t : State} (hcount : t.count = s.count) (hheld : t.resetLogic.held = s.resetLogic.held)
    (hpanel : ∀ p, RunsAs (s.panel p) (t.panel p)) : MoveChange s t :=
  ⟨hcount, fun p => .runs (hpanel p), fun h hne p => (hpanel p).state.trans (h (hheld ▸ hne) p)⟩

theorem Bookkeeping.changes {s t : State} (h : Bookkeeping s t) : MoveChange s t := by
  have hsame : t.count = s.count ∧ t.resetLogic.held = s.resetLogic.held ∧ ∀ p, t.panel p = s.panel p := by
    cases h with
    | queue => exact ⟨rfl, rfl, fun p => by cases p <;> rfl⟩
    | free => exact ⟨rfl, rfl, fun p => by cases p <;> rfl⟩
    | requested => exact ⟨rfl, rfl, fun p => by cases p <;> rfl⟩
    | port q f => exact ⟨updPort_count .., by rw [updPort_resetLogic], fun p => panel_updPort ..⟩
  obtain ⟨hcount, hheld, hpanel⟩ := hsame
  exact .of_runs hcount hheld fun p => by rw [hpanel]; exact .refl _

/-- The level of a power-good input. -/
theorem RunsAs.powerGood (x : PanelState) (level : Bool) : RunsAs x { x with power := { x.power with powerGood := level } } :=
  .power rfl rfl fun houtputs hmarks => ⟨houtputs, hmarks⟩

theorem beginReset_changes (cause : ResetCause) (s : State) : MoveChange s (beginReset cause s) where
  count := rfl
  panel := fun p => by cases p <;> exact .ended s.count _
  held := fun _ _ p => by cases p <;> rfl

theorem finishReset_changes (h : HeldReset) (s : State) : MoveChange s (finishReset h s) where
  count := by rw [finishReset_eq, postAll_count]; rfl
  panel := fun p => by
    rw [finishReset_eq, postAll_panel]
    cases p <;> exact .reset ..
  held := fun _ hheld => absurd (by rw [finishReset_eq, postAll_resetLogic]; rfl) hheld

/-- What a move does to the panels, unless a tu passes. -/
theorem Move.changes {s t : State} (h : Move s t) : (s.dueEvents = [] ∧ t = tick s) ∨ MoveChange s t := by
  cases h with
  | bookkeeping h => exact .inr h.changes
  | effect hreset h =>
    cases h with
    | setup h => exact .inr (h.changes.of_effect hreset)
    | running h => exact .inr (h.changes.of_effect hreset)
  | outer h =>
    cases h with
    | powerGood p level =>
      refine .inr (.of_runs (updPanel_count ..) (by rw [State.updPower, updPanel_resetLogic]) fun q => ?_)
      rw [State.updPower, panel_updPanel_ite]
      split
      · subst q; exact .powerGood _ level
      · exact .refl _
    | warningPin => exact .inr (.of_runs rfl rfl fun p => by cases p <;> exact .refl _)
    | beginReset cause => exact .inr (beginReset_changes cause s)
    | finishReset h => exact .inr (finishReset_changes h s)
    | tick hquiet => exact .inl ⟨hquiet, rfl⟩

theorem RunsAs.sample (x : PanelState) (level : Bool) : RunsAs x { x with power := x.power.sample level } := by
  unfold Power.sample
  split
  · exact .refl x
  · exact .refl x
  · exact .powerGood x level

/-- A tu that passes leaves both panels running. -/
theorem tick_runs (s : State) (p : Panel) : RunsAs (s.panel p) ((tick s).panel p) := by
  cases p <;> exact .sample ..

/-! ### Power and scanning -/

/-- Both panels' power and scanning agree. -/
theorem State.sequenced_iff {s : State} : (s.powerLegal ∧ s.scanLegal) ↔ ∀ p, (s.panel p).sequenced :=
  ⟨fun ⟨hpower, hscan⟩ p => ⟨(hpower p).1, (hpower p).2, hscan p⟩,
    fun h => ⟨fun p => ⟨(h p).1, (h p).2.1⟩, fun p => (h p).2.2⟩⟩

theorem Move.keeps_sequenced {s t : State} (h : Move s t) (hs : ∀ p, (s.panel p).sequenced) : ∀ p, (t.panel p).sequenced := by
  rcases h.changes with ⟨-, rfl⟩ | h
  · exact fun p => (tick_runs s p).sequenced (hs p)
  · exact fun p => (h.panel p).sequenced (hs p)

/-- Settles O58: each move keeps power and scanning in agreement on both panels. -/
theorem stepKeepsPowerAndScan : Obligations.StepKeepsPowerAndScan := by
  intro s t hpower hscan hstep
  exact State.sequenced_iff.mpr
    (step_keeps (fun _ _ => Move.keeps_sequenced) hstep (State.sequenced_iff.mp ⟨hpower, hscan⟩))

end Sys2Proof.Machine

/-!
PROOF. Every step keeps every frame length within the panel's limits (O60): a length fixed at a plan point is T_nom, T_base or
clamped, and a plan costs at most the full refresh, which fits T_max.
-/

namespace Sys2Proof.Machine

open Sys2Proof

/-! ### Costs against the full refresh -/

theorem bandCost_le {t : Timing} (hskip : t.tSkip ≤ t.tSet) (refreshed : Bool) (lines : Nat) :
    bandCost t refreshed lines ≤ refreshCost t lines := by
  unfold bandCost
  split
  · exact Nat.le_refl _
  · exact hskip.trans (Nat.le_add_left ..)

/-- C_base is at most the full-refresh cost (R4, R50). -/
theorem Snapshot.baseCost_le {sn : Snapshot} (hskip : sn.timing.tSkip ≤ sn.timing.tSet) :
    sn.baseCost ≤ fullRefreshCost sn.timing sn.lineCounts := by
  unfold Snapshot.baseCost fullRefreshCost Snapshot.lineCounts
  rw [List.map_map]
  exact Nat.add_le_add_right (List.sum_le_sum fun b _ => bandCost_le hskip _ _) _

theorem bandItems_cost_le {t : Timing} (hskip : t.tSkip ≤ t.tSet) (polarity : FramePolarity) (refreshed : Nat → Bool)
    (i : Nat) (lines : List Nat) :
    ((bandItems t polarity refreshed i lines).map BandItem.cost).sum ≤ (lines.map (refreshCost t)).sum := by
  induction lines generalizing i with
  | nil => exact Nat.le_refl _
  | cons l ls ih =>
    rw [bandItems, List.map_cons, List.sum_cons, List.map_cons, List.sum_cons]
    exact Nat.add_le_add (bandCost_le hskip _ _) (ih _)

/-- The fallback plan costs at most the full refresh (R62). -/
theorem Snapshot.fallbackCost_le {sn : Snapshot} (hskip : sn.timing.tSkip ≤ sn.timing.tSet) :
    sn.fallbackCost ≤ fullRefreshCost sn.timing sn.lineCounts :=
  Nat.add_le_add_right (bandItems_cost_le hskip ..) _

/-! ### What a legal panel grants -/

theorem PanelState.fullCost_le {x : PanelState} (h : x.items.legal) : x.fullCost ≤ x.timing.tMax := by
  obtain ⟨-, -, -, -, -, -, -, -, -, -, -, -, -, hcost, -⟩ := h
  rw [PanelState.items_bands, List.map_map] at hcost
  exact hcost

theorem PanelState.skip_le_set {x : PanelState} (h : x.items.legal) : x.timing.tSkip ≤ x.timing.tSet := by
  obtain ⟨-, -, -, -, hskip, -⟩ := h
  exact hskip

/-- A length raised to a cost that fits is legal (R10). -/
theorem PanelState.lengthLegal.raise {x : PanelState} (hitems : x.items.legal) {n c : Nat} (h : x.lengthLegal n)
    (hc : c ≤ x.fullCost) : x.lengthLegal (max n c) :=
  ⟨h.1.trans (Nat.le_max_left ..), Nat.max_le.mpr ⟨h.2, hc.trans (PanelState.fullCost_le hitems)⟩⟩

/-- A build on the panel's timing and bands has lengths within its limits. -/
theorem Snapshot.lengths_legal {x : PanelState} {sn : Snapshot} (hitems : x.items.legal) (htiming : sn.timing = x.timing)
    (hlines : sn.lineCounts = x.bands.records.map Band.lines) (hlength : x.lengthLegal sn.length) :
    x.lengthLegal sn.builtLength ∧ x.lengthLegal sn.fallbackLength := by
  have hskip : sn.timing.tSkip ≤ sn.timing.tSet := htiming ▸ PanelState.skip_le_set hitems
  have hfull : fullRefreshCost sn.timing sn.lineCounts = x.fullCost := by rw [htiming, hlines]; rfl
  rw [Snapshot.builtLength_eq, Snapshot.fallbackLength]
  exact ⟨hlength.raise hitems (hfull ▸ Snapshot.baseCost_le hskip), hlength.raise hitems (hfull ▸ Snapshot.fallbackCost_le hskip)⟩

/-- The length a plan point fixes lies within the limits (R19). -/
theorem PanelState.plannedLength_legal {x : PanelState} (hitems : x.items.legal) (htBase : x.lengthLegal x.lock.tBase) :
    x.lengthLegal x.plannedLength := by
  have hnom := lengthLegal_tNom hitems
  have hkept : x.lengthLegal x.lock.decision.tBase := by rwa [FrameLock.decision_tBase]
  unfold PanelState.plannedLength FrameLock.nextLength
  split
  · exact hnom
  · exact hkept
  · exact hkept
  · obtain ⟨hmin, hmax⟩ := hnom
    unfold clampInt PanelState.lengthLegal
    omega

/-! ### The frames of a panel -/

/-- The limits are those of the timing alone. -/
theorem PanelState.lengthLegal_congr {x y : PanelState} (h : y.timing = x.timing) (n : Nat) :
    y.lengthLegal n ↔ x.lengthLegal n := by
  rw [PanelState.lengthLegal, PanelState.lengthLegal, h]

/-- What `framesLegal` says of a panel that scans. -/
structure PanelState.FramesWithin (x : PanelState) : Prop where
  length : ∀ n, x.frame.length = some n → x.lengthLegal n
  next : ∀ n, x.frame.next = some n → x.lengthLegal n
  tBase : x.lengthLegal x.lock.tBase
  ready : ∀ r, x.builder.ready = some r → x.lengthLegal r.length
  build : ∀ b, x.builder.build = some b → b.snapshot.timing = x.timing ∧
    b.snapshot.lineCounts = x.bands.records.map Band.lines ∧ x.lengthLegal b.snapshot.length

theorem PanelState.framesLegal_iff {x : PanelState} : x.framesLegal ↔ (x.power.state = .scanning → x.FramesWithin) :=
  ⟨fun h hstate => by
    obtain ⟨hlength, hnext, htBase, hready, hbuild⟩ := h hstate
    exact ⟨hlength, hnext, htBase, hready, hbuild⟩,
    fun h hstate => ⟨(h hstate).length, (h hstate).next, (h hstate).tBase, (h hstate).ready, (h hstate).build⟩⟩

/-- A panel that runs on with a legal T_base keeps its lengths. -/
theorem PanelState.FramesWithin.of_tBase {x y : PanelState} (hx : x.FramesWithin) (h : RunsAs x y)
    (htBase : x.lengthLegal y.lock.tBase) : y.FramesWithin where
  length := fun n hn => (PanelState.lengthLegal_congr h.timing n).mpr (hx.length n (by rw [← h.frame, hn]))
  next := fun n hn => (PanelState.lengthLegal_congr h.timing n).mpr (hx.next n (by rw [← h.frame, hn]))
  tBase := (PanelState.lengthLegal_congr h.timing _).mpr htBase
  ready := fun r hr => (PanelState.lengthLegal_congr h.timing _).mpr (hx.ready r (h.ready ▸ hr))
  build := fun b hb => by
    obtain ⟨htiming, hlines, hlength⟩ := hx.build b (h.build ▸ hb)
    exact ⟨htiming.trans h.timing.symm, hlines.trans (map_lines_of_carried h.carried).symm,
      (PanelState.lengthLegal_congr h.timing _).mpr hlength⟩

theorem PanelState.FramesWithin.runs {x y : PanelState} (hx : x.FramesWithin) (hitems : x.items.legal) (h : RunsAs x y) :
    y.FramesWithin := hx.of_tBase h (h.tBase hitems hx.tBase)

theorem PanelState.FramesWithin.still {x y : PanelState} (hx : x.FramesWithin) (h : PanelStill x y) : y.FramesWithin :=
  hx.of_tBase h.runs (h.lock ▸ hx.tBase)

/-- The length of a plan handed over lies within the limits (R10, R61). -/
theorem PanelState.Hands.length_legal {x : PanelState} {h : Handed} (hands : x.Hands h) (hx : x.FramesWithin)
    (hitems : x.items.legal) : x.lengthLegal h.length := by
  cases hands with
  | ready r hready => exact hx.ready r hready
  | build b _ hbuild =>
    obtain ⟨htiming, hlines, hlength⟩ := hx.build b hbuild
    exact (Snapshot.lengths_legal hitems htiming hlines hlength).2
  | neither b _ _ htiming hlines hlength =>
    refine (Snapshot.lengths_legal hitems htiming hlines ?_).2
    rw [hlength]
    cases hnext : x.frame.next with
    | none => exact lengthLegal_tNom hitems
    | some n => exact hx.next n hnext

/-- No plan is ready once one has been handed over, and a build in progress works on what it did. -/
theorem Builder.handOver_build {h : Handed} {b : Builder} {y : Build} (hy : (b.handOver h).build = some y) :
    ∃ z, b.build = some z ∧ y = { z with frameLate := true } := by
  obtain ⟨z, hz, rfl⟩ := Option.map_eq_some_iff.mp (show b.build.map _ = some y from hy)
  exact ⟨z, hz, rfl⟩

theorem bands_lines_of_start {x : PanelState} {bands : BandTable} {slot : Slot}
    (hbands : ∀ i, bands.records[i]?.map Band.carried = x.bands.records[i]?.map fun b =>
      (b.lines, if i ∈ refreshedBands [slot] then b.balance + x.sign else b.balance)) :
    bands.records.map Band.lines = x.bands.records.map Band.lines := by
  refine List.ext_getElem? fun i => ?_
  have hline := congrArg (Option.map Prod.fst) (hbands i)
  rw [Option.map_map, Option.map_map] at hline
  rw [List.getElem?_map, List.getElem?_map]
  exact hline

/-- The ready plan after a build has ended (R60). -/
theorem Builder.complete_eq {x : Builder} {b : Build} (h : x.build = some b) :
    x.complete = { x with build := none, ready := if b.frameLate = true then x.ready else some b.snapshot.readyPlan } := by
  unfold Builder.complete
  rw [h]

theorem PanelChange.frames {now : Tick} {x y : PanelState} (h : PanelChange now x y) (hx : x.sequenced)
    (hitems : x.items.legal) (hframes : x.framesLegal) : y.framesLegal := by
  rw [PanelState.framesLegal_iff] at hframes ⊢
  intro hscan
  cases h with
  | runs h => exact (hframes (h.state ▸ hscan)).runs hitems h
  | stands hstate _ _ => exact absurd hscan hstate
  | begins w h hstate _ _ _ hlength hstill =>
    have hrest := hstate hx
    obtain ⟨-, -, hlegal⟩ := hx
    have hnone := (hlegal.atRest hrest).build
    refine PanelState.FramesWithin.still ?_ hstill
    refine ⟨fun n hn => ?_, fun _ hn => (nomatch (hn : (none : Option Nat) = some _)), ?_, fun _ hr => (nomatch (hr : (none : Option ReadyPlan) = some _)), fun b hb => ?_⟩
    · obtain rfl := Option.some.inj hn
      rw [hlength]
      exact (lengthLegal_tNom hitems).raise hitems (Nat.le_refl _)
    · have hnom := lengthLegal_tNom hitems
      exact hnom
    · obtain ⟨z, hz, -⟩ := Builder.handOver_build hb
      cases hnone.symm.trans hz
  | plans b hold length hstate _ _ _ _ hbuild hstill =>
    have hwithin := hframes hstate
    have hplanned := PanelState.plannedLength_legal hitems hwithin.tBase
    refine PanelState.FramesWithin.still ?_ hstill
    refine ⟨hwithin.length, fun n hn => ?_, ?_, hwithin.ready, fun y hy => ?_⟩
    · obtain rfl := Option.some.inj hn
      exact hplanned
    · show x.lengthLegal x.lock.decision.tBase
      rw [FrameLock.decision_tBase]
      exact hwithin.tBase
    · obtain rfl := Option.some.inj hy
      exact ⟨hbuild.timing, hbuild.lines, hbuild.length ▸ hplanned⟩
  | builds b hbuild hstill =>
    have hwithin := hframes (hstill.power ▸ hscan)
    obtain ⟨htiming, hlines, hlength⟩ := hwithin.build b hbuild
    refine PanelState.FramesWithin.still ?_ hstill
    rw [Builder.complete_eq hbuild]
    refine ⟨hwithin.length, hwithin.next, hwithin.tBase, fun r hr => ?_, fun _ hb => by cases hb⟩
    dsimp only at hr
    split at hr
    · exact hwithin.ready r hr
    · obtain rfl := Option.some.inj hr
      exact (Snapshot.lengths_legal hitems htiming hlines hlength).1
  | starts e f slot bands _ _ _ _ _ hbands hstill =>
    have hwithin := hframes (hstill.power ▸ hscan)
    refine PanelState.FramesWithin.still ?_ hstill
    refine ⟨hwithin.length, hwithin.next, hwithin.tBase, hwithin.ready, fun b hb => ?_⟩
    obtain ⟨htiming, hlines, hlength⟩ := hwithin.build b hb
    exact ⟨htiming, hlines.trans (bands_lines_of_start hbands).symm, hlength⟩
  | goesOn h d length hstate _ _ _ hands hstill =>
    have hwithin := hframes hstate
    refine PanelState.FramesWithin.still ?_ hstill
    refine ⟨fun n hn => ?_, fun _ hn => (nomatch (hn : (none : Option Nat) = some _)), hwithin.tBase, fun _ hr => (nomatch (hr : (none : Option ReadyPlan) = some _)), fun b hb => ?_⟩
    · obtain rfl := Option.some.inj hn
      exact hands.length_legal hwithin hitems
    · obtain ⟨z, hz, rfl⟩ := Builder.handOver_build hb
      exact hwithin.build z hz

/-! ### The obligation -/

theorem State.items_legal {s : State} (h : s.configLegal) (p : Panel) : (s.panel p).items.legal := by
  obtain ⟨hlive, -⟩ := State.configLegal_iff.mp h
  exact hlive.panel p

theorem Move.keeps_frames {s t : State} (h : Move s t) (hs : (∀ p, (s.panel p).sequenced) ∧ s.framesLegal) :
    (∀ p, (t.panel p).sequenced) ∧ t.framesLegal := by
  obtain ⟨hsequenced, hconfig, hframes⟩ := hs
  have hlegal := State.items_legal hconfig
  refine ⟨h.keeps_sequenced hsequenced, h.keeps_configLegal hconfig, fun p => ?_⟩
  rcases h.changes with ⟨-, rfl⟩ | hchange
  · have hruns : PanelChange s.count (s.panel p) ((tick s).panel p) := .runs (tick_runs s p)
    exact hruns.frames (hsequenced p) (hlegal p) (hframes p)
  · exact (hchange.panel p).frames (hsequenced p) (hlegal p) (hframes p)

/-- Settles O60: each move keeps the frame lengths, over legal power, scanning and configuration. -/
theorem stepKeepsFrameLengths : Obligations.StepKeepsFrameLengths := by
  intro s t hpower hscan hframes hstep
  obtain ⟨-, hlegal⟩ := step_keeps (P := fun s => (∀ p, (s.panel p).sequenced) ∧ s.framesLegal)
    (fun _ _ => Move.keeps_frames) hstep ⟨State.sequenced_iff.mp ⟨hpower, hscan⟩, hframes⟩
  exact hlegal

end Sys2Proof.Machine

/-!
PROOF. Every step keeps the notice queues, the hold counts and the expectations within their bounds (the first two parts of
O55).
-/

namespace Sys2Proof.Machine

open Sys2Proof

/-! ### Bounds kept -/

/-- What keeps the bounds of queues, hold counts and expectations. -/
structure BoundsFrame (s t : State) : Prop where
  queues : s.queuesBounded → t.queuesBounded
  holds : s.holdsBounded → t.holdsBounded
  apart : s.expectationsApart → t.expectationsApart

theorem BoundsFrame.trans {s t u : State} (h : BoundsFrame s t) (h' : BoundsFrame t u) : BoundsFrame s u :=
  ⟨h'.queues ∘ h.queues, h'.holds ∘ h.holds, h'.apart ∘ h.apart⟩

theorem Frame.bounds {s t : State} (h : Frame s t) : BoundsFrame s t :=
  ⟨h.queues, fun hs p => (h.panel p).holds (hs p), (h.panel .cluster).apart⟩

/-- Fields that the bounds do not look at. -/
theorem BoundsFrame.beside {s t : State} (hsupervisor : t.supervisor = s.supervisor) (hmedia : t.media = s.media)
    (hcluster : t.cluster = s.cluster) (hcentre : t.centre = s.centre) : BoundsFrame s t where
  queues := by unfold State.queuesBounded; rw [hsupervisor, hmedia]; exact id
  holds := fun hs p => by
    have hpanel : t.panel p = s.panel p := by
      cases p with
      | cluster => exact hcluster
      | centre => exact hcentre
    rw [hpanel]
    exact hs p
  apart := by unfold State.expectationsApart; rw [hcluster]; exact id

theorem BoundsFrame.posted {s t : State} (q : Port) (n : Notice) (h : BoundsFrame s t) : BoundsFrame s (Machine.post q n t) :=
  h.trans (Frame.post ..).bounds

/-- A change of one panel within the bounds. -/
theorem BoundsFrame.updPanel {s : State} {p : Panel} {f : PanelState → PanelState}
    (hholds : (∀ b ∈ (s.panel p).bands.records, b.hold ≤ b.holdLimit) →
      ∀ b ∈ (f (s.panel p)).bands.records, b.hold ≤ b.holdLimit)
    (hlink : (f (s.panel p)).link.expectations = (s.panel p).link.expectations) : BoundsFrame s (s.updPanel p f) where
  queues := by unfold State.queuesBounded; rw [updPanel_supervisor, updPanel_media]; exact id
  holds := fun hs q => by
    rw [panel_updPanel_ite]
    split
    · subst q; exact hholds (hs p)
    · exact hs q
  apart := by
    cases p with
    | centre => exact id
    | cluster =>
      unfold State.expectationsApart
      intro hs
      have hlink' : (s.updPanel .cluster f).cluster.link.expectations = s.cluster.link.expectations := hlink
      rwa [hlink']

/-- A change of one panel that leaves its records and its link. -/
theorem BoundsFrame.updPanel_of_eq {s : State} {p : Panel} {f : PanelState → PanelState}
    (hbands : (f (s.panel p)).bands.records = (s.panel p).bands.records)
    (hlink : (f (s.panel p)).link.expectations = (s.panel p).link.expectations) : BoundsFrame s (s.updPanel p f) :=
  .updPanel (by rw [hbands]; exact id) hlink

theorem fresh_holds (layout : List BandSpec) : ∀ b ∈ layout.map Band.fresh, b.hold ≤ b.holdLimit := by
  intro b hb
  obtain ⟨spec, -, rfl⟩ := List.mem_map.mp hb
  exact Nat.zero_le _

theorem recordsUnder_holds {x : PanelState} (nAct : Nat) (h : ∀ b ∈ x.bands.records, b.hold ≤ b.holdLimit) :
    ∀ b ∈ recordsUnder x nAct, b.hold ≤ b.holdLimit := by
  unfold recordsUnder
  split
  · exact h
  · exact fresh_holds [singleBand nAct]

/-! ### Setting up -/

theorem BoundsFrame.closeWindow (i : Nat) (w : Window) (reason : CloseReason) (s : State) :
    BoundsFrame s (closeWindow i w reason s) := by
  unfold Machine.closeWindow
  exact .posted _ _ ((Frame.revokeAll ..).bounds.trans (.beside rfl rfl rfl rfl))

theorem BoundsFrame.refl (s : State) : BoundsFrame s s := (Frame.refl s).bounds

theorem BoundsFrame.foldl {α : Type} {f : State → α → State} (h : ∀ s x, BoundsFrame s (f s x)) (xs : List α) (s : State) :
    BoundsFrame s (xs.foldl f s) := by
  induction xs generalizing s with
  | nil => exact .refl s
  | cons x xs ih => exact (h s x).trans (ih (f s x))

theorem BoundsFrame.closeAllWindows (reason : CloseReason) (s : State) : BoundsFrame s (closeAllWindows reason s) := by
  unfold Machine.closeAllWindows
  refine .foldl (fun u i => ?_) _ s
  unfold closeIfOpen
  split
  · exact .closeWindow ..
  · exact .refl u

theorem BoundsFrame.enterFault (reason : FaultReason) (elapsed : Nat) (s : State) :
    BoundsFrame s (enterFault reason elapsed s) := by
  refine BoundsFrame.trans ?_ (Frame.enterFault reason elapsed s).bounds
  have hfail : BoundsFrame s (setSupervisionCause { s with monitor := s.monitor.fail reason }) := .beside rfl rfl rfl rfl
  exact hfail.trans (.closeAllWindows ..)

theorem BoundsFrame.disableMedia (s : State) : BoundsFrame s (disableMedia s) := by
  have hport : BoundsFrame s { s with mediaEnabled := false, media := { s.media with queue := [] } } := by
    refine ⟨fun hs => ⟨hs.1, Nat.zero_le _⟩, fun hs p => ?_, id⟩
    cases p with
    | cluster => exact hs .cluster
    | centre => exact hs .centre
  exact ((hport.trans (Frame.revokeAll ..).bounds).trans (.updPanel_of_eq rfl rfl)).trans (.updPanel_of_eq rfl rfl)

theorem BoundsFrame.finishWrite (w : ProfileWriting) (s : State) : BoundsFrame s (finishWrite w s) := by
  unfold Machine.finishWrite
  exact .posted _ _ (.beside rfl rfl rfl rfl)

theorem Setup.bounds {s t : State} (h : Setup s t) : BoundsFrame s t := by
  cases h with
  | configure p u => exact .updPanel (recordsUnder_holds u.nAct) rfl
  | lockMode p r settings => exact BoundsFrame.trans (.updPanel_of_eq rfl rfl) (Frame.lockMode ..).bounds
  | bandLayout p bMax layout => exact .updPanel (fun _ => fresh_holds layout) rfl
  | lineWatch p q position content => refine .updPanel_of_eq ?_ ?_ <;> cases q <;> rfl
  | crcSet band crc limit =>
    refine BoundsFrame.trans ?_ (Frame.crcSet s band crc limit).bounds
    split
    · exact .refl s
    · exact .beside rfl rfl rfl rfl
  | touchGroups => exact .beside rfl rfl rfl rfl
  | freqTable => exact .beside rfl rfl rfl rfl
  | backlight => exact .updPanel_of_eq rfl rfl
  | windowOpen => exact .posted _ _ (.beside rfl rfl rfl rfl)
  | windowClose => exact .closeWindow ..
  | writeOpen => exact .beside rfl rfl rfl rfl
  | panelOn p tA tB tC => exact BoundsFrame.trans (.updPanel_of_eq rfl rfl) (Frame.turnOn p tA tB tC s).bounds
  | superviseStart => exact .beside rfl rfl rfl rfl
  | newPeriod => exact .beside rfl rfl rfl rfl
  | enterFault reason elapsed => exact .enterFault ..
  | clearFault => exact .beside rfl rfl rfl rfl
  | mediaEnable => exact .beside rfl rfl rfl rfl
  | mediaDisable => exact .disableMedia s
  | profileWrite => exact .beside rfl rfl rfl rfl
  | profileWriteDone w => exact .finishWrite w s

/-! ### Resets and every move -/

theorem BoundsFrame.autostart (p : Panel) (flag : Bool) (s : State) : BoundsFrame s (autostart p flag s) := by
  unfold Machine.autostart
  split
  · exact BoundsFrame.trans (.updPanel_of_eq rfl rfl) (.trans (.updPanel_of_eq rfl rfl) (Frame.turnOn ..).bounds)
  · exact .refl s

theorem BoundsFrame.reloadDevice (h : HeldReset) (s : State) : BoundsFrame s (reloadDevice h s) := by
  have hone : ∀ n : Notice, [n].length ≤ Config.queueLimit := fun _ => (by decide : 1 ≤ 32)
  refine ⟨fun _ => ⟨hone _, hone _⟩, fun _ p => ?_, fun _ => List.nodup_nil⟩
  cases p <;> exact fresh_holds _

theorem Outer.bounds {s t : State} (h : Outer s t) : BoundsFrame s t := by
  cases h with
  | powerGood => exact .updPanel_of_eq rfl rfl
  | warningPin => exact .beside rfl rfl rfl rfl
  | beginReset cause =>
    refine ⟨id, fun hs p => ?_, fun _ => List.nodup_nil⟩
    cases p with
    | cluster => exact hs .cluster
    | centre => exact hs .centre
  | finishReset h =>
    have hreport : BoundsFrame (Machine.reloadDevice h s) (reportHold (Machine.reloadDevice h s)) :=
      (Frame.ite (.postBoth ..) (.refl _)).bounds
    exact (((BoundsFrame.reloadDevice h s).trans hreport).trans (.autostart ..)).trans (.autostart ..)
  | tick =>
    unfold Machine.tick
    have hcount : BoundsFrame s { s with count := s.count.after 1, free := s.free + 1, monitor := s.monitor.tick } :=
      .beside rfl rfl rfl rfl
    exact (hcount.trans (.updPanel_of_eq rfl rfl)).trans (.updPanel_of_eq rfl rfl)

theorem Bookkeeping.bounds {s t : State} (h : Bookkeeping s t) : BoundsFrame s t := by
  cases h with
  | queue => exact .beside rfl rfl rfl rfl
  | free => exact .beside rfl rfl rfl rfl
  | requested => exact .beside rfl rfl rfl rfl
  | port q f hf => exact (Frame.updPort fun h => (hf _).trans h).bounds

theorem Move.bounds {s t : State} (h : Move s t) : BoundsFrame s t := by
  cases h with
  | bookkeeping h => exact h.bounds
  | outer h => exact h.bounds
  | effect hreset h =>
    cases h with
    | setup h => exact h.bounds
    | running h => exact h.frame.bounds

end Sys2Proof.Machine

/-!
PROOF. What the plans of a panel must uphold (`PlansWithin`), lists of slots that can run in a frame, and the arithmetic of
the count (the last part of O55).
-/

namespace Sys2Proof.Machine

open Sys2Proof

/-! ### The count -/

/-- The instant `n` tu after `t` is now exactly when `n` tu have passed (R6). -/
theorem Tick.after_eq_iff {t now : Tick} {n : Nat} (hn : n < 2 ^ 24) : t.after n = now ↔ now.since t = n := by
  unfold Tick.after Tick.since
  constructor
  · rintro rfl
    rw [add_sub_cancel_left, BitVec.toNat_ofNat, Nat.mod_eq_of_lt hn]
  · rintro rfl
    rw [BitVec.ofNat_toNat, BitVec.setWidth_eq, add_sub_cancel]

theorem Tick.since_self (t : Tick) : t.since t = 0 := by simp [Tick.since]

/-- One tu later one more tu has passed. -/
theorem Tick.since_after_one {t now : Tick} (h : now.since t + 1 < 2 ^ 24) : (now.after 1).since t = now.since t + 1 := by
  refine (Tick.after_eq_iff h).mp ?_
  have hnow : t.after (now.since t) = now := (Tick.after_eq_iff (Nat.lt_of_succ_lt h)).mpr rfl
  unfold Tick.after at hnow ⊢
  rw [BitVec.ofNat_add, ← BitVec.add_assoc, hnow]

theorem PanelState.frameTick_iff {x : PanelState} {start now : Tick} {n : Nat} (hstart : x.frame.start = some start)
    (hn : n < 2 ^ 24) : x.frameTick n = some now ↔ now.since start = n := by
  rw [PanelState.frameTick, hstart, Option.map_some, Option.some.injEq]
  exact Tick.after_eq_iff hn

/-! ### Slots that can run in a frame -/

theorem refreshedBands_cons (x : Slot) (xs : List Slot) : refreshedBands (x :: xs) = refreshedBands [x] ++ refreshedBands xs := by
  unfold refreshedBands
  rw [← List.filterMap_append]
  rfl

theorem mem_refreshedBands {slots : List Slot} {i : Nat} :
    i ∈ refreshedBands slots ↔ ∃ x ∈ slots, ∃ pol, x.kind = .refresh i pol := by
  induction slots with
  | nil => exact iff_of_false List.not_mem_nil fun ⟨_, h, _⟩ => nomatch h
  | cons x xs ih =>
    rw [refreshedBands_cons, List.mem_append, ih]
    have hone : i ∈ refreshedBands [x] ↔ ∃ pol, x.kind = .refresh i pol := by
      cases hkind : x.kind with
      | refresh j pol =>
        rw [refreshedBands_refresh hkind, List.mem_singleton]
        exact ⟨fun h => ⟨pol, by rw [h]⟩, fun ⟨_, h⟩ => (SlotKind.refresh.inj h).1.symm⟩
      | _ =>
        rw [refreshedBands_other (by rw [hkind]; exact fun _ _ => (nomatch ·))]
        exact iff_of_false List.not_mem_nil fun ⟨_, h⟩ => nomatch h
    rw [hone]
    simp only [List.mem_cons, exists_eq_or_imp]

theorem refreshesBand_iff {slots : List Slot} {i : Nat} : refreshesBand slots i = true ↔ i ∈ refreshedBands slots := by
  rw [mem_refreshedBands, refreshesBand, List.any_eq_true]
  refine exists_congr fun x => and_congr_right fun _ => ?_
  cases x.kind with
  | refresh j pol =>
    simp only [beq_iff_eq, SlotKind.refresh.injEq]
    exact ⟨fun h => ⟨pol, h, rfl⟩, fun ⟨_, h, _⟩ => h⟩
  | _ => simp

/-- The bands refreshed stand in the order of the bands of the slots. -/
theorem refreshedBands_sublist (slots : List Slot) :
    (refreshedBands slots).Sublist (slots.filterMap fun x => x.kind.band?) := by
  induction slots with
  | nil => exact .slnil
  | cons x xs ih =>
    rw [refreshedBands_cons, show x :: xs = [x] ++ xs from rfl, List.filterMap_append]
    refine List.Sublist.append ?_ ih
    cases hkind : x.kind with
    | refresh j pol =>
      rw [refreshedBands_refresh hkind, List.filterMap_cons, hkind]
      exact .refl _
    | _ =>
      rw [refreshedBands_other (by rw [hkind]; exact fun _ _ => (nomatch ·))]
      exact List.nil_sublist _

/-- A plan that fits before the blank, with one slot for each band, can run (R54, R59). -/
theorem slotsRunIn_of_fits {plan : Plan} {length blank n : Nat} (hfits : plan.Fits (length - blank)) (hblank : 0 < blank)
    (hle : blank ≤ length) (hbands : plan.slots.filterMap (fun x => x.kind.band?) = List.range n) :
    slotsRunIn plan.slots length := by
  refine ⟨?_, hfits.apart.imp fun h => (Nat.le_add_right ..).trans h, fun x hx => ?_⟩
  · have hsub := refreshedBands_sublist plan.slots
    rw [hbands] at hsub
    exact hsub.nodup List.nodup_range
  · have hend := hfits.ends x hx
    have htail := hfits.tail_le
    omega

/-- The rest of slots that can run can run. -/
theorem slotsRunIn.tail {x : Slot} {xs : List Slot} {length : Nat} (h : slotsRunIn (x :: xs) length) :
    slotsRunIn xs length := by
  obtain ⟨hnodup, horder, hwithin⟩ := h
  rw [refreshedBands_cons] at hnodup
  exact ⟨hnodup.of_append_right, (List.pairwise_cons.mp horder).2, fun y hy => hwithin y (List.mem_cons_of_mem _ hy)⟩

/-! ### What a legal panel grants -/

/-- What the plans ask of the configuration of a panel (R2, R3, R25). -/
structure PanelState.Bounded (x : PanelState) : Prop where
  blank : 0 < blankTime x.timing
  lead : 0 < leadTime x.timing
  leadBelow : leadTime x.timing < x.timing.tMin
  tMax : x.timing.tMax ≤ 2000000
  bMax : 1 ≤ x.bands.bMax

theorem PanelState.bounded_of_items {x : PanelState} (h : x.items.legal) : x.Bounded := by
  obtain ⟨hrange, -, -, hlead, -, -, -, -, -, hbMax, -⟩ := h
  change timingInRange x.timing = true at hrange
  simp only [timingInRange, Bool.and_eq_true, inRange_iff] at hrange
  obtain ⟨⟨⟨⟨⟨⟨⟨⟨-, hline⟩, hvb⟩, -⟩, -⟩, -⟩, -⟩, hmax⟩, hplan⟩ := hrange
  refine ⟨Nat.mul_pos ?_ ?_, Nat.mul_pos ?_ ?_, hlead, hmax.2, (inRange_iff.mp hbMax).1⟩ <;> omega

/-- Lengths stay clear of the wrap of the count (R6). -/
theorem PanelState.Bounded.length_lt {x : PanelState} (h : x.Bounded) {n : Nat} (hn : x.lengthLegal n) : n + 1 < 2 ^ 24 := by
  have htMax := h.tMax
  obtain ⟨-, hle⟩ := hn
  omega

/-! ### What the plans uphold -/

/-- What `plansLegal` says of a panel that scans, once `passed` tu of its frame have passed. -/
structure PanelState.PlansWithin (x : PanelState) (passed length : Nat) : Prop where
  inFrame : passed ≤ length
  run : slotsRunIn x.toCome length
  ahead : ∀ slot ∈ x.toCome, passed ≤ slot.start
  toCome : ∀ i ∈ refreshedBands x.toCome, ∀ b, x.bands.records[i]? = some b → |b.balance + x.sign| ≤ (x.bands.bMax : Int)
  planPoint : x.power.stopPending = false → x.frame.next = none → passed + leadTime x.timing ≤ length
  planned : x.frame.next ≠ none → x.builder.ready ≠ none ∨ ∃ y, x.builder.build = some y ∧ y.frameLate = false
  ready : ∀ r, x.builder.ready = some r → slotsRunIn r.plan.slots r.length ∧
    ∀ i ∈ refreshedBands r.plan.slots, ∀ b, x.bands.records[i]? = some b → |x.projected i b - x.sign| ≤ (x.bands.bMax : Int)
  build : ∀ y, x.builder.build = some y → y.frameLate = false →
    y.snapshot.number = x.frame.number + 1 ∧ y.snapshot.bMax = x.bands.bMax ∧
      ∀ i b, x.bands.records[i]? = some b → ∃ z, y.snapshot.bands[i]? = some z ∧ z.balance = x.projected i b

theorem PanelState.plansLegal_iff {x : PanelState} {now : Tick} :
    x.plansLegal now ↔ (x.power.state = .scanning → ∀ start length, x.frame.start = some start →
      x.frame.length = some length → x.PlansWithin (now.since start) length) := by
  constructor
  · intro h hstate start length hstart hlength
    obtain ⟨hin, hrun, hahead, htoCome, hpoint, hplanned, hready, hbuild⟩ := h hstate start length hstart hlength
    exact ⟨hin, hrun, hahead, htoCome, hpoint, hplanned, hready, hbuild⟩
  · intro h hstate start length hstart hlength
    have hx := h hstate start length hstart hlength
    exact ⟨hx.inFrame, hx.run, hx.ahead, hx.toCome, hx.planPoint, hx.planned, hx.ready, hx.build⟩

/-- The slots to come are those of the place in the executing plan. -/
theorem PanelState.toCome_eq (x : PanelState) :
    x.toCome = (x.seq.map Executing.place).elim [] fun place => place.1.slots.drop place.2 := by
  unfold PanelState.toCome
  cases x.seq <;> rfl

theorem RunsAs.toCome {x y : PanelState} (h : RunsAs x y) : y.toCome = x.toCome := by
  rw [PanelState.toCome_eq, PanelState.toCome_eq, h.place]

theorem RunsAs.sign {x y : PanelState} (h : RunsAs x y) : y.sign = x.sign := by
  rw [PanelState.sign, PanelState.sign, h.frame]

/-- The record of a band that ran on has the balance it had. -/
theorem RunsAs.balance {x y : PanelState} (h : RunsAs x y) {i : Nat} {b : Band} (hb : y.bands.records[i]? = some b) :
    ∃ c, x.bands.records[i]? = some c ∧ c.balance = b.balance := by
  have hcarried := congrArg (fun l => l[i]?) h.carried
  simp only [List.getElem?_map, hb, Option.map_some] at hcarried
  obtain ⟨c, hc, heq⟩ := Option.map_eq_some_iff.mp hcarried.symm
  exact ⟨c, hc, congrArg Prod.snd heq⟩

theorem RunsAs.projected {x y : PanelState} (h : RunsAs x y) {i : Nat} {b c : Band} (hbalance : c.balance = b.balance) :
    y.projected i b = x.projected i c := by
  unfold PanelState.projected
  rw [h.toCome, h.sign, hbalance]

theorem PanelState.PlansWithin.runs {x y : PanelState} {passed length : Nat} (hx : x.PlansWithin passed length)
    (h : RunsAs x y) : y.PlansWithin passed length where
  inFrame := hx.inFrame
  run := h.toCome ▸ hx.run
  ahead := h.toCome ▸ hx.ahead
  toCome := fun i hi b hb => by
    obtain ⟨c, hc, hbalance⟩ := h.balance hb
    rw [h.sign, h.bMax, ← hbalance]
    exact hx.toCome i (h.toCome ▸ hi) c hc
  planPoint := fun hstop hnext => by
    rw [h.timing]
    exact hx.planPoint (h.stop hstop) (h.frame ▸ hnext)
  planned := fun hnext => by
    rw [h.ready, h.build]
    exact hx.planned (h.frame ▸ hnext)
  ready := fun r hr => by
    obtain ⟨hrun, hbalances⟩ := hx.ready r (h.ready ▸ hr)
    refine ⟨hrun, fun i hi b hb => ?_⟩
    obtain ⟨c, hc, hbalance⟩ := h.balance hb
    rw [h.projected hbalance, h.sign, h.bMax]
    exact hbalances i hi c hc
  build := fun y hy hlate => by
    obtain ⟨hnumber, hmax, hbands⟩ := hx.build y (h.build ▸ hy) hlate
    refine ⟨by rw [h.frame]; exact hnumber, hmax.trans h.bMax.symm, fun i b hb => ?_⟩
    obtain ⟨c, hc, hbalance⟩ := h.balance hb
    obtain ⟨z, hz, hsame⟩ := hbands i c hc
    exact ⟨z, hz, by rw [h.projected hbalance]; exact hsame⟩

end Sys2Proof.Machine

/-!
PROOF. Every step keeps the balances and the plans that uphold them (the last part of O55): a plan refreshes no band past its
limit, and what runs is what was planned.
-/

namespace Sys2Proof.Machine

open Sys2Proof

/-! ### Signs and plans -/

/-- Polarity alternates (R9). -/
theorem sign_succ (n : FrameNo) :
    (if (n + 1).toNat % 2 = 0 then 1 else -1 : Int) = -(if n.toNat % 2 = 0 then 1 else -1) := by
  have hparity : (n + 1).toNat % 2 = (n.toNat + 1) % 2 := by
    rw [BitVec.toNat_add]
    exact Nat.mod_mod_of_dvd _ (by decide)
  rw [hparity]
  split <;> split <;> omega

/-- A plan built on the bands as they will stand refreshes none past its limit (R48, R62). -/
theorem PanelState.allowed_of_build {x : PanelState} {sn : Snapshot} (hnumber : sn.number = x.frame.number + 1)
    (hmax : sn.bMax = x.bands.bMax)
    (hbands : ∀ i b, x.bands.records[i]? = some b → ∃ z, sn.bands[i]? = some z ∧ z.balance = x.projected i b) {plan : Plan}
    (hplan : plan = sn.builtPlan ∨ plan = sn.fallbackPlan) :
    ∀ i ∈ refreshedBands plan.slots, ∀ b, x.bands.records[i]? = some b →
      |x.projected i b - x.sign| ≤ (x.bands.bMax : Int) := by
  intro i hi b hb
  obtain ⟨slot, hslot, pol, hkind⟩ := mem_refreshedBands.mp hi
  obtain ⟨-, z, hz, hle⟩ := sn.allowed_of_plan hplan hslot hkind
  obtain ⟨z', hz', hbalance⟩ := hbands i b hb
  obtain rfl : z = z' := Option.some.inj (hz.symm.trans hz')
  rw [sn.sign_eq, hnumber, sign_succ, ← sub_eq_add_neg, hbalance, hmax] at hle
  exact hle

/-- The balance a snapshot projects of a band is the one the panel's slots to come leave (R45). -/
theorem projectBand_balance (x : PanelState) (i : Nat) (b : Band) (covered mediaOwned : Bool) :
    (projectBand x.seq x.sign covered mediaOwned (x.bands.placedAt i b)).balance = x.projected i b := by
  unfold PanelState.projected PanelState.toCome
  cases hseq : x.seq with
  | none => rfl
  | some e =>
    show (projectBand (some e) _ _ _ _).balance = if i ∈ refreshedBands (e.plan.slots.drop e.position) then _ else _
    by_cases hdrop : refreshesBand (e.plan.slots.drop e.position) i = true
    · rw [if_pos (refreshesBand_iff.mp hdrop)]
      exact (projectBand_still_due (x := x.bands.placedAt i b) hdrop).2.2
    · rw [if_neg (mt refreshesBand_iff.mpr hdrop)]
      rw [Bool.not_eq_true] at hdrop
      by_cases htake : refreshesBand (e.plan.slots.take e.position) i = true
      · exact (projectBand_done (x := x.bands.placedAt i b) hdrop htake).2.2
      · have hnone : refreshesBand e.plan.slots i = false := by
          rw [← List.take_append_drop e.position e.plan.slots, refreshesBand_append, hdrop, Bool.eq_false_iff.mpr htake]
          rfl
        exact (projectBand_skipped (x := x.bands.placedAt i b) hnone).2.2

theorem Snapshot.builtPlan_runs (sn : Snapshot) (h : 0 < blankTime sn.timing) : slotsRunIn sn.builtPlan.slots sn.builtLength :=
  slotsRunIn_of_fits sn.builtPlan_fits h sn.blankTime_le_builtLength sn.builtPlan_bands

theorem Snapshot.fallbackPlan_runs (sn : Snapshot) (h : 0 < blankTime sn.timing) :
    slotsRunIn sn.fallbackPlan.slots sn.fallbackLength :=
  slotsRunIn_of_fits sn.fallbackPlan_fits h sn.blankTime_le_fallbackLength sn.fallbackPlan_bands

/-- The plan of frame 0 runs in its frame (R7, R43). -/
theorem fullPlan_runs (x : PanelState) (polarity : FramePolarity) (h : 0 < blankTime x.timing) :
    slotsRunIn (fullPlan x.timing polarity (x.bands.records.map Band.lines)).slots (max x.timing.tNom x.fullCost) := by
  have hfull : x.fullCost = ((x.bands.records.map Band.lines).map (refreshCost x.timing)).sum + blankTime x.timing := rfl
  have hle : x.fullCost ≤ max x.timing.tNom x.fullCost := Nat.le_max_right ..
  have hcost := congrArg List.sum (bandItems_cost_of_all x.timing polarity 0 (x.bands.records.map Band.lines))
  have hfits := bandPlan_fits (bandItems x.timing polarity (fun _ => true) 0 (x.bands.records.map Band.lines))
  rw [hcost] at hfits
  exact slotsRunIn_of_fits (hfits.mono (by omega)) h (by omega)
    (assemble_bandItems_band (fun _ h => absurd h List.not_mem_nil) ..)

/-! ### Frames that start -/

/-- A frame that has just started, its plan ahead of it. -/
theorem PanelState.PlansWithin.of_start {y : PanelState} {slots : List Slot} {length : Nat} (htoCome : y.toCome = slots)
    (hrun : slotsRunIn slots length) (hnext : y.frame.next = none) (hready : y.builder.ready = none)
    (hbuild : ∀ b, y.builder.build = some b → b.frameLate = true) (hlead : leadTime y.timing ≤ length)
    (hbalance : ∀ i ∈ refreshedBands slots, ∀ b, y.bands.records[i]? = some b →
      |b.balance + y.sign| ≤ (y.bands.bMax : Int)) : y.PlansWithin 0 length where
  inFrame := Nat.zero_le _
  run := htoCome ▸ hrun
  ahead := fun _ _ => Nat.zero_le _
  toCome := htoCome ▸ hbalance
  planPoint := fun _ _ => by rwa [Nat.zero_add]
  planned := fun h => absurd hnext h
  ready := fun r hr => by rw [hready] at hr; cases hr
  build := fun b hb hlate => by rw [hbuild b hb] at hlate; cases hlate

theorem Builder.handOver_late {h : Handed} {b : Builder} {y : Build} (hy : (b.handOver h).build = some y) :
    y.frameLate = true := by
  obtain ⟨z, -, rfl⟩ := Builder.handOver_build hy
  rfl

theorem plans_of_begin {x : PanelState} {w : Power} {h : Handed} (now : Tick) (hx : x.Bounded) (hitems : x.items.legal)
    (hplan : h.plan = fullPlan x.timing .pos (x.bands.records.map Band.lines))
    (hlength : h.length = max x.timing.tNom x.fullCost) :
    (PanelState.started now h (PanelState.beginScan { x with power := w })).PlansWithin 0 h.length ∧
      (PanelState.started now h (PanelState.beginScan { x with power := w })).balanced := by
  have hzero : ∀ b ∈ x.bands.records.map Band.atStart, b.balance = 0 := fun b hb => by
    obtain ⟨c, -, rfl⟩ := List.mem_map.mp hb
    rfl
  refine ⟨?_, fun b hb => ?_⟩
  · have hrun := fullPlan_runs x .pos hx.blank
    rw [← hlength, ← hplan] at hrun
    refine .of_start (slots := h.plan.slots) rfl hrun rfl rfl (fun b hb => Builder.handOver_late hb) ?_ fun i _ b hb => ?_
    · show leadTime x.timing ≤ h.length
      have hnom := (lengthLegal_tNom hitems).1
      have hle : x.timing.tNom ≤ max x.timing.tNom x.fullCost := Nat.le_max_left ..
      have hlead := hx.leadBelow
      omega
    · rw [hzero b (List.mem_of_getElem? hb)]
      exact Int.ofNat_le.mpr hx.bMax
  · rw [hzero b hb]
    exact Int.natCast_nonneg _

/-- At its end no slot of a frame is still to come (R59). -/
theorem PanelState.PlansWithin.toCome_nil {x : PanelState} {length : Nat} (h : x.PlansWithin length length) : x.toCome = [] := by
  obtain ⟨-, -, hwithin⟩ := h.run
  refine List.eq_nil_iff_forall_not_mem.mpr fun slot hslot => ?_
  have hahead := h.ahead slot hslot
  have hstart := hwithin slot hslot
  omega

theorem PanelState.projected_of_nil {x : PanelState} (h : x.toCome = []) (i : Nat) (b : Band) :
    x.projected i b = b.balance := by
  unfold PanelState.projected
  rw [h]
  exact if_neg List.not_mem_nil

/-- What is handed over at a frame end runs in its frame and refreshes no band past its limit (R36, R61). -/
theorem PanelState.Hands.runs {x : PanelState} {h : Handed} {length : Nat} (hands : x.Hands h)
    (hx : x.PlansWithin length length) (hbound : x.Bounded) (hframes : x.FramesWithin)
    (hstop : x.power.stopPending = false) :
    slotsRunIn h.plan.slots h.length ∧ ∀ i ∈ refreshedBands h.plan.slots, ∀ b, x.bands.records[i]? = some b →
      |x.projected i b - x.sign| ≤ (x.bands.bMax : Int) := by
  have hnext : x.frame.next ≠ none := fun hnone => by
    have hpoint := hx.planPoint hstop hnone
    have hlead := hbound.lead
    omega
  have hplanned := hx.planned hnext
  cases hands with
  | ready r hready => exact hx.ready r hready
  | build b hready hbuild =>
    obtain ⟨y, hy, hlate⟩ := hplanned.resolve_left (not_not_intro hready)
    obtain rfl : b = y := Option.some.inj (hbuild.symm.trans hy)
    obtain ⟨hnumber, hmax, hbands⟩ := hx.build b hbuild hlate
    have hblank : 0 < blankTime b.snapshot.timing := by
      rw [(hframes.build b hbuild).1]
      exact hbound.blank
    exact ⟨b.snapshot.fallbackPlan_runs hblank, x.allowed_of_build hnumber hmax hbands (.inr rfl)⟩
  | neither b hready hbuild =>
    obtain ⟨y, hy, -⟩ := hplanned.resolve_left (not_not_intro hready)
    rw [hbuild] at hy
    cases hy

theorem plans_of_goesOn {x : PanelState} {h : Handed} {d : Dimmer} {length : Nat} (now : Tick) (hands : x.Hands h)
    (hx : x.PlansWithin length length) (hbound : x.Bounded) (hitems : x.items.legal) (hframes : x.FramesWithin)
    (hstop : x.power.stopPending = false) : (x.goneOn now h d).PlansWithin 0 h.length := by
  obtain ⟨hrun, hbalances⟩ := hands.runs hx hbound hframes hstop
  have hsign : (x.goneOn now h d).sign = -x.sign := sign_succ x.frame.number
  refine .of_start (slots := h.plan.slots) rfl hrun rfl rfl (fun b hb => Builder.handOver_late hb) ?_ fun i hi b hb => ?_
  · show leadTime x.timing ≤ h.length
    have hmin := (hands.length_legal hframes hitems).1
    have hlead := hbound.leadBelow
    omega
  · have hle := hbalances i hi b hb
    rw [PanelState.projected_of_nil hx.toCome_nil] at hle
    rw [hsign, ← sub_eq_add_neg]
    exact hle

/-! ### The plan point and the build -/

theorem plans_of_planPoint {x : PanelState} {b : Build} {hold : Bool} {passed length : Nat}
    (hx : x.PlansWithin passed length) (hbuild : x.BuildsOn b) : ((x.planned hold).building b).PlansWithin passed length where
  inFrame := hx.inFrame
  run := hx.run
  ahead := hx.ahead
  toCome := hx.toCome
  planPoint := fun _ hnext => nomatch (hnext : some x.plannedLength = none)
  planned := fun _ => .inr ⟨b, rfl, hbuild.onTime⟩
  ready := hx.ready
  build := fun y hy _ => by
    obtain rfl := Option.some.inj hy
    refine ⟨hbuild.number, hbuild.bMax, fun i r hr => ?_⟩
    obtain ⟨covered, mediaOwned, hz⟩ := hbuild.bands i r hr
    exact ⟨_, hz, projectBand_balance x i r covered mediaOwned⟩

theorem plans_of_build {x : PanelState} {b : Build} {passed length : Nat} (hx : x.PlansWithin passed length)
    (hbound : x.Bounded) (hbuild : x.builder.build = some b) (htiming : b.snapshot.timing = x.timing) :
    PanelState.PlansWithin { x with builder := x.builder.complete } passed length := by
  have hblank : 0 < blankTime b.snapshot.timing := htiming ▸ hbound.blank
  rw [Builder.complete_eq hbuild]
  refine ⟨hx.inFrame, hx.run, hx.ahead, hx.toCome, hx.planPoint, fun hnext => .inl ?_, fun r hr => ?_,
    fun y hy => nomatch (hy : (none : Option Build) = some y)⟩
  · show (if b.frameLate = true then x.builder.ready else some b.snapshot.readyPlan) ≠ none
    split
    · refine (hx.planned hnext).resolve_right ?_
      rintro ⟨y, hy, hlate⟩
      obtain rfl : b = y := Option.some.inj (hbuild.symm.trans hy)
      simp_all
    · exact Option.some_ne_none _
  · change (if b.frameLate = true then x.builder.ready else some b.snapshot.readyPlan) = some r at hr
    split at hr
    · exact hx.ready r hr
    · rename_i hlate
      obtain rfl := Option.some.inj hr
      obtain ⟨hnumber, hmax, hbands⟩ := hx.build b hbuild (Bool.not_eq_true _ ▸ hlate)
      exact ⟨b.snapshot.builtPlan_runs hblank, x.allowed_of_build hnumber hmax hbands (.inl rfl)⟩

/-! ### A slot that starts -/

/-- The balance of a band once a slot has started. -/
theorem balance_of_start {x : PanelState} {bands : BandTable} {slot : Slot}
    (hbands : ∀ i, bands.records[i]?.map Band.carried = x.bands.records[i]?.map fun b =>
      (b.lines, if i ∈ refreshedBands [slot] then b.balance + x.sign else b.balance)) {i : Nat} {b : Band}
    (hb : bands.records[i]? = some b) :
    ∃ c, x.bands.records[i]? = some c ∧ b.balance = if i ∈ refreshedBands [slot] then c.balance + x.sign else c.balance := by
  have hi := hbands i
  rw [hb, Option.map_some] at hi
  obtain ⟨c, hc, heq⟩ := Option.map_eq_some_iff.mp hi.symm
  exact ⟨c, hc, (congrArg Prod.snd heq).symm⟩

theorem plans_of_start {x : PanelState} {e f : Executing} {slot : Slot} {bands : BandTable} {length : Nat}
    (hx : x.PlansWithin slot.start length) (hbalanced : x.balanced) (hseq : x.seq = some e)
    (hslot : e.plan.slots[e.position]? = some slot) (hplace : f.place = (e.plan, e.position + 1))
    (hmax : bands.bMax = x.bands.bMax)
    (hbands : ∀ i, bands.records[i]?.map Band.carried = x.bands.records[i]?.map fun b =>
      (b.lines, if i ∈ refreshedBands [slot] then b.balance + x.sign else b.balance)) :
    PanelState.PlansWithin { x with seq := some f, bands := bands } slot.start length ∧
      PanelState.balanced { x with seq := some f, bands := bands } := by
  have hbefore : x.toCome = slot :: e.plan.slots.drop (e.position + 1) := by
    obtain ⟨hlt, hget⟩ := List.getElem?_eq_some_iff.mp hslot
    rw [PanelState.toCome_eq, hseq]
    show e.plan.slots.drop e.position = _
    rw [List.drop_eq_getElem_cons hlt, hget]
  have hafter : ({ x with seq := some f, bands := bands } : PanelState).toCome = e.plan.slots.drop (e.position + 1) := by
    rw [PanelState.toCome_eq]
    show f.place.1.slots.drop f.place.2 = _
    rw [hplace]
  have hrun := hx.run
  have hahead := hx.ahead
  have hlimit := hx.toCome
  generalize e.plan.slots.drop (e.position + 1) = rest at hbefore hafter
  rw [hbefore] at hrun hahead hlimit
  have hsplit : ∀ i, i ∈ refreshedBands (slot :: rest) ↔ i ∈ refreshedBands [slot] ∨ i ∈ refreshedBands rest := fun i => by
    rw [refreshedBands_cons, List.mem_append]
  have hapart : ∀ i, i ∈ refreshedBands [slot] → i ∉ refreshedBands rest := by
    obtain ⟨hnodup, -⟩ := hrun
    rw [refreshedBands_cons] at hnodup
    exact fun i hi hrest => (List.nodup_append.mp hnodup).2.2 i hi i hrest rfl
  have hprojected : ∀ i b c, b.balance = (if i ∈ refreshedBands [slot] then c.balance + x.sign else c.balance) →
      PanelState.projected { x with seq := some f, bands := bands } i b = x.projected i c := by
    intro i b c hbalance
    unfold PanelState.projected
    rw [hafter, hbefore, hbalance]
    show (if i ∈ refreshedBands rest then _ + x.sign else _) = _
    by_cases hi : i ∈ refreshedBands [slot]
    · rw [if_neg (hapart i hi), if_pos hi, if_pos ((hsplit i).mpr (.inl hi))]
    · rw [if_neg hi, if_congr ((hsplit i).trans (or_iff_right hi)) rfl rfl]
  refine ⟨⟨hx.inFrame, hafter ▸ hrun.tail, ?_, ?_, hx.planPoint, hx.planned, fun r hr => ?_, fun y hy hlate => ?_⟩, ?_⟩
  · rw [hafter]
    exact fun y hy => hahead y (List.mem_cons_of_mem _ hy)
  · rw [hafter]
    intro i hi b hb
    obtain ⟨c, hc, hbalance⟩ := balance_of_start hbands hb
    rw [if_neg fun hslot => hapart i hslot hi] at hbalance
    show |b.balance + x.sign| ≤ (bands.bMax : Int)
    rw [hmax, hbalance]
    exact hlimit i ((hsplit i).mpr (.inr hi)) c hc
  · obtain ⟨hruns, hbalances⟩ := hx.ready r hr
    refine ⟨hruns, fun i hi b hb => ?_⟩
    obtain ⟨c, hc, hbalance⟩ := balance_of_start hbands hb
    rw [hprojected i b c hbalance]
    show |x.projected i c - x.sign| ≤ (bands.bMax : Int)
    rw [hmax]
    exact hbalances i hi c hc
  · obtain ⟨hnumber, hmax', hprojections⟩ := hx.build y hy hlate
    refine ⟨hnumber, hmax'.trans hmax.symm, fun i b hb => ?_⟩
    obtain ⟨c, hc, hbalance⟩ := balance_of_start hbands hb
    obtain ⟨z, hz, hsame⟩ := hprojections i c hc
    exact ⟨z, hz, hsame.trans (hprojected i b c hbalance).symm⟩
  · intro b hb
    obtain ⟨i, hi⟩ := List.mem_iff_getElem?.mp hb
    obtain ⟨c, hc, hbalance⟩ := balance_of_start hbands hi
    show |b.balance| ≤ (bands.bMax : Int)
    rw [hmax, hbalance]
    split
    · exact hlimit i ((hsplit i).mpr (.inl ‹_›)) c hc
    · exact hbalanced c (List.mem_of_getElem? hc)

end Sys2Proof.Machine

/-!
PROOF. The last part of O55 put together: what each move, and the passing of a tu, leaves of the plans and balances, and the
obligation.
-/

namespace Sys2Proof.Machine

open Sys2Proof

/-! ### What a panel does -/

/-- Plans and balances through whatever a panel does (R36). -/
theorem PanelChange.plans_balanced {now : Tick} {x y : PanelState} (h : PanelChange now x y) (hsequenced : x.sequenced)
    (hitems : x.items.legal) (hframes : x.framesLegal) (hplans : x.plansLegal now) (hbalanced : x.balanced) :
    y.plansLegal now ∧ y.balanced := by
  rw [PanelState.plansLegal_iff] at hplans ⊢
  rw [PanelState.framesLegal_iff] at hframes
  have hbound := PanelState.bounded_of_items hitems
  have hstarted : x.power.state = .scanning → ∃ start, x.frame.start = some start := fun hstate => by
    obtain ⟨-, -, hon, -⟩ := hsequenced
    exact Option.isSome_iff_exists.mp (hon hstate).1
  cases h with
  | runs h =>
    refine ⟨fun hstate start length hstart hlength => ?_, hbalanced.of_carried h.bMax h.carried⟩
    exact (hplans (h.state ▸ hstate) start length (h.frame ▸ hstart) (h.frame ▸ hlength)).runs h
  | stands hstate _ hbalance => exact ⟨fun hscan => absurd hscan hstate, hbalance hbalanced⟩
  | begins w h _ _ _ hplan hlength hstill =>
    obtain ⟨hbegun, hzero⟩ := plans_of_begin (w := w) now hbound hitems hplan hlength
    refine ⟨fun _ start length hstart hlen => ?_, hzero.of_carried hstill.bMax hstill.carried⟩
    rw [hstill.frame] at hstart hlen
    obtain rfl : now = start := Option.some.inj hstart
    obtain rfl : h.length = length := Option.some.inj hlen
    rw [Tick.since_self]
    exact hbegun.runs hstill.runs
  | plans b hold _ hstate _ _ _ _ hbuild hstill =>
    refine ⟨fun _ start length hstart hlen => ?_, hbalanced.of_carried hstill.bMax hstill.carried⟩
    rw [hstill.frame] at hstart hlen
    exact (plans_of_planPoint (hplans hstate start length hstart hlen) hbuild).runs hstill.runs
  | builds b hbuild hstill =>
    refine ⟨fun hstate start length hstart hlen => ?_, hbalanced.of_carried hstill.bMax hstill.carried⟩
    rw [hstill.frame] at hstart hlen
    rw [hstill.power] at hstate
    have htiming := ((hframes hstate).build b hbuild).1
    exact (plans_of_build (hplans hstate start length hstart hlen) hbound hbuild htiming).runs hstill.runs
  | starts e f slot bands hseq hslot hnow hplace hmax hbands hstill =>
    obtain ⟨houtputs, hmarks, hscan⟩ := hsequenced
    have hstate : x.power.state = .scanning := by
      by_contra hrest
      have hnone := (hscan.atRest hrest).seq
      rw [hseq] at hnone
      cases hnone
    obtain ⟨start, hstart⟩ := hstarted hstate
    obtain ⟨length, hlength⟩ := Option.isSome_iff_exists.mp (hscan.1 hstate).2.1
    have hx := hplans hstate start length hstart hlength
    have hmem : slot ∈ x.toCome := by
      rw [PanelState.toCome_eq, hseq]
      show slot ∈ e.plan.slots.drop e.position
      exact List.mem_of_getElem? (i := 0) (by rw [List.getElem?_drop]; exact hslot)
    have hclear : slot.start < 2 ^ 24 := by
      have hwithin := hx.run.2.2 slot hmem
      have hlt := hbound.length_lt ((hframes hstate).length length hlength)
      omega
    rw [(PanelState.frameTick_iff hstart hclear).mp hnow] at hx
    obtain ⟨hstarts, hbalances⟩ := plans_of_start hx hbalanced hseq hslot hplace hmax hbands
    refine ⟨fun _ start' length' hstart' hlength' => ?_, hbalances.of_carried hstill.bMax hstill.carried⟩
    rw [hstill.frame] at hstart' hlength'
    obtain rfl : start = start' := Option.some.inj (hstart.symm.trans hstart')
    obtain rfl : length = length' := Option.some.inj (hlength.symm.trans hlength')
    rw [(PanelState.frameTick_iff hstart hclear).mp hnow]
    exact hstarts.runs hstill.runs
  | goesOn h d length hstate hstop hlength hnow hands hstill =>
    obtain ⟨start, hstart⟩ := hstarted hstate
    have hwithin := hframes hstate
    have hx := hplans hstate start length hstart hlength
    have hclear : length < 2 ^ 24 := Nat.lt_of_succ_lt (hbound.length_lt (hwithin.length length hlength))
    rw [(PanelState.frameTick_iff hstart hclear).mp hnow] at hx
    refine ⟨fun _ start' length' hstart' hlength' => ?_, hbalanced.of_carried hstill.bMax hstill.carried⟩
    rw [hstill.frame] at hstart' hlength'
    obtain rfl : now = start' := Option.some.inj hstart'
    obtain rfl : h.length = length' := Option.some.inj hlength'
    rw [Tick.since_self]
    exact (plans_of_goesOn (d := d) now hands hx hbound hitems hwithin hstop).runs hstill.runs

/-! ### The passing of a tu -/

/-- A tu passes at an instant at which the panel has nothing to do. -/
theorem PanelState.PlansWithin.pass {x : PanelState} {passed length : Nat} (hx : x.PlansWithin passed length)
    (hend : passed ≠ length) (hslot : ∀ slot, x.toCome.head? = some slot → slot.start ≠ passed)
    (hpoint : x.power.stopPending = false → x.frame.next = none → passed ≠ length - leadTime x.timing) :
    x.PlansWithin (passed + 1) length where
  inFrame := by
    have hin := hx.inFrame
    omega
  run := hx.run
  ahead := by
    obtain ⟨-, horder, -⟩ := hx.run
    have hahead := hx.ahead
    cases hcome : x.toCome with
    | nil => exact fun _ h => absurd h List.not_mem_nil
    | cons first rest =>
      rw [hcome] at horder hahead hslot
      have hfirst := hahead first List.mem_cons_self
      have hnot := hslot first rfl
      intro slot hmem
      rcases List.mem_cons.mp hmem with rfl | hmem
      · omega
      · have hlater := (List.pairwise_cons.mp horder).1 slot hmem
        omega
  toCome := hx.toCome
  planPoint := fun hstop hnext => by
    have hbefore := hx.planPoint hstop hnext
    have hnot := hpoint hstop hnext
    omega
  planned := hx.planned
  ready := hx.ready
  build := hx.build

theorem dueIf_eq_nil {due : Bool} {e : Instr} : dueIf due e = [] ↔ due = false := by
  cases due <;> simp [dueIf]

/-- With nothing due in a device that is not in a reset, no slot starts, no plan point and no frame end falls now. -/
theorem quiet_panel {s : State} (hquiet : s.dueEvents = []) (hheld : s.resetLogic.held = none) (p : Panel) :
    s.slotDue p = none ∧ s.planPointDue p = false ∧ s.frameEndDue p = false := by
  have hevents : s.panelEvents p = [] := by
    unfold State.dueEvents at hquiet
    rw [hheld] at hquiet
    dsimp only at hquiet
    split at hquiet
    · cases hquiet
    · simp only [List.append_eq_nil_iff] at hquiet
      cases p with
      | cluster => exact hquiet.1.1
      | centre => exact hquiet.1.2
  simp only [State.panelEvents, List.append_eq_nil_iff, dueIf_eq_nil] at hevents
  obtain ⟨⟨⟨⟨⟨⟨⟨⟨⟨⟨-, -⟩, hslots⟩, -⟩, -⟩, -⟩, hpoint⟩, hend⟩, -⟩, -⟩, -⟩ := hevents
  refine ⟨?_, hpoint, hend⟩
  unfold State.slotEvents at hslots
  cases hdue : s.slotDue p with
  | none => rfl
  | some slot =>
    rw [hdue] at hslots
    dsimp only at hslots
    cases hkind : slot.kind <;> simp [hkind] at hslots

theorem plans_of_tick {s : State} (hquiet : s.dueEvents = []) (p : Panel) (hheld : s.resetLogic.held = none)
    (hitems : (s.panel p).items.legal) (hframes : (s.panel p).framesLegal) (hplans : (s.panel p).plansLegal s.count) :
    ((tick s).panel p).plansLegal (s.count.after 1) := by
  rw [PanelState.plansLegal_iff] at hplans ⊢
  rw [PanelState.framesLegal_iff] at hframes
  have hbound := PanelState.bounded_of_items hitems
  have hruns := tick_runs s p
  obtain ⟨hslot, hpoint, hend⟩ := quiet_panel hquiet hheld p
  intro hstate start length hstart hlength
  rw [hruns.state] at hstate
  rw [hruns.frame] at hstart hlength
  have hx := hplans hstate start length hstart hlength
  have hlt := hbound.length_lt ((hframes hstate).length length hlength)
  have hin := hx.inFrame
  have hpassed : (s.count.after 1).since start = s.count.since start + 1 := Tick.since_after_one (by omega)
  have hnow : ∀ n, n < 2 ^ 24 → s.count.since start = n → (s.panel p).frameTick n = some s.count := fun n hn hsince =>
    (PanelState.frameTick_iff hstart hn).mpr hsince
  rw [hpassed]
  refine (hx.pass (fun heq => ?_) (fun slot hfirst heq => ?_) fun hstop hnext heq => ?_).runs hruns
  · have htick := hnow length (by omega) heq
    simp [State.frameEndDue, hstate, hlength, htick] at hend
  · have hmem : slot ∈ (s.panel p).toCome := List.mem_of_mem_head? hfirst
    have hwithin := hx.run.2.2 slot hmem
    have htick := hnow slot.start (by omega) heq.symm
    rw [PanelState.toCome_eq] at hfirst
    cases hseq : (s.panel p).seq with
    | none => simp [hseq] at hfirst
    | some e =>
      have hnext : e.nextSlot = some slot := by
        rw [hseq] at hfirst
        change (e.plan.slots.drop e.position).head? = some slot at hfirst
        rwa [List.head?_drop] at hfirst
      simp [State.slotDue, hseq, hnext, htick] at hslot
  · have htick := hnow (length - leadTime (s.panel p).timing) (by omega) heq
    simp [State.planPointDue, hstate, hstop, hnext, hlength, htick] at hpoint

/-! ### The obligation -/

/-- What the plans and balances are kept with: power, scanning and frame lengths (R10, R36). -/
structure State.Planned (s : State) : Prop where
  sequenced : ∀ p, (s.panel p).sequenced
  frames : s.framesLegal
  plans : s.plansLegal
  balances : s.balancesBounded

theorem Move.keeps_planned {s t : State} (h : Move s t) (hs : s.Planned) : t.Planned := by
  obtain ⟨hsequenced, hframes⟩ := h.keeps_frames ⟨hs.sequenced, hs.frames⟩
  obtain ⟨hconfig, hwithin⟩ := hs.frames
  obtain ⟨hoff, hplans⟩ := hs.plans
  have hitems := State.items_legal hconfig
  rcases h.changes with ⟨hquiet, rfl⟩ | hchange
  · have hruns := tick_runs s
    refine ⟨hsequenced, hframes, ⟨fun hheld p => (hruns p).state.trans (hoff hheld p), fun p => ?_⟩, fun p =>
      PanelState.balanced.of_carried (hs.balances p) (hruns p).bMax (hruns p).carried⟩
    show ((tick s).panel p).plansLegal (s.count.after 1)
    by_cases hheld : s.resetLogic.held = none
    · exact plans_of_tick hquiet p hheld (hitems p) (hwithin p) (hplans p)
    · intro hstate
      rw [(hruns p).state, hoff hheld p] at hstate
      cases hstate
  · have hkept := fun p => (hchange.panel p).plans_balanced (hs.sequenced p) (hitems p) (hwithin p) (hplans p) (hs.balances p)
    exact ⟨hsequenced, hframes, ⟨hchange.held hoff, fun p => hchange.count ▸ (hkept p).1⟩, fun p => (hkept p).2⟩

/-- Settles O55: queues, hold counts and expectations keep their bounds, and the plans keep every balance within B_max. -/
theorem stepKeepsQueuesAndHolds : Obligations.StepKeepsQueuesAndHolds := by
  intro s t hstep
  refine ⟨fun hqueues hholds => ⟨?_, ?_⟩, fun hapart => ?_, fun hpower hscan hframes hplans hbalances => ?_⟩
  · exact step_keeps (P := State.queuesBounded) (fun _ _ h => h.bounds.queues) hstep hqueues
  · exact step_keeps (P := State.holdsBounded) (fun _ _ h => h.bounds.holds) hstep hholds
  · exact step_keeps (P := State.expectationsApart) (fun _ _ h => h.bounds.apart) hstep hapart
  · have hplanned := step_keeps (fun _ _ => Move.keeps_planned) hstep
      ⟨State.sequenced_iff.mp ⟨hpower, hscan⟩, hframes, hplans, hbalances⟩
    exact ⟨hplanned.plans, hplanned.balances⟩

end Sys2Proof.Machine
